-- ==== Sys2Proof/Word.lean ====
section
/-!
DEFINITION. Word.lean: the word types of the block and their plainest arithmetic. A register is a
32-bit word (R6); a memory cell is a byte. Counters and times are natural numbers: the spec never
masks them except where a register's width says so.
-/

namespace Sys2Proof

/-- A 32-bit register word (R6). -/
abbrev W32 := BitVec 32

/-- A byte of memory, of a frame or of a plan image. -/
abbrev Byte := BitVec 8

/-- One tick is 2 ns (R18, "Numbers and notation"): ticks per microsecond. -/
abbrev tickUs : Nat := 500

/-- Ticks per millisecond. -/
abbrev tickMs : Nat := 500000

/-- Ticks per second. -/
abbrev tickSec : Nat := 500000000

end Sys2Proof
end

