-- ==== Sys2Proof/Types.lean ====
section
/-!
DEFINITION. Types.lean: the small types that commands carry: who makes an access, how an access
ended, and a fault source's raising with the details the FCU logs.
-/

namespace Sys2Proof

/-- Who makes an access (R522). `hart h` names a hart by its mhartid (R469); `boot` is the boot ROM
on SC0; `debug` is a Debug Module system-bus access. -/
inductive Init where
  | hart (h : Nat)
  | boot
  | debug
deriving DecidableEq, Repr

/-- How the last access or instruction of an initiator ended. `absent`: the initiator cannot make
one (its hart does not run). `busError`: R23, R529. `accessFault`, `pageFault`, `misaligned`,
`illegal`: the exception the hart takes. `pending`: the access waits in the bridge or for a walk. -/
inductive Resp where
  | idle
  | done
  | data (v : Nat)
  | absent
  | busError
  | accessFault
  | pageFault
  | misaligned
  | illegal
  | virtualInstr
  | pending
deriving DecidableEq, Repr

/-- What an access does (SEC_REF_HI.KIND, R547). -/
inductive Acc where
  | read | write | fetch | atomic | devRead | devWrite
deriving DecidableEq, Repr

/-- A raising of fault source `src` with the details of the FCU log (R654): the context concerned,
the safety core concerned, the DET word. -/
structure Raise where
  src : Nat
  ctx : Option Nat
  core : Option Nat
  det : Nat
deriving DecidableEq, Repr

/-- What a channel's converters and sensor give at a sample instant: the current and voltage codes with
the factory calibration applied (R185, R187), before saturation, and the junction temperature in °C. -/
structure Samp where
  i : Int
  v : Int
  tj : Int
deriving DecidableEq, Repr

/-- A frame on a CAN bus as its receivers see it: `fmt` 0 classic, 1 FD, 2 XL; the identifier (for XL the
priority ID); `dlc` as coded (for XL the length less 1); the XL header fields. -/
structure CanFrame where
  fmt : Nat
  ide : Bool := false
  rtr : Bool := false
  brs : Bool := false
  esi : Bool := false
  id : Nat
  dlc : Nat
  data : List Byte
  sec : Bool := false
  sdt : Nat := 0
  vcid : Nat := 0
  af : Nat := 0
deriving DecidableEq, Repr

/-- What a CAN transceiver in STANDBY hears (R412): a wake-up pattern, a frame, or a frame error. -/
inductive XcHeard where
  | pattern
  | frame (f : CanFrame)
  | frameError
deriving DecidableEq, Repr

end Sys2Proof
end

