-- ==== Sys2Proof/Syntax.lean ====
section
/-!
DEFINITION. Syntax.lean: the commands of the block, one constructor per row of spec/opcode_table.json. A
command of software names its initiator first; then come the units the row concerns (a channel, a port, a
core, a slot) and its values. Events of the outside world carry the physical quantities their rule judges.
-/

namespace Sys2Proof

/-- The commands. Each constructor's text is its row's rule and summary. -/
inductive Instr where
  /-- REGISTER_WRITE (R8): A write to a register that has no row of its own changes only the fields whose types
  permit it. -/
  | registerWrite (i : Init) (addr : Nat) (width : Nat) (value : Nat)
  /-- VKEEP_POWER_UP (R80): VKEEP rises and UH starts, resetting every block that only VKEEP power-up resets. -/
  | vkeepPowerUp
  /-- UH_READY (R80): UH becomes ready, starts counting TB0, drives RAIL_EN high and drives the fault pins. -/
  | uhReady
  /-- RAIL_GOOD_RISE (R81): The integrator raises RAIL_GOOD and the 0.5 ms hold of KC in reset begins. -/
  | railGoodRise
  /-- KC_START (R84): KC leaves reset and the boot ROM runs its five stages on SC0. What goes wrong on the way
  (R57, R61, R65) is coded as `Machine.Mishap` says. -/
  | kcStart (set : Nat) (step : Nat) (reason : Nat)
  /-- RAIL_LOSS (R82): RAIL_GOOD falls while KC runs and KC is reset with a rail-loss cause. -/
  | railLoss
  /-- VKEEP_LOSS (R95): VKEEP below 5.5 V for 100 µs takes the module to OFF. -/
  | vkeepLoss
  /-- FIELD_LINK_CLOCK_LOSS (R19): The KC field-link clock stops and UH switches the field links to the keeper
  PLL within 1 µs. -/
  | fieldLinkClockLoss
  /-- ALIGNMENT_PULSE (R20): UH sends the 1 MHz alignment pulse carrying TB0 and each field die aligns its tick
  counter. -/
  | alignmentPulse
  /-- CRYSTAL_STOP (R21): The 32.768 kHz crystal stops and the always-on domain changes to its RC oscillator and
  raises FS241. -/
  | crystalStop
  /-- PWR_REQ_RUN (R95): SYSCTL_PWR REQ RUN requests return to RUN from IDLE or STANDBY. -/
  | pwrReqRun (i : Init)
  /-- PWR_REQ_IDLE (R95): SYSCTL_PWR REQ IDLE halts the application cores with state kept. -/
  | pwrReqIdle (i : Init)
  /-- PWR_REQ_STANDBY (R95): SYSCTL_PWR REQ STANDBY power-gates the application cluster and applies the STANDBY
  bus policy. -/
  | pwrReqStandby (i : Init) (wfi : Nat)
  /-- PWR_REQ_SLEEP (R456): SYSCTL_PWR REQ SLEEP, accepted only with ALL_READY, arms the wake sources and begins
  SLEEP entry. -/
  | pwrReqSleep (i : Init)
  /-- PWR_REQ_KC_RESET (R95): SYSCTL_PWR REQ KC_RESET resets KC. -/
  | pwrReqKcReset (i : Init)
  /-- PWR_REQ_INVALID (R97): A request not allowed, codes 5 and 6 or made during a transition, changes nothing
  and sets REFUSED. -/
  | pwrReqInvalid (i : Init) (req : Nat)
  /-- POWER_TRANSITION_COMPLETE (R95): A power-state transition completes, BUSY clears and STATE changes. -/
  | powerTransitionComplete
  /-- IDLE_WAKE_INTERRUPT (R95): An interrupt to an application core returns the module from IDLE to RUN. -/
  | idleWakeInterrupt
  /-- RTC_SEC_READ (R100): A read of AON_RTC_SEC latches the sub-second count into AON_RTC_SUB. -/
  | rtcSecRead (i : Init)
  /-- RTC_SEC_WRITE (R100): A write of AON_RTC_SEC sets the seconds and zeroes the sub-second count. -/
  | rtcSecWrite (i : Init) (v : W32)
  /-- RTC_ALARM_FIRE (R672): The RTC seconds reach WK_ALARM.SEC, FIRED is set and during SLEEP entry or SLEEP it
  is a wake. -/
  | rtcAlarmFire
  /-- ALARM_ENABLE (R672): Writing WK_ALARM_CTL.EN 1 arms the alarm and fires it at once if the seconds already
  equal SEC. -/
  | alarmEnable (i : Init) (v : W32)
  /-- NOP (R107): Immediate NOP command gives result DONE and no effect. -/
  | nop (i : Init) (ch : Nat)
  /-- OFF (R109): Immediate OFF turns the lead off at the SLEW rate, ends a charge and withdraws a pending leave
  request. -/
  | off (i : Init) (ch : Nat)
  /-- ON (R109): Immediate ON starts the lead with slew-controlled turn-on, taking leave if not exempt. -/
  | on (i : Init) (ch : Nat)
  /-- PWM (R122): Immediate PWM puts the lead into PWM on its generator at the given DUTY. -/
  | pwm (i : Init) (ch : Nat) (duty : Nat)
  /-- CAP (R119): Immediate CAP starts a capacitive-load charge at ILIM, then fully on. -/
  | cap (i : Init) (ch : Nat)
  /-- DUTY (R107): Immediate DUTY sets a new duty from the next period boundary of a lead in PWM. -/
  | duty (i : Init) (ch : Nat) (duty : Nat)
  /-- CANCEL (R115): CANCEL removes every queued timed command of the channel and counts them as dropped. -/
  | cancel (i : Init) (ch : Nat)
  /-- CMD_RESERVED_OPCODE (R107): An immediate command with opcode 0x7 to 0xF gives BAD_ARG. -/
  | cmdReservedOpcode (i : Init) (ch : Nat) (op : Nat) (duty : Nat)
  /-- CH_TCMD_TIME_WRITE (R112): A write of CH_TCMD_TIME stages the activation time and makes it fresh. -/
  | chTcmdTimeWrite (i : Init) (ch : Nat) (time : W32)
  /-- TIMED_OFF (R113): CH_TCMD with OFF enqueues a timed OFF command or executes or discards it if late. -/
  | timedOff (i : Init) (ch : Nat) (ep : Bool)
  /-- TIMED_ON (R113): CH_TCMD with ON enqueues a timed ON command or executes or discards it if late. -/
  | timedOn (i : Init) (ch : Nat) (ep : Bool)
  /-- TIMED_PWM (R113): CH_TCMD with PWM enqueues a timed PWM command or executes or discards it if late. -/
  | timedPwm (i : Init) (ch : Nat) (duty : Nat) (ep : Bool)
  /-- TIMED_CAP (R113): CH_TCMD with CAP enqueues a timed CAP command or executes or discards it if late. -/
  | timedCap (i : Init) (ch : Nat) (ep : Bool)
  /-- TIMED_DUTY (R113): CH_TCMD with DUTY enqueues a timed DUTY command or executes or discards it if late. -/
  | timedDuty (i : Init) (ch : Nat) (duty : Nat) (ep : Bool)
  /-- TIMED_RESERVED_OPCODE (R133): CH_TCMD with an opcode other than OFF, ON, PWM, CAP or DUTY gives BAD_ARG.
  -/
  | timedReservedOpcode (i : Init) (ch : Nat) (op : Nat) (ep : Bool)
  /-- TIMED_COMMAND_DUE (R114): A queued timed command reaches its activation time and takes effect after the
  checks of R108. -/
  | timedCommandDue (n : Nat)
  /-- LEAVE_REQUEST_SEND (R30): At the activation time less the leave lead the field die sends the leave request
  of a timed start. -/
  | leaveRequestSend (n : Nat)
  /-- LEAVE_GRANT_ARRIVAL (R120): A grant reaches the die, the power stage starts and RESULT or TRESULT becomes
  DONE. -/
  | leaveGrantArrival (ch : Nat)
  /-- LEAVE_REFUSAL_ARRIVAL (R120): A refusal reaches the die and the lead stays OFF with WBG_REFUSED. -/
  | leaveRefusalArrival (ch : Nat)
  /-- UH_LEAVE_REQUEST (R31): A leave request reaches UH while it grants leave and is granted if its bank is
  free or else waits. -/
  | uhLeaveRequest
  /-- INRUSH_PHASE_END (R120): The slew or charge phase of a start ends and the grant is released. -/
  | inrushPhaseEnd (ch : Nat)
  /-- CHANNEL_ADOPT (R117): A write of CH_ADOPT adopts the channel if TAG and MODE match. -/
  | channelAdopt (i : Init) (ch : Nat) (tag : Nat) (mode : Nat)
  /-- PWM_PERIOD_BOUNDARY (R121): A generator period boundary applies pending DUTY and CH_PHASE and may release
  a start grant. -/
  | pwmPeriodBoundary (n : Nat) (g : Nat)
  /-- PWM_RISING_EDGE (R122): A PWM on interval begins and the output rises at the SLEW rate. -/
  | pwmRisingEdge (ch : Nat)
  /-- PWM_FALLING_EDGE (R122): A PWM on interval ends and the output turns off. -/
  | pwmFallingEdge (ch : Nat)
  /-- PG_PERIOD_WRITE (R123): A write of PG_PERIOD is applied, or ignored with WR_IGN while a lead of the
  generator is in PWM. -/
  | pgPeriodWrite (i : Init) (n : Nat) (g : Nat) (v : W32)
  /-- PG_ANCHOR_WRITE (R123): A write of PG_ANCHOR is applied, or ignored with WR_IGN while a lead of the
  generator is in PWM. -/
  | pgAnchorWrite (i : Init) (n : Nat) (g : Nat) (v : W32)
  /-- CH_PHASE_WRITE (R123): A write of CH_PHASE takes effect at the next period boundary. -/
  | chPhaseWrite (i : Init) (ch : Nat) (v : W32)
  /-- CHARGE_LEVEL_REACHED (R119): The output reaches the bank less 1 V and the die drives the gate to full
  enhancement. -/
  | chargeLevelReached (ch : Nat)
  /-- CHARGE_COMPLETE (R119): The stage reaches full enhancement, MODE becomes ON, CHG_OK is set and the grant
  released. -/
  | chargeComplete (ch : Nat)
  /-- CHARGE_TIMEOUT (R119): TMAX passes before the bank less 1 V is reached and the channel turns off with
  CHARGE_FAIL. -/
  | chargeTimeout (ch : Nat)
  /-- SHORT_CIRCUIT_DETECT (R147): A member's current reaches the short-circuit threshold and the group latches
  off with 0x1. -/
  | shortCircuitDetect (ch : Nat)
  /-- OVER_TEMPERATURE_DETECT (R156): A member's Tj stays at or above 170 °C for 2 µs and the lead latches or
  enters PEND. -/
  | overTemperatureDetect (ch : Nat) (t : Int)
  /-- AUTO_RESTART (R157): In PEND over-temperature HOT becomes 0 and the lead restarts in its restore mode. -/
  | autoRestart (ch : Nat)
  /-- WIRE_MODEL_UPDATE (R158): At each whole millisecond the engine updates θ for each lead and trips a lead
  that reaches TRIP. -/
  | wireModelUpdate (n : Nat)
  /-- BANK_LOW_SET (R161): The bank feed has been below UV for 10 µs, BANK_LOW becomes 1 and ON or WAIT leads go
  to PEND or OFF. -/
  | bankLowSet (n : Nat)
  /-- BANK_LOW_CLEAR (R161): The bank feed has been at or above UV + HYST for 1 ms and BANK_LOW becomes 0. -/
  | bankLowClear (n : Nat)
  /-- BANK_RESUME (R161): One lead in PEND bank per tick resumes in its restore mode as a start. -/
  | bankResume (n : Nat)
  /-- LATCH_CLEAR (R152): A write of CH_PROT_CLR.LATCH clears the latch if HOT and WM_ABOVE are 0 on every
  member. -/
  | latchClear (i : Init) (ch : Nat)
  /-- RETRY_CLEAR (R157): A write of CH_PROT_CLR.RETRY sets RETRY_CNT to 0. -/
  | retryClear (i : Init) (ch : Nat)
  /-- RETRY_QUIET_EXPIRY (R157): A lead ON without a protective turn-off for QUIET × 100 ms has RETRY_CNT reset.
  -/
  | retryQuietExpiry (ch : Nat)
  /-- ON_STATE_OPEN_LOAD (R162): The lead current stays below ON_THR for ON_TIME and on-state open load is
  detected. -/
  | onStateOpenLoad (ch : Nat)
  /-- OFF_STATE_TEST_START (R163): 5 ms after the output turns off the off-state test current starts. -/
  | offStateTestStart (ch : Nat)
  /-- OFF_STATE_OPEN_LOAD (R163): The output stays at or above OFF_THR for 2 ms and off-state open load is
  detected. -/
  | offStateOpenLoad (ch : Nat)
  /-- OFF_STATE_OPEN_LOAD_END (R163): The output stays below OFF_THR for 2 ms and the off-state condition ends.
  -/
  | offStateOpenLoadEnd (ch : Nat)
  /-- AMB_WRITE (R159): A write of WM_AMB.AMB clears STALE and restarts the TMO count. -/
  | ambWrite (i : Init) (n : Nat) (v : W32)
  /-- AMB_STALE (R159): No AMB write arrives for TMO seconds and STALE is set so FS_AMB applies. -/
  | ambStale (n : Nat)
  /-- KEEP_ALIVE (R165): A write of KEEP_ALIVE with KEY 0xA5 arms or restarts the keeper supervisor and ends a
  keeper loss. -/
  | keepAlive (i : Init) (key : Nat)
  /-- KEEPER_TIMEOUT (R35): The keeper timeout expires and UH applies the loss policies, discards the timed
  queues and activates the responder. -/
  | keeperTimeout
  /-- SEQUENCER_STALL (R166): No protection cycle completes for 32 µs and the local watchdog resets the die. -/
  | sequencerStall (n : Nat) (calBad : Bool)
  /-- CONFIG_CRC_CHECK (R166): The background CRC-32C over the die configuration is recomputed at each whole
  millisecond. -/
  | configCrcCheck (n : Nat) (mismatch : Bool) (calBad : Bool)
  /-- CURRENT_SAMPLE (R186): At each 8 µs grid instant every channel takes a current sample and accumulates
  energy. -/
  | currentSample (n : Nat) (vbank : Int) (xs : List Samp)
  /-- WINDOW_CLOSE (R189): A window closes and its statistics and flags are written together and SEQ increments.
  -/
  | windowClose (ch : Nat)
  /-- WCFG_WRITE (R189): A write of WLEN or SRC takes effect at the next close, or at once while windows are
  stopped. -/
  | wcfgWrite (i : Init) (ch : Nat) (v : W32)
  /-- DIE_MEAS_PHASE_WRITE (R189): A write of DIE_MEAS.PHASE schedules a grid move at the next old-grid sample
  instant. -/
  | dieMeasPhaseWrite (i : Init) (n : Nat) (v : W32)
  /-- ENERGY_CLEAR (R191): A write of CH_MCTL.ECLR zeroes the accumulator at the next current sample. -/
  | energyClear (i : Init) (ch : Nat)
  /-- DISSIPATION_REPORT (R224): Every 1 ms each field die reports its power-stage dissipation and the
  weighbridge forms P_cond. -/
  | dissipationReport
  /-- INPUT_RAW_EDGE (R196): A raw edge on an input restarts its debounce count and is counted by the chatter
  detector. -/
  | inputRawEdge (n : Nat) (mv : Int)
  /-- DEBOUNCE_EXPIRY (R196): The raw level has stayed new for DEB and the accepted level changes with its
  timestamp and event. -/
  | debounceExpiry (n : Nat)
  /-- CHATTER_WINDOW_END (R197): A chatter window ends and the input enters or leaves CHATTER by its edge count.
  -/
  | chatterWindowEnd (n : Nat)
  /-- STUCK_DETECT (R198): The accepted level has been active for STUCK_T and STUCK becomes 1. -/
  | stuckDetect (n : Nat)
  /-- STORM_PERIOD_EXPIRY (R200): STORM_T passes since the first counted wake and STORM_CNT returns to 0. -/
  | stormPeriodExpiry (n : Nat)
  /-- WAKE_ACKNOWLEDGE (R200): Writing 1 to DI_EVT.WAKE acknowledges the wake and resets STORM_CNT. -/
  | wakeAcknowledge (i : Init) (n : Nat) (v : W32)
  /-- ANALOG_INPUT_UPDATE (R195): Every 1 ms an analog input updates DI_STAT.ANA. -/
  | analogInputUpdate (n : Nat) (mv : Int)
  /-- INTERRUPT_ENABLE_WRITE (R585): Writing an enable register with a bit 1 while its event is set sends the
  source's message. -/
  | interruptEnableWrite (i : Init) (src : Nat) (v : W32)
  /-- EVALUATION_ROUND (R233): Every 1 µs the weighbridge judges deferred and new requests and grants, defers or
  refuses them. -/
  | evaluationRound
  /-- KC_POWER_MEASUREMENT (R223): Every 10 µs P_meas is updated from the rail monitors and revocation begins
  after five intervals over the limit. -/
  | kcPowerMeasurement (p : Nat)
  /-- REVOCATION_ACTION (R238): While an over-limit condition persists, every 50 µs the weighbridge steps down
  again or revokes the youngest grant. -/
  | revocationAction
  /-- THERMAL_MODEL_UPDATE (R228): Every 100 µs the four-node thermal model is updated and corrected towards the
  sensors. -/
  | thermalModelUpdate (kc : Int) (uh : Int) (bf : Int) (lid : Int)
  /-- BUDGET_REPORT (R223): Every 1 ms the UH and field-logic powers are compared with their limits and standby
  energy is counted. -/
  | budgetReport (uh : Nat) (fl : Nat)
  /-- FREQUENCY_STEP_REQUEST (R239): A slot request of KIND 1 moves the cluster down at once or asks leave to
  step up. -/
  | frequencyStepRequest (i : Init) (k : Nat) (step : Nat)
  /-- MRAM_BULK_WRITE_REQUEST (R240): A slot request of KIND 2 asks leave for MRAM bulk writes at the declared
  power. -/
  | mramBulkWriteRequest (i : Init) (k : Nat) (dp : Nat)
  /-- SLOT_REQUEST_INVALID (R261): A slot request with another KIND is refused. -/
  | slotRequestInvalid (i : Init) (k : Nat) (kind : Nat)
  /-- SLOT_RELEASE (R240): A write of WBG_SLOT_REL releases or withdraws the slot's request and returns it to
  IDLE. -/
  | slotRelease (i : Init) (k : Nat)
  /-- PERIODIC_RELEASE (R244): A periodic dispatcher task is released at a multiple of its period. -/
  | periodicRelease (n : Nat) (i : Nat)
  /-- EVENT_RELEASE (R244): Delivery of a task's interrupt identity releases the event task and is consumed. -/
  | eventRelease (n : Nat) (id : Nat)
  /-- DISP_RELEASE (R244): A write of DISP_RELEASE releases the named task, counting an overrun if already
  ready. -/
  | dispRelease (i : Init) (n : Nat) (idx : Nat)
  /-- DISPATCH (R245): An idle safety core starts the highest-priority ready task whose class power fits. -/
  | dispatch (n : Nat)
  /-- DEFERRAL_BOUND_DISPATCH (R246): A task's deferral reaches DEFER_MAX, the cluster is forced to step 3 and
  the task dispatched. -/
  | deferralBoundDispatch (n : Nat)
  /-- DISP_END (R247): A write of DISP_END ends the running task, at the slice commit on a Recut core. -/
  | dispEnd (i : Init) (n : Nat)
  /-- DISP_TABLE_WRITE (R248): A run-time write to a dispatcher entry applies, or is ignored with WR_IGN if the
  task is ready or running. -/
  | dispTableWrite (i : Init) (n : Nat) (idx : Nat) (w : Nat) (v : W32)
  /-- FABRIC_ENABLE_WRITE (R300): A write of SWC_FAB_CTL.EN starts the fabric slots or stops it and loses frames
  in flight. -/
  | fabricEnableWrite (i : Init) (v : W32)
  /-- FABRIC_SLOT (R274): In each slot every input sends one eligible cell through stage A and intermediates
  forward cells through stage B. -/
  | fabricSlot (badA : List Nat) (badB : List Nat)
  /-- RESEQUENCE_TIMEOUT (R280): An expected cell misses RSQ_TMO, is declared lost and the incomplete frames of
  its input are discarded. -/
  | resequenceTimeout (o : Nat) (p : Nat)
  /-- FRAME_TRANSMIT_START (R344): An eligible queue of the egress port starts its next frame, discarding frames
  past MAXRES. -/
  | frameTransmitStart (p : Nat) (ecc : Nat)
  /-- LINK_DOWN_REPORT (R291): An egress port reports link down and each queue stops and starts its grace window
  or flushes. -/
  | linkDownReport (p : Nat)
  /-- LINK_UP_REPORT (R291): An egress port reports link up and its queues resume and DOWN clears. -/
  | linkUpReport (p : Nat)
  /-- GRACE_EXPIRY (R292): A queue's grace window closes with the link down and its frames and VOQs are flushed.
  -/
  | graceExpiry (o : Nat) (tc : Nat)
  /-- SPOIL_AUDIT_START (R295): Every PERIOD ms a spoil audit starts with the opposite colour. -/
  | spoilAuditStart
  /-- SPOIL_AUDIT_COMPLETE (R296): A spoil audit completes its sweep, reclaiming cells and correcting reference
  counts. -/
  | spoilAuditComplete (n : Nat) (fix : Nat) (dbl : List Nat)
  /-- FRAME_LOOKUP (R325): The forwarding engine judges a frame through the stages of R325. -/
  | frameLookup (p : Nat) (head : List Byte) (l : Nat) (dur : Nat)
  /-- AGING_SWEEP (R333): Every AGE seconds a sweep removes dynamic MAC entries with HIT 0 and clears HIT on the
  rest. -/
  | agingSweep
  /-- RECOVERY_FUNCTION_RESET (R343): No frame is accepted for RESET_MS and the recovery function resets. -/
  | recoveryFunctionReset (n : Nat)
  /-- MAC_READ_ENTRY (R361): MAC_CMD OP 1 reads entry INDEX. -/
  | macReadEntry (i : Init) (ix : Nat)
  /-- MAC_WRITE_ENTRY (R361): MAC_CMD OP 2 writes MAC_KEY and MAC_DATA to entry INDEX. -/
  | macWriteEntry (i : Init) (ix : Nat)
  /-- MAC_SEARCH (R361): MAC_CMD OP 3 searches by key and returns INDEX and MAC_DATA. -/
  | macSearch (i : Init) (ix : Nat)
  /-- MAC_INSERT (R361): MAC_CMD OP 4 inserts by key into a free way. -/
  | macInsert (i : Init) (ix : Nat)
  /-- MAC_DELETE (R361): MAC_CMD OP 5 deletes the entry with the key. -/
  | macDelete (i : Init) (ix : Nat)
  /-- MAC_FLUSH_PORT (R361): MAC_CMD OP 6 removes the dynamic entries of a port or of every port. -/
  | macFlushPort (i : Init) (ix : Nat)
  /-- MAC_CMD_INVALID (R361): MAC_CMD with OP 0 or 7 to 15 gives RESULT 3. -/
  | macCmdInvalid (i : Init) (ix : Nat)
  /-- MAC_CMD_COMPLETE (R361): A MAC table command completes and BUSY returns to 0 with RESULT. -/
  | macCmdComplete
  /-- SEED_WRITE (R359): A change of FWD_CTL.SEED empties the dynamic MAC entries. -/
  | seedWrite (i : Init) (v : W32)
  /-- GATE_ENTRY_BOUNDARY (R346): A gate-list entry boundary or cycle start changes the gate states of the port.
  -/
  | gateEntryBoundary (p : Nat)
  /-- QBV_CHANGE (R347): Writing QBV_CTL.CHANGE checks the administrative list and schedules its change time. -/
  | qbvChange (i : Init) (p : Nat)
  /-- GATE_LIST_SWITCH (R347): At the change time the administrative list becomes the operating list. -/
  | gateListSwitch (p : Nat)
  /-- CG_FRAME_RECEIVE (R356): CG receives a frame, checks it and routes each ACF message in order. -/
  | cgFrameReceive
  /-- PHY_LINK_CHANGE (R369): A PHY enters or leaves its link-OK state and the port reports link up or down. -/
  | phyLinkChange (p : Nat) (up : Bool)
  /-- LINK_TRAINING_DONE (R370): MG link training ends by link up or failure and releases its grant. -/
  | linkTrainingDone (p : Nat) (ok : Bool)
  /-- TRAINING_RETRY (R370): 10 ms after a refused, revoked or failed training the MG port retries. -/
  | trainingRetry (p : Nat)
  /-- FRAME_RECEIVE_END (R371): A received frame ends and passes the checks of R371, including learning and
  MACsec validation. -/
  | frameReceiveEnd (p : Nat) (l : List Byte) (fcs : Bool) (dur : Nat)
  /-- PAUSE_EXPIRY (R373): A paused class's quanta time runs out and the class resumes. -/
  | pauseExpiry (p : Nat) (tc : Nat)
  /-- PAUSE_TRANSMIT (R374): IN_VOQ.USED reaches XOFF or falls below XON and the port sends pause or quanta 0.
  -/
  | pauseTransmit (p : Nat)
  /-- PAUSE_REFRESH (R374): Every QUANTA × 256 bit times while USED ≥ XON the port sends pause again. -/
  | pauseRefresh (p : Nat)
  /-- LAUNCH_TIME_REACHED (R375): TB0 reaches a frame's launch time and the frame becomes eligible. -/
  | launchTimeReached (p : Nat) (ecc : Nat)
  /-- TRANSMIT_UNDERRUN (R376): The MAC needs an unlinked byte, ends the frame with an inverted FCS and raises
  CT_THR. -/
  | transmitUnderrun (p : Nat)
  /-- CT_DECAY (R376): After DECAY ms without an underrun CT_THR falls by 256 bytes. -/
  | ctDecay (p : Nat)
  /-- CT_RESET (R376): A write of ETH_CT.CT_RESET sets CT_THR to 256. -/
  | ctReset (i : Init) (p : Nat) (v : W32)
  /-- PREEMPTION_VERIFY (R378): After link up the port runs 802.3br verification and enables preemption or
  fails. -/
  | preemptionVerify (p : Nat) (ok : Bool)
  /-- TC10_SLEEP_REQUEST (R383): A write of SLEEP_REQ sends the TC10 sleep request to the partner. -/
  | tc10SleepRequest (i : Init) (p : Nat) (v : W32)
  /-- TC10_SLEEP_ACCEPTED (R383): The partner accepts and the port enters TC10 sleep. -/
  | tc10SleepAccepted (p : Nat)
  /-- TC10_SLEEP_TIMEOUT (R383): The partner does not accept within 16 ms and SLP_FAIL is set. -/
  | tc10SleepTimeout (p : Nat)
  /-- TC10_PARTNER_SLEEP (R383): A partner sleep request is received and accepted if ACCEPT_RX is 1. -/
  | tc10PartnerSleep (p : Nat)
  /-- TC10_WAKE_PULSE (R384): A detector receives a TC10 wake-up pulse and wakes the port, or the module in
  SLEEP. -/
  | tc10WakePulse (p : Nat)
  /-- TC10_WAKE_REQUEST (R384): A write of WAKE_REQ sends a wake-up pulse and retrains the link. -/
  | tc10WakeRequest (i : Init) (p : Nat) (v : W32)
  /-- QP_TX_TAIL_WRITE (R385): A write of QP_TX_TAIL hands transmit descriptors to the host port. -/
  | qpTxTailWrite (i : Init) (q : Nat) (v : W32)
  /-- HOST_TX_FRAME (R385): A host queue pair in turn fetches a frame's descriptors and passes the frame to its
  input or ends it with STATUS. -/
  | hostTxFrame (hp : Nat)
  /-- HOST_LAUNCH_PASS (R385): At LAUNCH less LT_LEAD a launch frame is passed to the fabric input. -/
  | hostLaunchPass (hp : Nat)
  /-- HOST_RX_FRAME (R386): A frame delivered to an HP port is stored in its queue pair's receive ring or
  dropped. -/
  | hostRxFrame (hp : Nat)
  /-- QP_ENABLE_WRITE (R388): A write of QP_CTL.EN runs or stops the queue pair and clears FETCH_ERR. -/
  | qpEnableWrite (i : Init) (q : Nat) (v : W32)
  /-- QP_COALESCE_TIMEOUT (R393): COAL_US passes with completions waiting and the queue pair sends its message.
  -/
  | qpCoalesceTimeout (q : Nat)
  /-- CAN_ENABLE (R397): A write of CAN_CTL.EN 1 checks bit timing and joins the bus through INTEGRATING or
  refuses. -/
  | canEnable (i : Init) (n : Nat) (v : W32)
  /-- CAN_DISABLE (R410): A write of CAN_CTL.EN 0 takes the controller off the bus after the frame in progress.
  -/
  | canDisable (i : Init) (n : Nat) (v : W32)
  /-- CAN_INTEGRATION_DONE (R410): 11 recessive bits end INTEGRATING and the controller becomes error active. -/
  | canIntegrationDone (n : Nat)
  /-- CAN_RECOVER (R409): A write of CAN_CTL.RECOVER in BUS_OFF starts the recovery count. -/
  | canRecover (i : Init) (n : Nat) (v : W32)
  /-- CAN_RECOVERY_DONE (R409): 128 occurrences of 11 recessive bits end RECOVERING and the counters clear. -/
  | canRecoveryDone (n : Nat) (k : Nat)
  /-- TX_REQ (R402): MB_CS CMD TX_REQ copies the shadow into the active copy and makes the buffer pending. -/
  | txReq (i : Init) (n : Nat) (q : Nat) (v : W32)
  /-- ABORT (R402): MB_CS CMD ABORT removes a pending frame not in transmission with RESULT 4. -/
  | abort (i : Init) (n : Nat) (q : Nat) (v : W32)
  /-- MB_CODE_WRITE (R402): A write that changes CODE acts as ABORT and clears FULL and OVR. -/
  | mbCodeWrite (i : Init) (n : Nat) (q : Nat) (v : W32)
  /-- MB_LOCK_WRITE (R405): A write of LOCK freezes the shadow, or on release copies the waiting frame. -/
  | mbLockWrite (i : Init) (n : Nat) (q : Nat) (v : W32)
  /-- CAN_FRAME_START (R403): At start of frame the controller sends the pending frame that would win
  arbitration. -/
  | canFrameStart (n : Nat)
  /-- CAN_TX_COMPLETE (R402): A transmitted frame ends successfully and MB_TS, DONE and RESULT are recorded. -/
  | canTxComplete (n : Nat) (ns : Nat)
  /-- CAN_ARBITRATION_LOST (R404): The controller loses arbitration and retries, or ends a one-shot frame with
  RESULT 2. -/
  | canArbitrationLost (n : Nat)
  /-- CAN_FRAME_RECEIVE (R405): A frame received without error goes to a buffer or the FIFO and is routed. -/
  | canFrameReceive (n : Nat) (f : CanFrame)
  /-- CAN_BUS_ERROR (R408): A CAN error updates the counters and may enter error passive or bus-off. -/
  | canBusError (n : Nat) (kind : Nat) (add : Nat)
  /-- CAN_FIFO_POP (R406): A write of CAN_FIFO_POP removes the FIFO head. -/
  | canFifoPop (i : Init) (n : Nat)
  /-- TXD_DOMINANT_TIMEOUT (R412): A transceiver's TXD dominant timeout expires and it releases the bus. -/
  | txdDominantTimeout (lin : Bool) (n : Nat)
  /-- TRANSCEIVER_WAKE (R412): A CAN transceiver in STANDBY receives a matching wake-up frame or pattern and
  wakes. -/
  | transceiverWake (n : Nat) (h : XcHeard)
  /-- LIN_SLOT_START (R415): A master's schedule slot starts and it sends a break and header. -/
  | linSlotStart (n : Nat)
  /-- LIN_HEADER_RECEIVE (R414): A LIN header is received, synchronised and its response published, received or
  ignored. -/
  | linHeaderReceive (n : Nat) (id : Nat) (meas : Nat) (heard : List Byte)
  /-- LIN_RESPONSE_COMPLETE (R416): A LIN response ends and a subscribed one sets FRESH and is routed, or an
  error is recorded. -/
  | linResponseComplete (n : Nat) (data : List Byte) (sum : Nat) (badBit : Bool) (badStop : Bool)
  /-- LIN_RESPONSE_TIMEOUT (R417): A frame not complete within 1.4 times its nominal length is a response error.
  -/
  | linResponseTimeout (n : Nat)
  /-- LIN_RESPONSE_UPDATE (R416): A write of LR_CFG with UPD makes the staged data the data in force. -/
  | linResponseUpdate (i : Init) (n : Nat) (id : Nat) (v : W32)
  /-- SLEEP_CMD (R418): A write of LIN_CTL.SLEEP_CMD sends the go-to-sleep frame and enters SLEEP. -/
  | sleepCmd (i : Init) (n : Nat) (v : W32)
  /-- LIN_IDLE_TIMEOUT (R418): A slave sees 4 s without bus activity and enters SLEEP. -/
  | linIdleTimeout (n : Nat)
  /-- LIN_WAKE_PULSE (R418): A dominant pulse of at least 150 µs sets LIN_EVT.WAKE and returns the controller to
  IDLE. -/
  | linWakePulse (n : Nat)
  /-- WAKE_REQ (R418): A write of LIN_CTL.WAKE_REQ sends a 1 ms dominant pulse. -/
  | wakeReq (i : Init) (n : Nat) (v : W32)
  /-- LIN_BUS_DOMINANT (R419): The LIN bus is held dominant 50 ms, BUS_SHORT is set and FS149 raised. -/
  | linBusDominant (n : Nat) (on : Bool)
  /-- TIME_BASE_WRAP (R426): NS wraps and WRAP increments, toggling EP. -/
  | timeBaseWrap (x : Nat)
  /-- TB_OFFS_WRITE (R428): A write of TB_OFFS is an offset sample for the servo, or a step beyond STEP_THR. -/
  | tbOffsWrite (i : Init) (x : Nat) (v : W32)
  /-- TB_STEP_WRITE (R429): A write of TB_STEP steps the time base, refusing negative steps of TB0. -/
  | tbStepWrite (i : Init) (x : Nat) (v : W32)
  /-- SET (R429): TB_CMD.SET loads TB1's extended time from TB_SET and counts as a step. -/
  | set (i : Init) (x : Nat)
  /-- CLAMP_TIMEOUT (R428): CLAMP stays 1 for 1 s and FS160 or FS161 is raised. -/
  | clampTimeout (x : Nat)
  /-- TB_NS_READ (R434): A read of TB_NS latches WRAP into TB_WRAP_LAT. -/
  | tbNsRead (i : Init) (x : Nat)
  /-- TIME_CAPTURE (R436): A capture source event captures TB0 and TB1 and classifies the capture against its
  window. -/
  | timeCapture (src : Nat) (rise : Bool)
  /-- PTS_POP (R446): A write of PTS_POP removes the head of the PTP timestamp FIFO. -/
  | ptsPop (i : Init) (p : Nat)
  /-- PULSE_ENABLE (R438): Writing PO_CTL.EN 1 checks the settings and schedules the pulses. -/
  | pulseEnable (i : Init) (p : Nat) (v : W32)
  /-- PULSE_RISE (R438): A pulse output rises at START + k × PERIOD. -/
  | pulseRise (p : Nat)
  /-- PULSE_FALL (R438): A pulse output falls after WIDTH. -/
  | pulseFall (p : Nat)
  /-- ARM (R439): A write of TALLY_CTL.ARM arms a strobe at S or is refused. -/
  | arm (i : Init) (v : W32)
  /-- ARM_STOP (R440): A write of TALLY_CTL.ARM_STOP ends periodic strobes after the armed one. -/
  | armStop (i : Init) (v : W32)
  /-- TALLY_STROBE (R440): At S every participating unit copies its counters to shadows and tags them. -/
  | tallyStrobe
  /-- TIMER_INTERRUPT (R470): Time reaches a hart's timer compare and its timer interrupt becomes pending. -/
  | timerInterrupt (h : Nat) (kind : Nat) (cmp : Nat)
  /-- RING_ENABLE (R449): A write of NM_CFG.EN 1 starts the ring engine in ALIVE, or refuses bad bit timing. -/
  | ringEnable (i : Init) (n : Nat) (v : W32)
  /-- RING_FRAME_RECEIVE (R451): A ring engine receives a frame and updates PRESENT, its state and the ledger.
  -/
  | ringFrameReceive (n : Nat) (f : CanFrame)
  /-- RING_TYP_TIMER (R451): T_TYP passes and the engine sends RING, possibly with SA. -/
  | ringTypTimer (n : Nat)
  /-- RING_MAX_TIMEOUT (R452): T_MAX passes without the expected RING and the engine drops its successor or
  restarts in ALIVE. -/
  | ringMaxTimeout (n : Nat)
  /-- RING_WBS_EXPIRY (R451): T_WBS expires in WBS and the engine becomes READY. -/
  | ringWbsExpiry (n : Nat)
  /-- RING_ENGINE_BUS_OFF (R449): A ring engine reaches bus-off, goes OFF and raises FS245. -/
  | ringEngineBusOff (n : Nat)
  /-- RING_ENGINE_RECOVERY (R449): After 128 occurrences of 11 recessive bits the ring engine restarts in ALIVE.
  -/
  | ringEngineRecovery (n : Nat)
  /-- CONSENT_WRITE (R453): A change of NM_CONSENT to 0 sends ALIVE with SI 0 and leaves WBS or READY. -/
  | consentWrite (i : Init) (v : W32)
  /-- LEDGER_CLEAR (R454): A write of NM_LEDGER_CLR removes every ledger entry. -/
  | ledgerClear (i : Init)
  /-- KC_QUIESCENT (R456): KC reports quiescent, the point of no return passes and the module completes SLEEP
  entry. -/
  | kcQuiescent
  /-- WAKE_EVENT (R460): An armed wake source fires and the wake recorder logs it. -/
  | wakeEvent
  /-- LATE_WAKE_RESTART (R458): After a late wake RAIL_EN has stayed low 1 ms and the wake begins. -/
  | lateWakeRestart
  /-- FAIL_SAFE_SLEEP (R459): FSS_TMO passes after a keeper timeout without a keepalive and UH puts the
  transceivers to sleep. -/
  | failSafeSleep
  /-- POP (R467): A write of WK_POP removes the head of the wake FIFO. -/
  | pop (i : Init)
  /-- RELEASE (R471): SYSCTL_HART_CTL CMD RELEASE starts a hart at its entry address or is refused. -/
  | release (i : Init) (h : Nat) (key : Nat)
  /-- RESET (R472): SYSCTL_HART_CTL CMD RESET places the hart in reset after its non-posted accesses complete.
  -/
  | reset (i : Init) (h : Nat) (key : Nat)
  /-- HART_CMD_NONE (R496): SYSCTL_HART_CTL with CMD 0 or 3 does nothing. -/
  | hartCmdNone (i : Init) (h : Nat)
  /-- MEMORY_LOAD (R534): A hart load from a memory region is judged under the page rules and performed. -/
  | memoryLoad (i : Init) (fetch : Bool) (addr : Nat) (n : Nat) (err : Option (Nat × Bool))
  /-- MEMORY_STORE (R534): A hart store to a memory region is judged under the page rules and performed. -/
  | memoryStore (i : Init) (addr : Nat) (n : Nat) (v : Nat) (err : Option (Nat × Bool))
  /-- MEMORY_ATOMIC (R482): An LR, SC or AMO on a memory region is performed with its reservation set. -/
  | memoryAtomic (i : Init) (op : Nat) (addr : Nat) (n : Nat) (v : Nat) (err : Option (Nat × Bool))
  /-- POT_FETCH (R535): A POT cache miss fetches the POT line and judges the waiting access. -/
  | potFetch
  /-- DRAM_CLEAR_COMPLETE (R480): Background DRAM clearing completes and DRAM_CLR becomes 0. -/
  | dramClearComplete
  /-- FENCE (R484): FENCE orders every access before it ahead of every access after it. -/
  | fence (h : Nat)
  /-- FENCE_I (R474): FENCE.I makes a hart's own stores visible to its own fetch. -/
  | fenceI (h : Nat)
  /-- FENCE_FIELD (R485): FENCE.FIELD orders, then waits until the hart's field-space writes are applied or
  failed. -/
  | fenceField (h : Nat) (rd : Nat)
  /-- FENCE_FIELD_COMPLETE (R485): The wait ends and FENCE.FIELD writes its status and clears LATE_ERR. -/
  | fenceFieldComplete (h : Nat)
  /-- SCRUB_PASS (R478): A scrub of the safety SRAM or DRAM corrects and counts errors and poisons uncorrectable
  words. -/
  | scrubPass (k : Nat) (ce : List Nat) (ue : List Nat)
  /-- SETEIPNUM_WRITE (R489): A write of seteipnum sets an interrupt identity pending in an interrupt file. -/
  | seteipnumWrite (i : Init) (p : Nat) (be : Bool) (v : Nat)
  /-- MSI_DELIVERY (R491): A message source's message is delivered to the file named for its context or dropped.
  -/
  | msiDelivery (q : Nat)
  /-- DEBUG_RESET (R494): A reset made through the Debug Module resets KC with CAUSE 5. -/
  | debugReset
  /-- DEBUG_HALT_REQUEST (R514): A debug halt of a core; on a Recut core the slice commits and the core leaves
  Recut. -/
  | debugHaltRequest (h : Nat)
  /-- RECUT_BEGIN (R512): RECUT.BEGIN opens a group in Recut mode. -/
  | recutBegin (h : Nat)
  /-- RECUT_END (R517): RECUT.END ends the slice and writes the Recut status at commit. -/
  | recutEnd (h : Nat)
  /-- RECUT_MODE (R513): RECUT.MODE requests Single or Recut mode, refused if not SWITCHABLE. -/
  | recutMode (h : Nat) (v : Nat)
  /-- PASS_ONE_END (R501): Pass one ends at a slice-ending event and the core hands over to pass two. -/
  | passOneEnd (h : Nat) (ok : Bool)
  /-- PASS_ONE_CYCLE_LIMIT (R501): Pass one has run 65,536 cycles and the slice ends before the next
  instruction. -/
  | passOneCycleLimit (h : Nat)
  /-- ECHO_LOG_FULL (R501): The echo log reaches 512 entries and the slice ends. -/
  | echoLogFull (h : Nat)
  /-- PASS_TWO_COMPLETE (R506): Pass two ends without mismatch and the commit phase begins. -/
  | passTwoComplete (h : Nat)
  /-- SLICE_MISMATCH (R508): A comparator flags a mismatch and the slice is re-run, or on the second mismatch
  the core is reset. -/
  | sliceMismatch (h : Nat) (raw : Bool) (sig : Bool) (timing : Bool) (log : Bool) (entry : Nat) (kind : Nat) (addr : Nat)
  /-- COMMIT_COMPLETE (R506): The held writes have left the core and the pass-one state becomes the checkpoint.
  -/
  | commitComplete (h : Nat)
  /-- GATE (R538): GATE enters the secure world at a keystone target or is refused. -/
  | gate (h : Nat) (pc : Nat) (rs1 : Nat) (pa : Option Nat) (err : Bool)
  /-- GATE_RET (R539): GATE.RET returns to the world, context and privilege in mgret or is refused. -/
  | gateRet (h : Nat) (wr : Option (Nat × Nat))
  /-- KEYSTONE (R537): A keystone word executed other than as a GATE target does nothing. -/
  | keystone (h : Nat)
  /-- HVCTX_WRITE (R526): A write to hvctx is accepted from the hypervisor for an existing partition, otherwise
  FS197. -/
  | hvctxWrite (h : Nat) (v : Nat)
  /-- POT_ENABLE (R531): Setting SEC_POT_CTL.EN turns on POT judgement, once per KC reset. -/
  | potEnable (i : Init) (v : W32)
  /-- POT_INVALIDATE (R536): A write of SEC_POT_INV starts removal of the POT entries from every cache. -/
  | potInvalidate (i : Init) (first : Nat)
  /-- POT_INVALIDATE_DONE (R536): The POT invalidation completes and BUSY returns to 0. -/
  | potInvalidateDone
  /-- GATE_REQUEST (R542): A write of SYSCTL_GATE requests a clock or power gate change. -/
  | gateRequest (i : Init) (g : Nat) (v : W32)
  /-- GATE_RELEASE (R543): A write of SYSCTL_GATE_REL releases or withdraws the secure world's release of a
  shared gate. -/
  | gateRelease (i : Init) (g : Nat) (v : W32)
  /-- GATE_CHANGE_COMPLETE (R544): A block's clock or power change completes after it quiesces or powers up. -/
  | gateChangeComplete (g : Nat)
  /-- GATE_QUIESCE_TIMEOUT (R546): A power gate does not quiesce within 1 ms and FS198 is raised. -/
  | gateQuiesceTimeout (g : Nat)
  /-- DEVICE_DMA_REQUEST (R554): A device burst is checked for GEN and stop, translated and judged at its
  target. -/
  | deviceDmaRequest (src : Nat) (u : Nat) (gen : Nat) (va : Nat) (write : Bool) (data : List Byte) (n : Nat)
  /-- PAGE_WALK_COMPLETE (R554): An ATU table walk ends with a leaf or a translation fault. -/
  | pageWalkComplete
  /-- DMA_COMPLETION (R560): A DMA completion returns to its device, or is discarded as stale. -/
  | dmaCompletion
  /-- ATU_INVALIDATE (R557): A write of ATU_INV removes the selected TLB entries. -/
  | atuInvalidate (i : Init) (all : Bool) (range : Bool) (c : Nat)
  /-- ATU_INVALIDATE_DONE (R557): The TLB invalidation completes and BUSY returns to 0. -/
  | atuInvalidateDone
  /-- STOP (R562): ATU_CTX_CTL OP STOP holds new requests of the context. -/
  | stop (i : Init) (c : Nat)
  /-- START (R562): ATU_CTX_CTL OP START restarts the context unless its root is off. -/
  | start (i : Init) (c : Nat)
  /-- BUMP (R559): ATU_CTX_CTL OP BUMP increments GEN unless older work is still in flight. -/
  | bump (i : Init) (c : Nat)
  /-- REMOVE (R562): ATU_CTX_CTL OP REMOVE stops, bumps and removes the context's TLB entries. -/
  | remove (i : Init) (c : Nat)
  /-- CTX_OP_IGNORED (R562): ATU_CTX_CTL with OP 0 or 5 to 7 is ignored. -/
  | ctxOpIgnored (i : Init) (c : Nat)
  /-- CTX_OP_DONE (R562): A context operation takes effect and BUSY returns to 0. -/
  | ctxOpDone (c : Nat)
  /-- DRAIN_TIMEOUT (R560): INFLIGHT has not reached 0 within 1 ms of a BUMP and FS208 is raised. -/
  | drainTimeout (c : Nat)
  /-- SYNC (R565): ATU_DIRTY_CTL.SYNC makes later writes set their bits again. -/
  | sync (i : Init) (c : Nat) (v : W32)
  /-- SYNC_DONE (R565): The SYNC takes hold and BUSY returns to 0. -/
  | syncDone (c : Nat)
  /-- FIELD_WRITE_APPLY (R577): A field-space write reaches its target and is applied, or discarded under the
  ownership copy. -/
  | fieldWriteApply (k : Nat) (fail : Nat)
  /-- APPLY_NOTICE (R587): An apply notice reaches KC; a failed posted write is logged as a late error. -/
  | applyNotice (k : Nat)
  /-- READ_COMPLETION (R576): A completion returns with its tag and its data go to the initiator. -/
  | readCompletion (k : Nat) (fail : Nat)
  /-- COMPLETION_TIMEOUT (R576): No completion or notice arrives within CPL_TMO and the transaction fails. -/
  | completionTimeout (k : Nat)
  /-- LINK_FRAME_RESEND (R17): A field-link frame fails its CRC and is discarded and resent. -/
  | linkFrameResend (l : Nat) (last : Bool)
  /-- FIELD_LR (R581): LR.W to field space takes the word's semaphore and makes a non-posted read. -/
  | fieldLr (h : Nat) (a : Nat)
  /-- FIELD_SC (R581): SC.W to field space writes and releases if the reservation stands, otherwise fails. -/
  | fieldSc (h : Nat) (a : Nat) (v : Nat)
  /-- FIELD_AMO (R582): A 32-bit AMO to field space holds the semaphore for a read, compute and write. -/
  | fieldAmo (h : Nat) (op : Nat) (a : Nat) (v : Nat)
  /-- RESERVATION_TIMEOUT (R581): 10 µs after an LR the reservation breaks and FS174 is raised. -/
  | reservationTimeout (k : Nat)
  /-- FIELD_INTERRUPT_MESSAGE (R583): A message from UH or a field die is turned into an identity and delivered.
  -/
  | fieldInterruptMessage (n : Nat)
  /-- CVU_RING_TAIL_WRITE (R600): A write of RING_TAIL hands descriptors to a check-value unit ring. -/
  | cvuRingTailWrite (i : Init) (r : Nat) (v : W32)
  /-- GEN (R598): A CVU GEN descriptor computes each record's check and writes it to DST. -/
  | gen (k : Nat)
  /-- APPEND (R598): A CVU APPEND descriptor writes each record's check after its data. -/
  | append (k : Nat)
  /-- CHECK (R598): A CVU CHECK descriptor compares each record's check with the stored one. -/
  | check (k : Nat)
  /-- STRIP (R598): A CVU STRIP descriptor checks each record and copies passing data to DST. -/
  | strip (k : Nat)
  /-- CVU_BAD_ARGUMENT (R599): A CVU descriptor with invalid OP or arguments ends with STATUS 3. -/
  | cvuBadArgument (k : Nat)
  /-- RING_DISABLE (R603): RING_CTL.EN 0 stops the ring at the end of the descriptor in progress. -/
  | ringDisable (i : Init) (r : Nat) (v : W32)
  /-- GCM_ENC (R627): A crypto job GCM_ENC encrypts with AES-256-GCM. -/
  | gcmEnc (k : Nat)
  /-- GCM_DEC (R627): A crypto job GCM_DEC decrypts and verifies the tag. -/
  | gcmDec (k : Nat)
  /-- CMAC_GEN (R627): A crypto job CMAC_GEN computes an AES-CMAC tag. -/
  | cmacGen (k : Nat)
  /-- CMAC_VER (R627): A crypto job CMAC_VER verifies an AES-CMAC tag. -/
  | cmacVer (k : Nat)
  /-- SHA384 (R627): A crypto job SHA384 computes a digest. -/
  | sha384 (k : Nat)
  /-- SIGN (R627): A crypto job SIGN makes a deterministic ECDSA P-384 signature. -/
  | sign (k : Nat)
  /-- VERIFY (R627): A crypto job VERIFY checks an ECDSA P-384 signature. -/
  | verify (k : Nat)
  /-- CRY_BAD_OPCODE (R627): A crypto job with an OP its engine lacks ends with STATUS 3. -/
  | cryBadOpcode (k : Nat)
  /-- CRYPTO_BULK_PAUSE (R629): A revoked bulk job pauses at the next 4 KB boundary and requests leave again. -/
  | cryptoBulkPause (k : Nat)
  /-- CLEAR (R615): KV CLEAR zeroes and empties a slot. -/
  | clear (i : Init) (slot : Nat)
  /-- LOAD (R615): KV LOAD fills a slot from KV_DATA and zeroes KV_DATA. -/
  | load (i : Init) (slot : Nat)
  /-- DERIVE (R613): KV DERIVE fills a slot by HKDF from DS or a source slot. -/
  | derive (i : Init) (slot : Nat) (ds : Bool) (src : Nat)
  /-- STORE (R619): KV STORE writes the slot to a persistent copy with the next SEQ. -/
  | store (i : Init) (slot : Nat)
  /-- UNSTORE (R620): KV UNSTORE erases the persistent slot. -/
  | unstore (i : Init) (slot : Nat)
  /-- HK_LOAD (R616): KV HK_LOAD copies a slot's key into HK0 on UH. -/
  | hkLoad (i : Init) (slot : Nat)
  /-- PUBKEY (R615): KV PUBKEY returns the public key of a type-3 slot in KV_DATA. -/
  | pubkey (i : Init) (slot : Nat)
  /-- EXTEND (R615): KV EXTEND extends MA4 to MA7. -/
  | extend (i : Init) (arg : Nat)
  /-- ATTEST (R630): KV ATTEST writes the signed attestation record into KV_ATT. -/
  | attest (i : Init)
  /-- DBG_CHAL (R626): KV DBG_CHAL places a 32-byte challenge in KV_DATA. -/
  | dbgChal (i : Init)
  /-- DBG_RESP (R626): KV DBG_RESP checks the signed response and unlocks debug at the named level. -/
  | dbgResp (i : Init) (level : Nat)
  /-- KV_CMD_INVALID (R615): A KV_CMD write with an undefined OP gives code 2. -/
  | kvCmdInvalid (i : Init)
  /-- KV_COMMAND_COMPLETE (R615): A KV command ends, BUSY returns to 0 and KV_RESULT holds the outcome. -/
  | kvCommandComplete
  /-- TAMPER_ALARM (R624): A monitored tamper source alarms, the zeroize path runs and the alarm is logged. -/
  | tamperAlarm (c : Nat) (live : Nat) (stuck : Bool)
  /-- DS_OFF_BLOW (R622): After a TAMPER_HARD alarm DS_OFF is blown within 1 ms. -/
  | dsOffBlow
  /-- QUARANTINE_STATUS (R625): Quarantine OP 0x01 returns TAMPER_STAT and the tamper log. -/
  | quarantineStatus
  /-- QUARANTINE_ATTEST (R625): Quarantine OP 0x02 returns a tamper-state attestation record. -/
  | quarantineAttest (nonce : List Byte)
  /-- QUARANTINE_RECOVERY (R625): Quarantine OP 0x03 checks a recovery token and on acceptance sets ACK and
  starts KC. -/
  | quarantineRecovery (t : List Byte)
  /-- FAULT_RAISE (R641): A fault source is raised at the FCU and receives the reactions of its effective
  severity. -/
  | faultRaise (r : Option Raise)
  /-- RESTART_TIMEOUT (R643): A partition restart bit is still set after RST_TMO and the source is raised again,
  escalated. -/
  | restartTimeout (c : Nat)
  /-- QUIET_PERIOD_EXPIRY (R646): The quiet period passes and an AUTO_QUIET or HYBRID source stops being active.
  -/
  | quietPeriodExpiry (k : Nat)
  /-- ACK_WINDOW_CLOSE (R646): A HYBRID source's acknowledge window closes unacknowledged and it is raised
  again, escalated. -/
  | ackWindowClose (k : Nat)
  /-- CLR (R646): Writing FCU_SRC.CLR ends a SW_CLEAR or reverted source whose condition has ended. -/
  | clr (i : Init) (k : Nat) (v : W32)
  /-- ACK (R646): Writing FCU_SRC.ACK acknowledges a HYBRID source within its window. -/
  | ack (i : Init) (k : Nat) (v : W32)
  /-- RCLR (R646): Writing FCU_SRC.RCLR resets RCNT and REVERTED. -/
  | rclr (i : Init) (k : Nat) (v : W32)
  /-- FCU_TEST (R654): A write of FCU_TEST with KEY 0xF5 raises the named source. -/
  | fcuTest (i : Init) (v : W32)
  /-- FCU_LOG_POP (R654): A write of FCU_LOG_POP removes the head of the FCU log. -/
  | fcuLogPop (i : Init)
  /-- FCU_SELF_CHECK_FAIL (R647): The two FCU copies disagree and FS015 is raised at SV4. -/
  | fcuSelfCheckFail
  /-- SEVERITY_LINE_DISAGREE (R647): UH finds the two severity lines in disagreement for 1 µs, raises FS254 and
  acts as SV4. -/
  | severityLineDisagree
  /-- PIN_READBACK (R648): Every 100 µs UH reads back FAULT_N and ALIVE and raises FS253 on a mismatch. -/
  | pinReadback (faultN : Bool) (alive : Bool)
  /-- STATUS (R651): Limp command STATUS reports a channel's state. -/
  | status (ch : Nat) (arg : Nat) (fresh : Nat) (mac : List Byte)
  /-- LIMP_OFF (R651): Limp command OFF turns a LIMP_ALLOWED lead off with 0xE. -/
  | limpOff (ch : Nat) (arg : Nat) (fresh : Nat) (mac : List Byte)
  /-- LIMP_ON (R651): Limp command ON starts a LIMP_ALLOWED lead with leave from UH. -/
  | limpOn (ch : Nat) (arg : Nat) (fresh : Nat) (mac : List Byte)
  /-- LIMP_CLEAR (R651): Limp command CLEAR requests a latch clear. -/
  | limpClear (ch : Nat) (arg : Nat) (fresh : Nat) (mac : List Byte)
  /-- ALL_OFF (R651): Limp command ALL_OFF turns every LIMP_ALLOWED lead off. -/
  | allOff (ch : Nat) (arg : Nat) (fresh : Nat) (mac : List Byte)
  /-- LIMP_BAD_OPCODE (R651): A limp command with an undefined OP gets RESULT 4. -/
  | limpBadOpcode (op : Nat) (ch : Nat) (arg : Nat) (fresh : Nat) (mac : List Byte)
  /-- RESPONDER_BLOCK_EXPIRY (R651): 1 s after blocking the responder accepts frames again. -/
  | responderBlockExpiry
  /-- RESP_FRESH_WRITE (R655): A write of RESP_FRESH_HI applies the staged pair unless it lowers the value or
  the responder is active. -/
  | respFreshWrite (i : Init) (v : W32)
  /-- PLAN_CHECK (R67): A write of 1 to BPL_CMD.CHECK runs every check of R58 and R59 on the inactive bench plan
  copy, without blowing fuses or applying anything. -/
  | planCheck (i : Init) (v : W32)
  /-- PLAN_CHECK_COMPLETE (R77): A running plan check ends after up to 20 ms: BPL_CHECK.BUSY returns to 0,
  RESULT, WOULD_STEP and COPY are written, DONE is set and APLIC source 59 rises. -/
  | planCheckComplete
  /-- FRAME_TRANSMIT_END (R290): The last byte of a frame copy leaves the egress port, so the copy's reference
  is removed, its cells return to the free list at zero references, counters update and a host descriptor is
  written back as sent. -/
  | frameTransmitEnd (p : Nat)
  /-- CHATTER_LEVEL_SAMPLE (R197): While an input is in CHATTER, every 10 ms its LEVEL takes the raw level
  sampled at that instant. -/
  | chatterLevelSample (n : Nat)
  /-- TRANSCEIVER_OVER_TEMPERATURE (R419): A CAN transceiver overheats, releases the bus, sets XC_STAT.OT and
  raises FS147. -/
  | transceiverOverTemperature (n : Nat) (hot : Bool)
  /-- DUPLICATE_NODE_ID (R389): A 10BASE-T1S port sees a duplicate PLCA node ID on its segment and raises FS085.
  -/
  | duplicateNodeId (p : Nat)
deriving DecidableEq, Repr

end Sys2Proof
end

