-- ==== Sys2Proof/Decode.lean ====
section
/-!
DEFINITION. Decode.lean: the command that a word spells by the bits of spec/opcode_table.json. No row of the
table has bits: the commands are accesses and events, and the spec gives them no encoding.
-/

namespace Sys2Proof

/-- No word spells a command. -/
def decodeTableWord (_nbits _w : Nat) : Option Instr := none

end Sys2Proof
end

