-- ==== Sys2Proof/Config.lean ====
section
/-!
DEFINITION. Config.lean: what an implementation fixes and what the spec leaves open. Every constant
here is opaque: nothing in Lean can evaluate it, so a statement holds whatever its value is.
The cryptographic functions are standards outside the spec (FIPS 180-4, FIPS 186-5, AES, SP 800-38B,
RFC 5869); the model uses them as uninterpreted functions (assumption 3).
-/

namespace Sys2Proof

/-- The operations of the integer adder, logic unit and shifter, of the multiplier and divider, and of the branch
comparator of a safety core (RV32IM, R469). -/
inductive AluOp where
  | add | sub | and | or | xor | sll | srl | sra | slt | sltu
deriving DecidableEq, Repr

inductive MulOp where
  | mul | mulh | mulhsu | mulhu | div | divu | rem | remu
deriving DecidableEq, Repr

inductive CmpOp where
  | eq | ne | lt | ge | ltu | geu
deriving DecidableEq, Repr

/-- What one instruction of a slice does: an operation on registers or on a register and an
immediate, a value set by the instruction alone (LUI, AUIPC, a link), an operation of the floating-point unit with its
result in f or x, a branch. Those that make an entry of the log (R504): an access or a serialising request with its
KIND and MASK, ADDR bits 39:32, the registers that hold the address and the data, and the register that takes what
it returns; a read of CSR `n`; a trap. `cmd` is an instruction that makes none and that a command of the table stands
for: RECUT.BEGIN, RECUT.END, GATE, GATE.RET. -/
inductive RegOp where
  | alu (op : AluOp) (rd rs1 rs2 : Fin 32)
  | alui (op : AluOp) (rd rs1 : Fin 32) (imm : W32)
  | mul (op : MulOp) (rd rs1 rs2 : Fin 32)
  | set (rd : Fin 32) (v : W32)
  | fp (op : Nat) (toX : Bool) (rd rs1 rs2 rs3 : Fin 32)
  | fromX (op : Nat) (rd rs1 : Fin 32)
  | branch (op : CmpOp) (rs1 rs2 : Fin 32) (off : W32)
  | cmd (rd : Fin 32)
  | access (kind mask hi : Nat) (base src rd : Fin 32) (float : Bool)
  | csrr (rd : Fin 32) (n : Nat)
  | trap (cause tval : Nat)
deriving DecidableEq, Repr

/-- A system instruction that a hart executes and for which the table has no row: a write of CSR `n` with operand `v`
(`op` 0 writes, 1 sets, 2 clears bits), WFI, ECALL, EBREAK, MRET, SRET, a word in the custom-0 space. -/
inductive SysOp where
  | csr (n v op : Nat)
  | wfi
  | ecall
  | ebreak
  | mret
  | sret
  | word (w : Nat)
deriving DecidableEq, Repr

/-- What a debugger does through the Debug Module besides its commands (R494, R514): a hart resumes, single-steps, or
has its EBREAKs enter debug mode or not. -/
inductive DbgOp where
  | resume (h : Nat)
  | step (h : Nat)
  | ebreaks (h : Nat) (enter : Bool)
deriving DecidableEq, Repr

end Sys2Proof

namespace Sys2Proof.Config

/-- SHA-384 (FIPS 180-4): 48 bytes. -/
opaque sha384 : List Byte → List Byte
/-- ECDSA P-384 verification (FIPS 186-5): public key, SHA-384 digest of the message, signature r then s. -/
opaque ecdsaVerify : List Byte → List Byte → List Byte → Bool
/-- Deterministic ECDSA P-384 signature: private key, SHA-384 digest of the message. -/
opaque ecdsaSign : List Byte → List Byte → List Byte
/-- Public key X then Y of a P-384 private key. -/
opaque ecdsaPub : List Byte → List Byte
/-- A P-384 private key derived from key material. -/
opaque ecdsaKey : List Byte → List Byte
/-- AES-256-GCM encryption: key, IV, additional data, plaintext; ciphertext followed by the tag. -/
opaque gcmEnc : List Byte → List Byte → List Byte → List Byte → List Byte
/-- AES-256-GCM decryption: key, IV, additional data, ciphertext, tag; none if the tag fails. -/
opaque gcmDec : List Byte → List Byte → List Byte → List Byte → List Byte → Option (List Byte)
/-- The keystream part of AES-256-GCM: key, IV, text of any length; its cells can be used before the tag is
checked. -/
opaque gcmCtr : List Byte → List Byte → List Byte → List Byte
/-- AES-CMAC: key, message; 16 bytes. -/
opaque cmac : List Byte → List Byte → List Byte
/-- HKDF (RFC 5869) with SHA-384: input key, salt, info, length. -/
opaque hkdf : List Byte → List Byte → List Byte → Nat → List Byte
/-- The fused device secret DS (R608): 48 bytes. -/
opaque deviceSecret : List Byte
/-- The fused DEVICE_UID: 16 bytes. -/
opaque deviceUid : List Byte
/-- The fused signer key hash of index 0 to 3 (R53): 48 bytes. -/
opaque signerHash : Nat → List Byte
/-- The random source of the module: `n` bytes of the `k`-th draw. -/
opaque random : Nat → Nat → List Byte
/-- The free value of the `k`-th open point: any number (assumption 4). -/
opaque freeNat : Nat → Nat
/-- The LPDDR5X channel that serves a DRAM page, which the spec does not give (R535): any number,
taken modulo 4. -/
opaque dramChannel : Nat → Nat
/-- The power in mW that an MG link training declares, which the spec does not give (R231, R370). -/
opaque trainPower : Nat
/-- The instructions that a core has run inside itself since a command last told of it, at the `k`-th point that asks:
the program that a core runs is no command (assumption 97). -/
opaque sliceOps : Nat → List RegOp
/-- The length in bytes of an instruction's encoding, 2 or 4 (assumption 97). -/
opaque opLen : RegOp → W32
/-- The system instruction, if any, that a hart executes on a tick: the program that a core runs is no command
(assumption 106). -/
opaque sysOp : Nat → Nat → Option SysOp
/-- What the debugger does on a tick (assumption 106). -/
opaque dbgOp : Nat → Option DbgOp
/-- The floating-point unit of RV32F (R469), which is a standard outside the spec: the result and the new fcsr of
operation `op` on three operands under fcsr. -/
opaque fpu : Nat → W32 → W32 → W32 → W32 → W32 × W32
/-- The device is an engineering sample, -ES (R3). -/
opaque engineering : Bool
/-- The version word of the boot ROM, which the spec does not give (R88). -/
opaque romVersion : W32

end Sys2Proof.Config
end

