-- ==== Sys2Proof/Machine/Sparse.lean ====
section
/-!
DEFINITION. Machine/Sparse.lean: sparse maps. A map is a list of key and value pairs in ONE canonical
form: keys strictly rising, and no entry equal to what an unlisted key reads as. `d k` is what the
unlisted key `k` reads as. Registers, memory and the hidden records of the block are held this way,
so that equal contents are equal data.
-/

namespace Sys2Proof.Machine

/-- A sparse map from natural numbers. -/
abbrev Sparse (α : Type) := List (Nat × α)

/-- The value at key `k`. -/
def Sparse.get {α : Type} (d : Nat → α) : Sparse α → Nat → α
  | [], k => d k
  | (j, v) :: m, k => if j = k then v else Sparse.get d m k

/-- The map without key `k`. -/
def Sparse.del {α : Type} (m : Sparse α) (k : Nat) : Sparse α :=
  m.filter (fun e => !(e.1 == k))

/-- The map with key `k` listed at value `v`. -/
def Sparse.put {α : Type} : Sparse α → Nat → α → Sparse α
  | [], k, v => [(k, v)]
  | (j, w) :: m, k, v =>
    if j = k then (k, v) :: m
    else if k < j then (k, v) :: (j, w) :: m
    else (j, w) :: Sparse.put m k v

/-- The map with key `k` reading `v`: an entry equal to the unlisted value is removed. -/
def Sparse.set {α : Type} [DecidableEq α] (d : Nat → α) (m : Sparse α) (k : Nat) (v : α) : Sparse α :=
  if v = d k then Sparse.del m k else Sparse.put m k v

/-- The map with every key outside `p` back at its unlisted value. -/
def Sparse.keep {α : Type} (p : Nat → Bool) (m : Sparse α) : Sparse α :=
  m.filter (fun e => p e.1)

/-- The canonical form. -/
abbrev Sparse.Wf {α : Type} (d : Nat → α) (m : Sparse α) : Prop :=
  m.Pairwise (fun a b => a.1 < b.1) ∧ ∀ e ∈ m, e.2 ≠ d e.1

end Sys2Proof.Machine
end

