-- ==== Sys2Proof/Machine/Parts.lean ====
section
/-!
DEFINITION. Machine/Parts.lean: the hidden state of the block's parts, that is what the rules give a
part besides its registers (a pending start, a queue entry, a running timer). Times are in ticks of
2 ns since VKEEP power-up (`Blk.clk`) unless a docstring says TB0 nanoseconds.
-/

namespace Sys2Proof.Machine

/-- Ownership of one resource (R45, R46): the owner, and SHARED_SEC. -/
structure Own where
  ctx : Nat := 0
  shared : Bool := false
deriving DecidableEq, Repr

/-- One entry of an ownership copy on UH or a field die (R28): the owner, its world (true secure),
its SHARED_SEC flag, and whether the owner is a normal-world partition. -/
structure OwnCopy where
  ctx : Nat := 0
  world : Bool := true
  shared : Bool := false
  part : Bool := false
deriving DecidableEq, Repr

/-- The presence of the compute die. `held`: KC kept in reset by R645 with SV4_ACT 1;
`halted`: the boot ROM halted (R62); `quar`: the quarantine loop of R625. -/
inductive Kc where
  | down | run | quar | halted | held
deriving DecidableEq, Repr

/-- A start of a lead that waits for leave or is in its inrush phase (R120): the MODE wanted, the
duty, whether a timed command made it, and whether it is a restart (0 no, 1 over-temperature, 2 bank
feed). -/
structure Start where
  want : Nat
  duty : Nat
  timed : Bool
  rest : Nat
deriving DecidableEq, Repr

/-- What a start that a demand made found on its tick (R150): the tick, plus 1; the rank of the demand, 100 for a restart or
resume; how a command reports (none: no command made it; true: timed); MODE, OFF_REASON, the duty in force and the next
one, TAG, OUT, CHG_FAIL, PEND, RETRY_CNT, OL_OFF, RESTART and TDONE; the start that waited and the off-state test. -/
structure Undo where
  tick : Nat
  rank : Nat
  rep : Option Bool
  mode : Nat
  reason : Nat
  duty : Nat
  next : Nat
  tag : Nat
  out : Bool
  chgFail : Bool
  pend : Nat
  retry : Nat
  olOff : Bool
  restart : Bool
  done : Bool
  start : Option Start
  olTest : Bool
deriving DecidableEq, Repr

/-- A sample as a window counts it: current in 80 A ÷ 2^31, voltage code if one was taken, saturation. -/
structure WinSamp where
  i : Int
  v : Option Int
  isat : Bool
  vsat : Bool
deriving DecidableEq, Repr

/-- What a window has counted (R189). -/
structure Win where
  n : Nat := 0
  min : Int := 0
  max : Int := 0
  sum : Int := 0
  sq : Nat := 0
  vn : Nat := 0
  vmin : Int := 0
  vsum : Int := 0
  isat : Bool := false
  vsat : Bool := false
deriving DecidableEq, Repr

/-- Hidden state of a channel; on a group, of its lead unless a line says member. -/
structure Chan where
  /-- CH_TCMD_TIME is fresh (R112). -/
  fresh : Bool := false
  /-- The start that waits for leave. -/
  start : Option Start := none
  /-- The leave request of the waiting start. -/
  req : Option Nat := none
  /-- The grant held until the slew or charge phase ends. -/
  grant : Option Nat := none
  /-- Restore mode and duty of PEND (R155). -/
  restore : Nat × Nat := (0, 0)
  /-- The generator taken at the last start (R138). -/
  pg : Nat := 0
  /-- The start made on the present tick, if any, and what it found (R150). -/
  undo : Option Undo := none
  /-- The PHASE in force (R123), and when CH_PHASE was last written. -/
  phase : Nat := 0
  phaseAt : Nat := 0
  /-- The tick of the last period boundary (R124). -/
  boundAt : Nat := 0
  /-- Period boundaries since the lead entered PWM as a start with a held grant (R123). -/
  bounds : Nat := 0
  /-- The output has risen since the power stage started (R123). -/
  rose : Bool := false
  /-- The charge has reached the bank less 1 V (R119). -/
  full : Bool := false
  /-- When the power stage last started, and when the output last turned off. -/
  onAt : Nat := 0
  offAt : Nat := 0
  /-- When the output last rose (R162). -/
  riseAt : Nat := 0
  /-- Tick of the last timed command that took effect, plus 1 (R111). -/
  timedAt : Nat := 0
  /-- Tick of the last cause that demanded the output off, plus 1, and the highest rank among the causes
  that did so on that tick; tick, plus 1, of the last one that was a command, a policy or SLEEP entry
  (R150). -/
  causeAt : Nat := 0
  causeRank : Nat := 0
  cmdOffAt : Nat := 0
  /-- The lead's MODE, duty and OUT at the start of tick `markAt` - 1 (R150). -/
  markAt : Nat := 0
  markMode : Nat := 0
  markDuty : Nat := 0
  markOut : Bool := false
  /-- Member: an over-temperature excursion was detected and HOT has not returned to 0 (R156). -/
  otSeen : Bool := false
  /-- Member: consecutive current samples at or above DOC_THR (R148). -/
  docCnt : Nat := 0
  /-- Consecutive counted samples below ON_THR (R162). -/
  olCnt : Nat := 0
  /-- The off-state test current is driven (R163). -/
  olTest : Bool := false
  /-- Member: its last 126 current samples, newest first, in units of 80 A ÷ 2^31 (R158, R188). -/
  samples : List Int := []
  /-- θ of the equation of R158 in 2^-64 K, and the engine's value in 1/256 K. -/
  theta : Int := 0
  thetaE : Int := 0
  /-- When OUT last fell (R190). -/
  fallAt : Nat := 0
  /-- The window in progress and the newest sample, not yet counted in it (R189). -/
  win : Win := {}
  newest : Option WinSamp := none
  /-- WLEN and SRC in force, the tick, plus 1, of the first sample since the windows were started (0: none
  yet), and whether the next close carries SHORT in any case (R189). -/
  wlen : Nat := 125
  wsrc : Bool := false
  wopen : Nat := 1
  wshort : Bool := true
  /-- The tick, plus 1, of the last close (R189). -/
  wcloseAt : Nat := 0
  /-- Fraction of the energy accumulator in 2^-35 µJ, and a clear that waits (R190, R191). -/
  efrac : Nat := 0
  eclr : Bool := false
  /-- The most recent voltage sample (R190) and its tick, plus 1, and the accumulator in µJ as it stood before the last current
  sample (R192). -/
  vLast : Int := 0
  vAt : Nat := 0
  eOld : Nat := 0
deriving DecidableEq, Repr

/-- One entry of a timed command queue (R112): the channel, the 33-bit activation time, the command,
the request sent ahead of it and the answer to that request, if any. -/
structure Tq where
  ch : Nat
  time : Nat
  op : Nat
  duty : Nat
  req : Option Nat := none
  ans : Option Bool := none
deriving DecidableEq, Repr

/-- A leave request of a field die on its way to the weighbridge or to UH (R30, R31). -/
structure Leave where
  id : Nat
  ch : Nat
  peak : Nat
  energy : Nat
  /-- When it was sent. -/
  since : Nat
deriving DecidableEq, Repr

/-- A request that waits at the weighbridge or holds a grant there (R231, R233, R237): the request, its
kind (0 channel, 1 gang, 2 frequency step, 3 MRAM bulk, 4 crypto bulk, 5 PHY training), the context
whose class it takes, PEAK (for kind 2 the target step) and ENERGY, its declared power in mW, when it
arrived, when it was deferred, and when it was granted. -/
structure Ask where
  id : Nat
  kind : Nat
  /-- The channel, slot, port or crypto queue that asks. -/
  unit : Nat
  /-- The context whose class it takes (R232). -/
  ctx : Nat
  /-- PEAK, for kind 2 the target step; ENERGY (R231). -/
  peak : Nat := 0
  energy : Nat := 0
  /-- Its declared power in mW (R231). -/
  power : Nat := 0
  /-- The ticks at which it arrived, was deferred, and was granted (R233, R237). -/
  since : Nat := 0
  defAt : Nat := 0
  grantAt : Nat := 0
deriving DecidableEq, Repr

/-- An answer to a leave request on its way to the die. -/
structure Answer where
  id : Nat
  ch : Nat
  ok : Bool
deriving DecidableEq, Repr

/-- Hidden state of a field die. -/
structure Die where
  /-- Timed command queue in enqueue order. -/
  tq : List Tq := []
  /-- Origin of each PWM generator in TB0 ns while one of its leads is in PWM (R121), by generator;
  before TB0 time 0 if need be. -/
  org : Sparse (Option Int) := []
  /-- The value that the last alignment pulse carried and when it came: the local tick counter (R20). -/
  alTb : Nat := 0
  alAt : Nat := 0
  /-- Leads that keep their sleep-oscillator timing until the next boundary of the TB0 grid (R124). -/
  slpK : List Nat := []
  /-- When AMB was last written (R159). -/
  ambAt : Nat := 0
  /-- Leads whose bank-feed resume is still to be made after BANK_LOW ended, and the tick, plus 1, of the last
  resume (R161). -/
  resume : List Nat := []
  resumeAt : Nat := 0
  /-- The bank feed as last measured, in converter units (R161). -/
  feed : Int := 0
  /-- The grid phase in force, in ticks; the register holds the one to move to (R189). -/
  phase : Nat := 0
  /-- Ticks, plus 1, of the last sample and of the last wire-model update; the local tick counter at that
  sample in ns; samples since start. -/
  sampAt : Nat := 0
  sampTb : Nat := 0
  wmAt : Nat := 0
  sampN : Nat := 0
  /-- Energy dissipated since the last report, in 2^-35 µJ (R224), and the last report. -/
  diss : Int := 0
  rep : Int := 0
  /-- The die runs on its sleep oscillator, or has had no alignment pulse since it did (R124). -/
  asleep : Bool := false
deriving DecidableEq, Repr

/-- Hidden state of a general input (R196 to R200): the raw level, when its last edge came and at what
TB0 time (none in SLEEP), the edges of the chatter window and its start, since when the accepted level
is active, and when the first wake of the storm guard's count came. -/
structure Input where
  raw : Bool := false
  rawAt : Nat := 0
  rawTb : Option Nat := none
  edges : Nat := 0
  chatAt : Nat := 0
  actAt : Nat := 0
  stormAt : Nat := 0
  /-- When LEVEL was last sampled in CHATTER. -/
  sampAt : Nat := 0
  /-- The tick after the one of the last sample in SLEEP (R215); 0: none yet. -/
  pollAt : Nat := 0
deriving DecidableEq, Repr

/-- Hidden state of the keeper supervisor (R34, R90, R648): when the last keepalive came, no keepalive
since VKEEP power-up or the last KC start, an SV4 reaction in force, the boot ROM halted. -/
structure Keeper where
  last : Nat := 0
  noKeep : Bool := true
  sv4 : Bool := false
  bootHalt : Bool := false
  /-- What an SV4 reaction leaves for the next start: `some true` holds KC in reset (R645 with SV4_ACT 1),
  `some false` gives the start CAUSE 2 (R97). -/
  sv4Late : Option Bool := none
  /-- The hub responder (R651, R655): ticks of the refusals of the last second, when it was blocked, the
  staged low word of RESP_FRESH, its last response. -/
  refusals : List Nat := []
  blockedAt : Nat := 0
  freshLo : Nat := 0
  respOut : List Byte := []
  /-- STRUCT_DIGEST of the structure last applied to the field dies (R59). -/
  digest : List Byte := List.replicate 48 0
deriving DecidableEq, Repr

/-- A write that a core in Recut mode holds until its slice commits (R506): address, bytes, value. -/
structure Held where
  addr : Nat
  size : Nat
  val : Nat
deriving DecidableEq, Repr

/-- An entry of the echo log (R504): KIND, MASK, ADDR, DATA. -/
structure Echo where
  kind : Nat
  mask : Nat
  addr : Nat
  data : Nat
deriving DecidableEq, Repr

/-- What a core in Recut mode does at the commit of its slice (R502, R513, R517): the instruction that
ends the slice and whose effect is made once; an atomic with its address, size, operand and operation; GATE with
its pc, rs1, translated target and keystone error, GATE.RET with what was written to mgret and mgretpc (R537); a
system instruction of its own slice; a trap with its cause and trap value (R510). -/
inductive Act where
  | recutEnd
  | mode (recut : Bool)
  | fence
  | fenceI
  | fenceField (rd : Nat)
  | atomic (addr size val op : Nat)
  | gate (pc rs1 : Nat) (pa : Option Nat) (err : Bool)
  | gateRet (wr : Option (Nat × Nat))
  | sys (o : SysOp)
  | trap (cause tval : Nat)
deriving DecidableEq, Repr

/-- Register files of a safety core (R500, R503): an integer file, a floating-point file, fcsr and the pc. What an
unlisted index of a file reads as is said by the file's reader. -/
structure Files where
  x : Sparse W32 := []
  f : Sparse W32 := []
  fcsr : W32 := 0
  pc : W32 := 0
deriving DecidableEq, Repr

/-- The CSRs of a hart besides those of R527 and R470 (R469; the RISC-V privileged specification): the fields of
mstatus, hstatus and vsstatus that a trap and its return change, and every other CSR by its number, 0 where it is not
listed. -/
structure Csrs where
  mpie : Bool := false
  mpp : Nat := 0
  mpv : Bool := false
  sie : Bool := false
  spie : Bool := false
  spp : Nat := 0
  spv : Bool := false
  vsie : Bool := false
  vspie : Bool := false
  vspp : Nat := 0
  reg : Sparse Nat := []
deriving DecidableEq, Repr

/-- The hidden state of a hart (R524, R527): world, present context, privilege (0 U, 1 S or HS, 3 M),
virtualisation mode, mstatus.MIE, and the CSRs mwctx.GATED, mgret, mgretpc, hvctx. -/
structure Hart where
  w : Bool := true
  ctx : Nat := 0
  prv : Nat := 3
  v : Bool := false
  mie : Bool := false
  gated : Bool := false
  retPie : Bool := false
  retV : Bool := false
  retPrv : Nat := 0
  retW : Bool := false
  retCtx : Nat := 0
  retPc : Nat := 0
  hvctx : Nat := 2
  /-- The hart's pc after the last command that sets it (a release, a gate, a trap entry, a commit). -/
  pc : Nat := 0
  /-- The CSRs of the privileged specification; x1 to x31 of an application hart. -/
  c : Csrs := {}
  xa : Sparse Nat := []
  /-- The registers of a safety core (R500, R503): the checkpoint, the pass-one files (in Single mode the
  registers) and the pass-two files, which hold transformed values at transformed indices. -/
  cp : Files := {}
  p1 : Files := {}
  p2 : Files := {}
  /-- The slice in progress (R504, R505): the instructions that pass one has run, and, per index of the echo log, the
  value returned, the signature and the cycle offset. -/
  prog : List RegOp := []
  rets : Sparse Nat := []
  sigs : Sparse Nat := []
  offs : Sparse Nat := []
  /-- The CSRs of the checkpoint (R500). -/
  cpC : Csrs := {}
  /-- The instructions that a re-run still has to repeat, and whether it ends with the last of them (R508). -/
  redo : List RegOp := []
  redoEnd : Bool := false
  /-- The ticks at which the present phase and pass one began (R500, R504). -/
  phAt : Nat := 0
  oneAt : Nat := 0
  /-- The commit in progress has counted its slice: only its last instruction waits (R502, R506). -/
  counted : Bool := false
  /-- A CMD RESET waits for the hart's non-posted accesses (R472). -/
  rstWait : Bool := false
  /-- EBREAK enters debug mode (R514). -/
  dbgBrk : Bool := false
  /-- The tick at which mcycle was last written or reset, from which it counts on (R506). -/
  cycAt : Nat := 0
  /-- LR reservation: the aligned 64-byte block (R482). -/
  resv : Option Nat := none
  /-- The CSRs stimecmp and vstimecmp, and the timer interrupts pending (R470). -/
  stimecmp : Nat := 2 ^ 64 - 1
  vstimecmp : Nat := 2 ^ 64 - 1
  mtip : Bool := false
  stip : Bool := false
  vstip : Bool := false
  /-- Recut (R500 to R514): the echo log and the held writes of the slice in progress, what its commit
  does besides, whether the slice is a re-run and whether its pass one has ended, whether the open group has
  been split, GROUP and that at the start of the slice, whether the core is
  reset when the commit in progress ends, a debug halt that waits for the end of the slice, and the
  millisecond, plus 1, of the last self-test. -/
  echo : List Echo := []
  held : List Held := []
  act : Option Act := none
  rerun : Bool := false
  ending : Bool := false
  split : Bool := false
  group0 : Bool := false
  split0 : Bool := false
  rstAfter : Bool := false
  dbgReq : Bool := false
  stMs : Nat := 0
  /-- A FENCE.FIELD waits (R485): its rd and the tick it began to wait. -/
  ffWait : Option (Nat × Nat) := none
deriving DecidableEq, Repr

/-- A ring message (R450) without USER, which is NM_USER of the sender. -/
structure RingMsg where
  dest : Nat
  op : Nat
  si : Bool
  sa : Bool
  reason : Nat
  round : Nat
deriving DecidableEq, Repr

/-- Hidden state of a ring engine (R451, R452); STATE, SUCC and PRESENT are registers. -/
structure Ring where
  /-- A RING has been seen since the engine entered ALIVE. -/
  seen : Bool := false
  /-- When ALIVE was entered, and when WBS was. -/
  aliveAt : Nat := 0
  wbsAt : Nat := 0
  /-- When a RING with DEST equal to NODE came that has not been answered. -/
  token : Option Nat := none
  /-- When the engine last sent RING, and whether its successor's RING is still awaited. -/
  sentAt : Nat := 0
  await : Bool := false
  /-- When a RING was last sent or received. -/
  anyAt : Nat := 0
  /-- Nodes whose RING with SI 1 came since the engine last sent RING, and whether one came with SI 0. -/
  si1 : Nat := 0
  si0 : Bool := false
  /-- Tokens passed, modulo 256. -/
  round : Nat := 0
  /-- The message last handed to the protocol engine, and the frame that carries it (R450). -/
  sent : Option RingMsg := none
  frame : Option CanFrame := none
  /-- The error counters of the engine's protocol engine (R449). -/
  txErr : Nat := 0
  rxErr : Nat := 0
deriving DecidableEq, Repr

/-- An entry of the wake recorder (R461): the word of WK_HEAD, RTC seconds and count. -/
structure WkEntry where
  word : W32
  sec : Nat
  sub : Nat
deriving DecidableEq, Repr

/-- A wake that a source has made and that UH has not yet taken: its code (R460), its tick and the time
of the always-on clock. -/
structure Due where
  code : Nat
  tick : Nat
  sec : Nat
  sub : Nat
  /-- The entry of the storm guard (R200), no wake itself. -/
  storm : Bool := false
deriving DecidableEq, Repr

/-- Hidden state of UH's sleep logic (R455 to R459). -/
structure Sleep where
  /-- From step 1 of an entry until the next wake every enabled source is armed. -/
  armed : Bool := false
  /-- When a wake last aborted an entry: its sources stay armed until the cores have resumed (R457, R458). -/
  abortAt : Option Nat := none
  /-- The tick of the point of no return; none when no entry has passed it. -/
  latch : Option Nat := none
  /-- STATE at the request, and the transceiver modes then, CAN0 to CAN15 and LIN0 to LIN11. -/
  src : Nat := 0
  can : List Nat := []
  lin : List Nat := []
  /-- Ports whose detector stays powered. -/
  detect : Nat := 0
  /-- A late wake waits for RAIL_EN to have been low for 1 ms since `lowAt`. -/
  late : Bool := false
  lowAt : Nat := 0
  /-- WK_LAST has been written for this SLEEP. -/
  lastSet : Bool := false
  /-- The keeper timeout that R459 counts from. -/
  lostAt : Option Nat := none
  /-- Transceivers put to sleep by R459. -/
  fsCan : Nat := 0
  fsLin : Nat := 0
  /-- Sources put to sleep by R455, and every transceiver's mode at STANDBY entry. -/
  sbCan : Nat := 0
  sbLin : Nat := 0
  sbEth : Nat := 0
  sbCanMode : List Nat := []
  sbLinMode : List Nat := []
deriving DecidableEq, Repr

/-- Hidden state of UH's power logic (R19 to R21, R80 to R82, R95). -/
structure Power where
  /-- VKEEP is present; false in OFF. UH is ready. -/
  vkeep : Bool := true
  ready : Bool := false
  /-- The pins RAIL_EN and RAIL_GOOD, and when RAIL_GOOD last rose or KC was last reset. -/
  railEn : Bool := false
  railGood : Bool := false
  goodAt : Nat := 0
  /-- The transition in progress: its target STATE and the tick of the request. -/
  trans : Option (Nat × Nat) := none
  /-- Application harts that IDLE has halted. -/
  idle : List Nat := []
  /-- The field links run on KC's clock; false on the keeper PLL. While KC is there: TB0 as UH last received it and
  when, from which UH counts on without KC's clock or after a KC reset (R20, R431). -/
  linkKc : Bool := false
  uhTb : Option (Nat × Nat) := none
  /-- The always-on domain runs on its RC oscillator. -/
  rcOsc : Bool := false
  /-- The level of ALIVE while it is driven, and when it last changed. -/
  alive : Bool := false
  aliveAt : Nat := 0
deriving DecidableEq, Repr

/-- Hidden state of a time base's servo (R428): I in 1/1,024 ppb, the consecutive samples within
SYNC_THR, when CLAMP became 1, and whether its second has been reported. -/
structure Servo where
  i : Int := 0
  good : Nat := 0
  clampAt : Nat := 0
  told : Bool := false
deriving DecidableEq, Repr

/-- Hidden state of a pulse output (R438): the next rise (33 bits), whether the output is in a pulse, and
when that pulse falls. -/
structure Pulse where
  next : Option Nat := none
  high : Bool := false
  fallAt : Nat := 0
  /-- A step of the time base has skipped the rise: the time after the step, at which it fell due (R430). -/
  dueAt : Option Nat := none
deriving DecidableEq, Repr

/-- An entry of a PTP timestamp FIFO (R433). -/
structure Pts where
  tb0 : Nat
  tb1 : Nat
  sent : Bool
  dom : Nat
  ty : Nat
  seq : Nat
deriving DecidableEq, Repr

/-- A Tally strobe as the units on UH and the field dies hold it (R439, R442): target, sequence number,
dies that take part, and those of them that received S in time. -/
structure Strobe where
  at33 : Nat
  seq : Nat
  bf : Nat
  got : Nat
deriving DecidableEq, Repr

/-- Hidden state of the weighbridge (R223 to R242). Powers are in mW, node temperatures in 10^-12 °C. -/
structure Weigh where
  /-- P_meas and the consecutive measurements over the limit, at most 5. -/
  pMeas : Nat := 0
  ovr : Nat := 0
  /-- The last reports of UH and of the field logic in mW, and whether each is above its limit (R223). -/
  pUh : Nat := 0
  pFl : Nat := 0
  uhOver : Bool := false
  flOver : Bool := false
  /-- P_cond in 2^-35 mW, and the bank current of each die: the sum of the last 125 samples of its
  channels in 80 A ÷ 2^31. -/
  pCond : Int := 0
  bank : Sparse Int := []
  /-- The lid temperature in m°C, and whether it stands at LID_ZERO. -/
  tLid : Int := 25000
  lidZero : Bool := false
  /-- T_KC, T_UH, T_BF; whether they have been started from the sensors; since when each differs from its
  sensor by more than 10 K, and whether that has been reported. -/
  run : Bool := false
  tKc : Int := 0
  tUh : Int := 0
  tBf : Int := 0
  diff : Sparse (Option Nat) := []
  told : Sparse Bool := []
  /-- The nodes KC, UH and BF that stand above their limits (R227, R249). -/
  hot : List Nat := []
  /-- A course of revocation: in progress, its last action, nothing left reported (R238). -/
  course : Bool := false
  actAt : Nat := 0
  dry : Bool := false
  /-- New requests of KC requesters, in order of arrival, and the refused ones their units have not
  taken. -/
  new : List Ask := []
  refused : List Ask := []
  /-- Grants of kind 4 that have been revoked and that their units have not taken. -/
  revoked : List Ask := []
  /-- Slots whose pending request has been withdrawn (R237). -/
  withdrawn : List Nat := []
  /-- Standby energy in nJ, the channel energy counted so far, and the reports made (R241, R242). -/
  sbNj : Nat := 0
  sbLast : Nat := 0
  sbWarned : Bool := false
deriving DecidableEq, Repr

/-- Hidden state of a core's dispatcher (R243 to R248). -/
structure Disp where
  /-- The ready entries of the core (R244). -/
  ready : List Nat := []
  /-- For each entry, TB0 at its last periodic release, in ns, plus 1 (R244). -/
  last : Sparse Nat := []
  /-- TB0 when dispatch was enabled, in ns; releases before it are not made. -/
  start : Nat := 0
  /-- The entry whose deferral accrues and since when; the time accrued before, by entry (R246). -/
  held : Option (Nat × Nat) := none
  acc : Sparse Nat := []
  /-- The ready entry that the cluster was forced to step 3 for and that waits for the core (R246). -/
  force : Option Nat := none
deriving DecidableEq, Repr

/-- An access to a memory region on its way: who makes it, what it does, where, how wide, the store data
or the operand, the operation of an atomic (0 LR, 1 SC, 2 AMOSWAP, 3 AMOADD, 4 AMOXOR, 5 AMOAND, 6 AMOOR,
7 AMOMIN, 8 AMOMAX, 9 AMOMINU, 10 AMOMAXU), and the memory error it meets: the memory of R497 and
whether it is uncorrectable. One that waits keeps the attributes it was made with (R472, R522). -/
structure MemAcc where
  init : Init
  kind : Acc
  addr : Nat
  size : Nat
  val : Nat := 0
  op : Nat := 0
  err : Option (Nat × Bool) := none
  who : Option (Bool × Nat) := none
deriving DecidableEq, Repr

/-- A TLB entry of the ATU (R556): the context, the VPN whose low bits the level makes 0, the level of the
leaf, its physical page number, whether it permits reads and writes, whether D is 1, and the GEN. -/
structure TlbEntry where
  ctx : Nat
  vpn : Nat
  level : Nat
  ppn : Nat
  r : Bool
  w : Bool
  d : Bool
  gen : Nat
deriving DecidableEq, Repr

/-- A burst of a device on its way (R551, R558): SRC and UNIT of R568, the owner, the GEN it carries, the
device address, the bytes of a write or the length of a read, and whether its walk is to be repeated. -/
structure Dma where
  src : Nat
  unit : Nat
  ctx : Nat
  gen : Nat
  va : Nat
  write : Bool
  data : List Byte
  n : Nat
  again : Bool := false
deriving DecidableEq, Repr

/-- Hidden state of the ATU (R554 to R565): the TLB by set, most recently used first; bursts that wait for a
walk, that a stop holds, and that are past the ATU; operations not yet in effect and invalidations in
progress; for each context the tick, plus 1, of the last BUMP since which INFLIGHT has not been 0, and whether a stale completion has been
reported since. -/
structure Atu where
  tlb : Sparse (List TlbEntry) := []
  walk : List Dma := []
  hold : List Dma := []
  fly : List Dma := []
  /-- Writes past the ATU that the MRAM throttle holds, each with its physical address (R232). -/
  stall : List (Dma × Nat) := []
  /-- Operations written and not yet in effect: context and OP (R562). -/
  ops : List (Nat × Nat) := []
  /-- ALL, RANGE and CTX of the invalidation in progress, and VA and CNT as they stood at its write (R557). -/
  inv : Option (Bool × Bool × Nat × Nat × Nat) := none
  /-- By context: the tick, plus 1, of the last BUMP since which INFLIGHT has not been 0; whether a stale completion has
  been reported since (R560). -/
  bumpAt : Sparse Nat := []
  told : Sparse Bool := []
deriving DecidableEq, Repr

/-- A transaction in the field bridge (R571 to R576): its initiator, whether it bears the boot ROM's mark,
whether it writes and is posted, the address, the data, CTX and GEN at acceptance, BSEQ, the tick of
acceptance; whether its target has applied it, the reason of R586 of a failure (0 none), whether it has
timed out, whether it is a held write of a commit, whose failure comes late (R507), and the tick, plus 1, at which a
write was applied or failed. -/
structure Tx where
  init : Init
  mark : Bool := false
  write : Bool
  posted : Bool
  addr : Nat
  val : Nat
  ctx : Nat
  gen : Nat
  bseq : Nat := 0
  tick : Nat
  applied : Bool := false
  fail : Nat := 0
  dead : Bool := false
  late : Bool := false
  ended : Nat := 0
deriving DecidableEq, Repr

/-- A STORE, or an UNSTORE where `un`, that KC's reset interrupted (R619, R620, R631): the slot, its attributes, owner
and key bytes, and a number that tells how many of its words were written. -/
structure Torn where
  un : Bool
  slot : Nat
  attr : Nat
  owner : Nat
  key : List Byte
  words : Nat
deriving DecidableEq, Repr

/-- Hidden state of the bridge: the transactions in order of acceptance, the last BSEQ given, when each
semaphore was taken by an LR, and the late-error log entries in order of writing, newest first. -/
structure Brg where
  tx : List Tx := []
  seq : Nat := 0
  semAt : Sparse Nat := []
  late : List Nat := []
deriving DecidableEq, Repr

/-- A buffer of a CAN controller besides its registers (R402, R405): the active copy, when its frame ended
(33 bits), whether it waits for LOCK 0, whether a request was made during the attempt in progress, an abort of that
attempt. -/
structure CanBuf where
  act : Option CanFrame := none
  ts : Nat := 0
  wait : Bool := false
  again : Bool := false
  abort : Bool := false
deriving DecidableEq, Repr

/-- Hidden state of a CAN controller (R400 to R410): buffers 0 to 63 and XL buffers 64 to 71; the gateway
transmit FIFO; the receive FIFO with the times of the ends of frames; the buffer whose frame is on the bus,
72 for the gateway FIFO; EN has been written 0 during a frame, its own or another node's; the candidate of the rate
detection, whether it waits for 11 recessive bits, the frames it has received without error, the candidates passed
since RATE_FAIL. -/
structure CanCtl where
  buf : Sparse CanBuf := []
  gw : List CanFrame := []
  fifo : List (CanFrame × Nat) := []
  sending : Option Nat := none
  leaving : Bool := false
  cand : Nat := 0
  integ : Bool := true
  good : Nat := 0
  passed : Nat := 0
deriving DecidableEq, Repr

/-- A LIN frame in progress: its identifier, the direction of its response, the data published. -/
structure LinFrame where
  id : Nat
  dir : Nat
  data : List Byte
  /-- It is the go-to-sleep frame of a SLEEP_CMD. -/
  sleep : Bool := false
deriving DecidableEq, Repr

/-- Hidden state of a LIN controller (R414 to R418): the staged response data by 2 × identifier + half; the
header sent whose identifier has not ended, whether it is that of a SLEEP_CMD, the frame in progress; when the present slot began and its
length; the next entry; a SLEEP_CMD that waits; when the bus was last active. -/
structure LinCtl where
  stage : Sparse W32 := []
  head : Option Nat := none
  sleepHdr : Bool := false
  cur : Option LinFrame := none
  slotEnd : Nat := 0
  next : Nat := 0
  sleepCmd : Bool := false
  busAt : Nat := 0
deriving DecidableEq, Repr

/-- A message of CAN or LIN traffic on its way through the gateway (R352, R356): its source code, the remote
bus, the frame (a LIN frame as a classic frame with its identifier), whether LIN, when it ended on TB1. -/
structure GwMsg where
  src : Nat
  rbus : Nat
  lin : Bool
  frame : CanFrame
  tb1 : Nat
deriving DecidableEq, Repr

/-- A frame at an input of the fabric that the forwarding engine has not judged (R323 to R325): the bytes
from the destination address on without FCS, as far as they have arrived; TS (33 bits); whether all of them
have; whether its last cell is to carry ERR; the host descriptors it came from (queue pair, first descriptor,
how many); whether TS is a launch time. -/
structure Rx where
  data : List Byte
  ts : Nat
  /-- The tick of its decision point (R323). -/
  since : Nat
  /-- Whether all its bytes have arrived; whether its last cell is to carry ERR (R324). -/
  whole : Bool := true
  bad : Bool := false
  /-- The host descriptors it came from: queue pair, first descriptor, how many; whether TS is a launch time (R385). -/
  host : Option (Nat × Nat × Nat) := none
  lt : Bool := false
deriving DecidableEq, Repr

/-- A frame inside the switch core (R276 to R290, R326): its number, the input it came from, its bytes
without FCS as far as they have arrived, whether all have, whether its last cell carries ERR, L, TS; the
output or anchor, the member set of a multicast frame (0 for unicast), its group (0xFFFF for unicast), the traffic
class; VID, PCP, DEI; frames that are sent as received (trapped ones); the stream; the generation function and the
number it gave; STRIP;
the core sample session with SAMPLE_SEQ, and whether the frame itself has no destination; the host
descriptors it came from. `voq`: it is in its VOQ; `stall`: it waits for room (R287). `sent` cells have
entered stage A, the first with SEQ `seq0`; `linked` cells have been linked at the output; `dead`: it has been
discarded and its input still sends the rest; `dbl`: the audit found one of its cells free (R296). `col`: the colour
of the mark bits of its linked cells; `sus`: the last audit has found them unmarked (R295). -/
structure Frm where
  id : Nat
  inp : Nat
  data : List Byte
  whole : Bool
  bad : Bool := false
  len : Nat
  ts : Nat
  dst : Nat := 0
  mc : Nat := 0
  mcg : Nat := 0xffff
  tc : Nat := 0
  vid : Nat := 0
  pcp : Nat := 0
  dei : Bool := false
  raw : Bool := false
  stream : Option Nat := none
  gen : Option (Nat × Nat) := none
  strip : Bool := false
  cs : Option (Nat × Nat) := none
  csOnly : Bool := false
  host : Option (Nat × Nat × Nat) := none
  lt : Bool := false
  voq : Bool := false
  stall : Bool := false
  sent : Nat := 0
  seq0 : Nat := 0
  linked : Nat := 0
  dead : Bool := false
  dbl : Bool := false
  col : Bool := false
  sus : Bool := false
deriving DecidableEq, Repr

/-- A cell on its way (R276, R277): its frame, its place in it, whether it is the first and the last, its input, SEQ;
its header of 64 bits and its 64 payload bytes. -/
structure Cell where
  frm : Nat
  k : Nat
  first : Bool
  last : Bool
  inp : Nat
  seq : Nat
  hdr : Nat
  bytes : List Byte
deriving DecidableEq, Repr

/-- An entry of an egress queue: a frame, and whether the entry is a core sample copy (R350). -/
structure QEnt where
  frm : Nat
  cs : Bool
deriving DecidableEq, Repr

/-- A frame in transmission at an egress port: its queue entry, class, when it began or resumed, whether it is of a
preemptable class, whether it is preempted now, the MACsec AN and PN it is sent with; the tick at which the present
fragment began, and the bytes sent in those before it (R376, R378). -/
structure Sending where
  ent : QEnt
  tc : Nat
  since : Nat
  pre : Bool := false
  held : Bool := false
  msec : Option (Nat × Nat) := none
  began : Nat := 0
  sent : Nat := 0
deriving DecidableEq, Repr

/-- Hidden state of the switch fabric (R270 to R296). -/
structure Fab where
  /-- The slot number modulo 32, and the number of the next frame. -/
  slot : Nat := 0
  next : Nat := 0
  /-- The frames inside the core (R276). -/
  frms : List Frm := []
  /-- The next SEQ by 32 × input + output; the expected SEQ by 32 × output + input. -/
  seqOut : Sparse Nat := []
  expect : Sparse Nat := []
  /-- Cells that wait unlinked with their ticks of arrival, by 32 × output + input. -/
  early : Sparse (List (Cell × Nat)) := []
  /-- The queues of the intermediates by 32 × intermediate + output. -/
  inter : Sparse (List Cell) := []
  /-- The egress queues by 8 × output + class. -/
  oq : Sparse (List QEnt) := []
  /-- The frames in transmission of a port, the one that preempts first. -/
  tx : Sparse (List Sending) := []
  /-- The last report of the port was link down (R291), when in TB0 ns, and GRACE of its queues then, in ns, by
  8 × output + class. -/
  down : Sparse Bool := []
  downAt : Sparse Nat := []
  grace : Sparse Nat := []
  /-- When the last audit began, whether another waits for the running one, and the colour (R295). The cells of no
  frame that it found unmarked are those that the free counts lack. -/
  audAt : Nat := 0
  audNext : Bool := false
  audCol : Bool := false
  /-- Host descriptors whose frames have left the core and that are still to be written back. -/
  hostDone : List (Nat × Nat × Nat) := []
  /-- Frames that egress ports 26, 27 and 28 have delivered: the bytes, L, TS, VID and class. -/
  out : Sparse (List (List Byte × Nat × Nat × Nat)) := []
deriving DecidableEq, Repr

/-- Hidden state of a flow meter (R340): the committed and excess tokens in 1/8,000,000 byte, and when they
were last filled, in TB0 ns. -/
structure Meter where
  c : Nat := 0
  e : Nat := 0
  since : Nat := 0
deriving DecidableEq, Repr

/-- Hidden state of a sequence recovery function (R343): the history with the newest number in bit 0, take
any number next, when a frame was last accepted. -/
structure Srf where
  hist : Nat := 0
  take : Bool := true
  since : Nat := 0
deriving DecidableEq, Repr

/-- Hidden state of a port's gate lists (R346, R347): when the operating list starts in TB0 ns, none while
it is not enabled; the change time of the administrative list; whether Hold was in force when the operating list
became so. -/
structure Qbv where
  start : Option Nat := none
  chg : Option Nat := none
  hold : Bool := false
deriving DecidableEq, Repr

/-- Hidden state of a credit-based shaper (R344): the credit in 10^-6 bits and when it was last counted, in
TB0 ns. -/
structure Cbs where
  credit : Int := 0
  since : Nat := 0
deriving DecidableEq, Repr

/-- A frame whose first 128 bytes a port has received and whose end is still to come (R323, R324, R371): its
L on the wire, TS, its number in the core if it is there, the VID and source address to be learned, whether
it waits for its end before it is judged, whether a check of R371 has discarded it. -/
structure RxNow where
  len : Nat
  ts : Nat
  frm : Option Nat := none
  learn : Option (Nat × Nat) := none
  wait : Bool := false
  gone : Bool := false
deriving DecidableEq, Repr

/-- Hidden state of an Ethernet port (R369 to R387): the frame in reception; when each paused class ends its
pause; when the port last sent pause while its input is above XON; the pause last sent (PFC, quanta, classes);
when the link training is retried; when CT_THR last changed or an underrun came; when the TC10 sleep request
was sent; the TC10 wake-up pulses sent, and whether the one of R384 at module wake has been; the bytes, without
FCS, of the frame last sent. Host ports: the queue pair whose turn it is with the turns it has left, and the
launch frames that wait, by queue pair with the time they are passed. -/
structure Port where
  rx : Option RxNow := none
  pauseEnd : Sparse Nat := []
  xoffAt : Option Nat := none
  pauseTx : Option (Bool × Nat × Nat) := none
  retryAt : Option Nat := none
  ctAt : Nat := 0
  slpAt : Option Nat := none
  wups : Nat := 0
  fwdDone : Bool := false
  /-- A hand-over has reported the port down: it stays down until EN is written 0 and then 1 (R644). -/
  barred : Bool := false
  /-- The bytes, without FCS, of the frame last sent. -/
  sent : List Byte := []
  /-- The copy whose transmission was last ended early, and how many of its bytes had been sent (R376, R377). -/
  cut : Option (Sending × Frm × Nat) := none
  /-- Host ports: the queue pair whose turn it is with the turns it has left; the launch frames that wait, by queue
  pair with the time they are passed (R385). -/
  turn : Nat × Nat := (0, 0)
  wait : List (Nat × Nat × Rx) := []
  /-- Port with PLCA: the frames sent in its latest transmit opportunity, and the tick at which the last of them ended
  (R368, R390). -/
  oppN : Nat := 0
  oppEnd : Nat := 0
deriving DecidableEq, Repr

/-- Hidden state of the FCU (R636 to R654): the log, oldest first (FCU_LOG, FCU_LOG_TS, FCU_LOG_DET); for each
active source the severity it acts with; the ticks, plus 1, of its last raising and of the last instant its
condition held; for a HYBRID source that waits for ACK the tick its active state ended, plus 1; the restarts
requested: context, tick, raising. -/
structure Fcu where
  log : List (W32 × Nat × Nat) := []
  eff : Sparse Nat := []
  lastAt : Sparse Nat := []
  condAt : Sparse Nat := []
  openAt : Sparse Nat := []
  rst : List (Nat × Nat × Raise) := []
  /-- The last raising of each source. -/
  last : Sparse Raise := []
  /-- Step 5 of R60 has been reached at this start: severities are in force (R645). -/
  plan : Bool := false
deriving DecidableEq, Repr

/-- An APLIC domain (R490; its registers are those of the RISC-V Advanced Interrupt Architecture): domaincfg.IE,
sourcecfg and target of each source, the pending and the enabled sources as bit sets, the source levels last
seen, genmsi. -/
structure Apl where
  ie : Bool := false
  cfg : Sparse Nat := []
  tgt : Sparse Nat := []
  pend : Nat := 0
  en : Nat := 0
  was : Nat := 0
  gen : Nat := 0
deriving DecidableEq, Repr

/-- What the CSRs of a hart hold of an interrupt file besides the pending identities (R489): eidelivery,
eithreshold and the enabled identities. -/
structure IFile where
  del : Nat := 0
  thr : Nat := 0
  en : Nat := 0
deriving DecidableEq, Repr

/-- A line of a cache (R473, R535): its address divided by 64, with the SEC, CTX and POT entry under which it was
filled. -/
structure Line where
  at64 : Nat
  sec : Bool
  ctx : Nat
  entry : W32
deriving DecidableEq, Repr

/-- The Debug Module (R494): the harts selected last, halted on request and resumed, as bit sets by mhartid. -/
structure Dm where
  hartsel : Nat := 0
  haltreq : Nat := 0
  resumed : Nat := 0
deriving DecidableEq, Repr

/-- The hidden state on KC that every KC reset clears (R38), but for the parts that `Blk` holds under
their own names. -/
structure KcPart where
  /-- TB1 in units of 2^-32 ns, modulo 2^96. -/
  tb1 : Nat := 0
  /-- The servos of the time bases, by base (R426 to R429). -/
  servo : Sparse Servo := []
  /-- The pulse outputs, by output (R438). -/
  pulse : Sparse Pulse := []
  /-- The timestamp FIFO of each port, oldest first (R446). -/
  pts : Sparse (List Pts) := []
  /-- ARM_STOP has been written since the armed strobe was armed (R440). -/
  tallyStop : Bool := false
  /-- The weighbridge (R223 to R242). -/
  wb : Weigh := {}
  /-- WBG_CLASS of each context (R45): 0 SAFETY, 1 BODY, 2 COMFORT. -/
  cls : Sparse Nat := []
  /-- The dispatchers, by safety core (R243 to R248). -/
  disp : Sparse Disp := []
  /-- Identities pending in the interrupt files, as a bit set by page number (R489). -/
  files : Sparse Nat := []
  /-- The CSR side of the interrupt files, by page number (R489). -/
  ifile : Sparse IFile := []
  /-- The caches (R473): the lines of each set, most recently used first, by 65536 × cache + set. Caches: 0 to 7 the L1
  instruction caches, 8 to 15 the L1 data caches, 16 and 17 the L2s, 18 the system cache. -/
  cache : Sparse (List Line) := []
  /-- The Debug Module (R494). -/
  dm : Dm := {}
  /-- The tick, plus 1, at which a scrub of the memory last completed (R478). -/
  scrubAt : Sparse Nat := []
  /-- The POT caches (R535): the entries of each set, most recently used first, by 256 × target + set.
  Targets: 0 to 3 the DRAM channels, 4 the safety SRAM, 5 the MRAM, 6 + n the TCM of SCn. -/
  pot : Sparse (List (Nat × W32)) := []
  /-- Accesses that wait for a POT line, oldest first, and MRAM writes that the throttle holds (R232). -/
  memWait : List MemAcc := []
  stall : List MemAcc := []
  /-- The range of the invalidation in progress (R536). -/
  inv : Option (Nat × Nat) := none
  /-- The 64 KB DRAM blocks cleared before DRAM_CLR is 0 (R480). -/
  cleared : Sparse Bool := []
  /-- Ticks of the corrected errors of the last second, by memory, newest first (R478). -/
  ceAt : Sparse (List Nat) := []
  /-- MRAM bytes a context has written without a bulk slot: the millisecond and the count (R232). -/
  mramMs : Sparse (Nat × Nat) := []
  /-- Queue pairs whose message waits for delivery (R491). -/
  msi : List Nat := []
  /-- The ATU (R554 to R566). -/
  atu : Atu := {}
  /-- The field bridge on KC (R571 to R583). -/
  brg : Brg := {}
  /-- The CVU ring whose turn is next, by unit, and the rings that found HW 0 at HEAD (R593, R600); the
  same for the crypto engines. -/
  cvuTurn : Sparse Nat := []
  cvuWait : Sparse Bool := []
  cryTurn : Sparse Nat := []
  cryWait : Sparse Bool := []
  /-- The bytes used of each key slot, the keys AK and SK (R610, R614). -/
  keys : Sparse (List Byte) := []
  ak : Option (List Byte) := none
  sk : Option (List Byte) := none
  /-- The KV command in progress: OP, SLOT, SRC_DS, SRC, ARG (R615). -/
  kvCmd : Option (Nat × Nat × Bool × Nat × Nat) := none
  /-- The debug challenge held (R626), and whether a tamper alarm has been detected since the KC start. -/
  chal : Option (List Byte) := none
  tampered : Bool := false
  /-- The segments of the quarantine loop's last response (R625). -/
  quarOut : List (List Byte) := []
  /-- The CAN controllers, by number (R397 to R412). -/
  can : Sparse CanCtl := []
  /-- The LIN controllers, by number (R413 to R419). -/
  lin : Sparse LinCtl := []
  /-- Frames that wait for the forwarding engine, by input; at input 28 those of CG's store (R355). -/
  look : Sparse (List Rx) := []
  /-- The switch fabric (R272 to R300). -/
  fab : Fab := {}
  /-- The MAC table (R330): key and MAC_DATA word of each entry; the result of the command in progress:
  RESULT, INDEX, and MAC_DATA with the key where it returns them. -/
  mac : Sparse (Nat × Nat) := []
  macRes : Option (Nat × Nat × Option (Nat × Nat)) := none
  /-- When the last aging sweep was made, plus 1 (R333). -/
  sweepAt : Nat := 0
  /-- When the list of a stream gate starts, in TB0 ns, plus 1; 0 while EN is 0 (R339). -/
  sgate : Sparse Nat := []
  /-- The flow meters, by number (R340). -/
  meter : Sparse Meter := []
  /-- The sequence recovery functions, by number (R343). -/
  srf : Sparse Srf := []
  /-- Frames that each core sample session has selected since EN was set (R349). -/
  csSeen : Sparse Nat := []
  /-- The gate lists, by port (R345 to R348). -/
  qbv : Sparse Qbv := []
  /-- The credit shapers, by 8 × port + class (R344). -/
  cbs : Sparse Cbs := []
  /-- The Ethernet ports, by port number (R369 to R386). -/
  port : Sparse Port := []
  /-- Completions of a queue pair without a message, and since when (R393). -/
  coal : Sparse (Nat × Nat) := []
  /-- The fault collection unit (R636 to R647). -/
  fcu : Fcu := {}
  /-- The tick, plus 1, from which a power-off of a gate waits for its block (R546). -/
  gateAt : Sparse Nat := []
  /-- The machine-level and the supervisor-level APLIC domain. -/
  apl : Sparse Apl := []
deriving DecidableEq, Repr

end Sys2Proof.Machine
end

