-- ==== Sys2Proof/Machine/RegMap.lean ====
section
/-!
DEFINITION. Machine/RegMap.lean: the register map of the block, one row per register of the spec's
register tables (R3 to R655), with its base address, the counts and steps of its indices, and its
fields (most and least significant bit, type of R7, reset value). A field whose reset entry is a
dash ("live state with no fixed reset value", R10) has the reset value 0 here, which is the model's
choice (DESIGN CHOICE, assumption 2). Reset values that depend on the index stand in `resetSpecial`.
-/

namespace Sys2Proof.Machine

/-- The field types of R7. -/
inductive FieldTy where
  | rw | ro | wo | w1c | w1s | rwl
deriving DecidableEq, Repr

/-- One field of a register: bits `hi` to `lo`, its type, its value at reset. -/
structure FieldSpec where
  hi : Nat
  lo : Nat
  ty : FieldTy
  rst : Nat
deriving DecidableEq, Repr

/-- One register of the spec: `base` is the address at index 0; `dims` lists, outermost first, how
many instances an index has and how far apart they lie. -/
structure RegSpec where
  name : String
  base : Nat
  dims : List (Nat × Nat)
  fields : List FieldSpec
deriving DecidableEq, Repr

/-- Registers of block SYSCTL. -/
def regsSysctl : List RegSpec := [
  ⟨"SYSCTL_ID", 0x40000000, [],
    [⟨31, 24, .ro, 0x54⟩, ⟨23, 16, .ro, 0x43⟩, ⟨15, 8, .ro, 0xc0⟩, ⟨7, 4, .ro, 1⟩, ⟨3, 3, .ro, 0⟩]⟩,
  ⟨"SYSCTL_PWR", 0x40000010, [],
    [⟨15, 8, .wo, 0⟩, ⟨7, 7, .w1c, 0⟩, ⟨6, 6, .ro, 0⟩, ⟨5, 3, .ro, 7⟩, ⟨2, 0, .wo, 0⟩]⟩,
  ⟨"SYSCTL_HART_CTL", 0x40000100, [(2, 0x100), (8, 0x10)],
    [⟨31, 24, .wo, 0⟩, ⟨1, 0, .wo, 0⟩]⟩,
  ⟨"SYSCTL_HART_ENTRY_LO", 0x40000104, [(2, 0x100), (8, 0x10)],
    [⟨31, 1, .rw, 0⟩]⟩,
  ⟨"SYSCTL_HART_ENTRY_HI", 0x40000108, [(2, 0x100), (8, 0x10)],
    [⟨7, 0, .rw, 0⟩]⟩,
  ⟨"SYSCTL_HART_STAT", 0x4000010c, [(2, 0x100), (8, 0x10)],
    [⟨9, 9, .ro, 0⟩, ⟨8, 8, .w1c, 0⟩, ⟨2, 0, .ro, 0⟩]⟩,
  ⟨"SYSCTL_SCRUB", 0x40000040, [],
    [⟨31, 31, .rwl, 1⟩, ⟨24, 24, .ro, 1⟩, ⟨23, 16, .rwl, 0xa⟩, ⟨15, 15, .rwl, 1⟩, ⟨7, 0, .rwl, 0x18⟩]⟩,
  ⟨"SYSCTL_CE_THR", 0x40000044, [],
    [⟨15, 0, .rwl, 0x10⟩]⟩,
  ⟨"SYSCTL_ECC_CNT", 0x40000060, [(6, 0x4)],
    [⟨31, 16, .ro, 0⟩, ⟨15, 0, .ro, 0⟩]⟩,
  ⟨"SYSCTL_ECC_ADDR", 0x40000080, [(6, 0x4)],
    [⟨31, 0, .ro, 0⟩]⟩,
  ⟨"SYSCTL_GATE", 0x40001000, [(81, 0x4)],
    [⟨31, 31, .ro, 0⟩, ⟨30, 30, .ro, 0⟩, ⟨29, 29, .ro, 1⟩, ⟨28, 28, .ro, 1⟩, ⟨27, 26, .ro, 2⟩, ⟨1, 1, .rw, 0⟩, ⟨0, 0, .rw, 0⟩]⟩,
  ⟨"SYSCTL_GATE_REL", 0x40002000, [(81, 0x4)],
    [⟨1, 1, .rw, 0⟩, ⟨0, 0, .rw, 0⟩]⟩]

/-- Registers of block WBG. -/
def regsWbg : List RegSpec := [
  ⟨"WBG_LIM", 0x40100000, [],
    [⟨31, 24, .rwl, 0x24⟩, ⟨23, 16, .rwl, 0x28⟩, ⟨15, 8, .rwl, 0x14⟩, ⟨7, 0, .rwl, 0x48⟩]⟩,
  ⟨"WBG_THERM", 0x40100004, [],
    [⟨31, 24, .rwl, 0xc8⟩, ⟨23, 16, .rwl, 0xaa⟩, ⟨15, 8, .rwl, 0xa0⟩, ⟨7, 0, .rwl, 0x91⟩]⟩,
  ⟨"WBG_EXEMPT", 0x40100008, [],
    [⟨31, 16, .rwl, 0x3e8⟩, ⟨15, 8, .rwl, 4⟩]⟩,
  ⟨"WBG_ARB", 0x4010000c, [],
    [⟨31, 24, .rwl, 0x50⟩, ⟨23, 16, .rwl, 0x14⟩, ⟨15, 8, .rwl, 0x32⟩, ⟨7, 0, .rwl, 0x14⟩]⟩,
  ⟨"WBG_FPWR", 0x40100010, [],
    [⟨31, 24, .rwl, 0x10⟩, ⟨23, 16, .rwl, 0x16⟩, ⟨15, 8, .rwl, 0x20⟩, ⟨7, 0, .rwl, 0x30⟩]⟩,
  ⟨"WBG_ECLASS", 0x40100014, [(2, 0x4)],
    [⟨31, 24, .rwl, 0⟩, ⟨23, 16, .rwl, 0⟩, ⟨15, 8, .rwl, 0⟩, ⟨7, 0, .rwl, 0⟩]⟩,
  ⟨"WBG_SB", 0x4010001c, [],
    [⟨31, 24, .rwl, 0xa⟩, ⟨23, 0, .rwl, 0x8ca0⟩]⟩,
  ⟨"WBG_STAT", 0x40100040, [],
    [⟨22, 16, .ro, 0⟩, ⟨5, 5, .ro, 0⟩, ⟨4, 4, .ro, 0⟩, ⟨3, 3, .ro, 0⟩, ⟨2, 2, .ro, 0⟩, ⟨1, 0, .ro, 3⟩]⟩,
  ⟨"WBG_HEAD", 0x40100044, [],
    [⟨31, 16, .ro, 0⟩, ⟨15, 0, .ro, 0⟩]⟩,
  ⟨"WBG_TEMP", 0x40100048, [],
    [⟨31, 24, .ro, 0⟩, ⟨23, 16, .ro, 0⟩, ⟨15, 8, .ro, 0⟩, ⟨7, 0, .ro, 0⟩]⟩,
  ⟨"WBG_SB_USED", 0x4010004c, [],
    [⟨31, 0, .ro, 0⟩]⟩,
  ⟨"WBG_SLOT_REQ", 0x40100100, [(16, 0x10)],
    [⟨31, 16, .wo, 0⟩, ⟨9, 8, .wo, 0⟩, ⟨3, 0, .wo, 0⟩]⟩,
  ⟨"WBG_SLOT_STAT", 0x40100104, [(16, 0x10)],
    [⟨15, 8, .ro, 0⟩, ⟨5, 4, .ro, 0⟩, ⟨2, 0, .ro, 0⟩]⟩,
  ⟨"WBG_SLOT_REL", 0x40100108, [(16, 0x10)],
    [⟨0, 0, .wo, 0⟩]⟩]

/-- Registers of block DISP. -/
def regsDisp : List RegSpec := [
  ⟨"DISP_CTL", 0x40200000, [(8, 0x100)],
    [⟨0, 0, .rw, 0⟩]⟩,
  ⟨"DISP_STAT", 0x40200004, [(8, 0x100)],
    [⟨25, 16, .ro, 0⟩, ⟨15, 15, .ro, 0⟩, ⟨14, 14, .ro, 0⟩, ⟨13, 13, .ro, 0⟩, ⟨12, 12, .ro, 0⟩, ⟨11, 11, .w1c, 0⟩, ⟨10, 0, .ro, 0⟩]⟩,
  ⟨"DISP_END", 0x40200008, [(8, 0x100)],
    [⟨0, 0, .wo, 0⟩]⟩,
  ⟨"DISP_RELEASE", 0x4020000c, [(8, 0x100)],
    [⟨9, 0, .wo, 0⟩]⟩,
  ⟨"DISP_CNT", 0x40200010, [(8, 0x100)],
    [⟨31, 16, .ro, 0⟩, ⟨15, 0, .ro, 0⟩]⟩,
  ⟨"DISP_ENT0", 0x40210000, [(8, 0x4000), (1024, 0x10)],
    [⟨31, 0, .rw, 0⟩]⟩,
  ⟨"DISP_ENT1", 0x40210004, [(8, 0x4000), (1024, 0x10)],
    [⟨31, 0, .rw, 0⟩]⟩,
  ⟨"DISP_ENT2", 0x40210008, [(8, 0x4000), (1024, 0x10)],
    [⟨31, 0, .rw, 0⟩]⟩,
  ⟨"DISP_ENT3", 0x4021000c, [(8, 0x4000), (1024, 0x10)],
    [⟨27, 27, .rw, 0⟩, ⟨26, 24, .rw, 0⟩, ⟨23, 16, .rw, 0⟩, ⟨15, 8, .rw, 0⟩, ⟨7, 0, .rw, 0⟩]⟩]

/-- Registers of block RCX. -/
def regsRcx : List RegSpec := [
  ⟨"RCX_CTL", 0x40300000, [(8, 0x100)],
    [⟨0, 0, .rwl, 1⟩]⟩,
  ⟨"RCX_STAT", 0x40300004, [(8, 0x100)],
    [⟨10, 8, .ro, 0⟩, ⟨5, 5, .w1c, 0⟩, ⟨4, 4, .ro, 0⟩, ⟨3, 3, .ro, 0⟩, ⟨2, 2, .ro, 1⟩, ⟨1, 1, .ro, 0⟩, ⟨0, 0, .ro, 0⟩]⟩,
  ⟨"RCX_SLICES", 0x40300008, [(8, 0x100)],
    [⟨31, 0, .ro, 0⟩]⟩,
  ⟨"RCX_RETRY", 0x4030000c, [(8, 0x100)],
    [⟨31, 16, .ro, 0⟩, ⟨15, 0, .ro, 0⟩]⟩,
  ⟨"RCX_MM_INFO", 0x40300010, [(8, 0x100)],
    [⟨31, 22, .ro, 0⟩, ⟨19, 16, .ro, 0⟩, ⟨3, 3, .ro, 0⟩, ⟨2, 2, .ro, 0⟩, ⟨1, 1, .ro, 0⟩, ⟨0, 0, .ro, 0⟩]⟩,
  ⟨"RCX_MM_ADDR", 0x40300014, [(8, 0x100)],
    [⟨31, 0, .ro, 0⟩]⟩,
  ⟨"RCX_ST_TIME", 0x40300018, [(8, 0x100)],
    [⟨31, 0, .ro, 0⟩]⟩,
  ⟨"RCX_ST_CNT", 0x4030001c, [(8, 0x100)],
    [⟨31, 16, .ro, 0⟩, ⟨15, 0, .ro, 0⟩]⟩]

/-- Registers of block FCU. -/
def regsFcu : List RegSpec := [
  ⟨"FCU_CFG", 0x40400000, [],
    [⟨30, 20, .rwl, 2⟩, ⟨19, 16, .rwl, 0xf⟩, ⟨15, 8, .rwl, 0x64⟩, ⟨0, 0, .rwl, 0⟩]⟩,
  ⟨"FCU_STAT", 0x40400004, [],
    [⟨31, 16, .ro, 0⟩, ⟨14, 8, .ro, 0⟩, ⟨3, 3, .ro, 0⟩, ⟨2, 0, .ro, 0⟩]⟩,
  ⟨"FCU_TEST", 0x40400010, [],
    [⟨31, 24, .wo, 0⟩, ⟨8, 0, .wo, 0⟩]⟩,
  ⟨"FCU_ACTIVE", 0x40400100, [(12, 0x4)],
    [⟨31, 0, .ro, 0⟩]⟩,
  ⟨"FCU_PEND", 0x40400140, [(12, 0x4)],
    [⟨31, 0, .ro, 0⟩]⟩,
  ⟨"FCU_RST_PEND", 0x40400180, [(8, 0x4)],
    [⟨31, 0, .w1c, 0⟩]⟩,
  ⟨"FCU_CLASS", 0x40400200, [(32, 0x4)],
    [⟨27, 24, .rwl, 0⟩, ⟨23, 16, .rwl, 0x64⟩, ⟨15, 8, .rwl, 8⟩, ⟨7, 0, .rwl, 0xa⟩]⟩,
  ⟨"FCU_LOG", 0x40400400, [],
    [⟨31, 31, .ro, 0⟩, ⟨30, 30, .ro, 0⟩, ⟨29, 29, .ro, 0⟩, ⟨28, 28, .ro, 0⟩, ⟨26, 24, .ro, 0⟩, ⟨23, 16, .ro, 0⟩, ⟨15, 15, .ro, 0⟩, ⟨14, 12, .ro, 0⟩, ⟨8, 0, .ro, 0⟩]⟩,
  ⟨"FCU_LOG_TS", 0x40400404, [],
    [⟨31, 0, .ro, 0⟩]⟩,
  ⟨"FCU_LOG_DET", 0x40400408, [],
    [⟨31, 0, .ro, 0⟩]⟩,
  ⟨"FCU_LOG_POP", 0x4040040c, [],
    [⟨0, 0, .wo, 0⟩]⟩,
  ⟨"FCU_SRC", 0x40401000, [(384, 0x4)],
    [⟨30, 30, .ro, 0⟩, ⟨29, 29, .ro, 0⟩, ⟨28, 28, .ro, 0⟩, ⟨27, 20, .ro, 0⟩, ⟨18, 18, .wo, 0⟩, ⟨17, 17, .wo, 0⟩, ⟨16, 16, .wo, 0⟩, ⟨12, 12, .ro, 0⟩, ⟨10, 8, .rwl, 0⟩, ⟨5, 4, .rwl, 0⟩, ⟨2, 0, .rwl, 0⟩]⟩,
  ⟨"FCU_CNT", 0x40402000, [(384, 0x4)],
    [⟨15, 0, .ro, 0⟩]⟩,
  ⟨"FCU_CNT_SH", 0x4040a000, [(384, 0x4)],
    [⟨15, 0, .ro, 0⟩]⟩,
  ⟨"FCU_TALLY", 0x404000fc, [],
    [⟨31, 31, .ro, 1⟩, ⟨15, 0, .ro, 0⟩]⟩]

/-- Registers of block TALLY. -/
def regsTally : List RegSpec := [
  ⟨"TALLY_CTL", 0x40500000, [],
    [⟨31, 31, .wo, 0⟩, ⟨30, 30, .wo, 0⟩, ⟨29, 29, .rw, 0⟩, ⟨15, 0, .rw, 0⟩]⟩,
  ⟨"TALLY_TIME", 0x40500004, [],
    [⟨31, 0, .rw, 0⟩]⟩,
  ⟨"TALLY_SEQ", 0x40500008, [],
    [⟨31, 0, .ro, 0⟩]⟩,
  ⟨"TALLY_STAT", 0x4050000c, [],
    [⟨3, 3, .w1c, 0⟩, ⟨2, 2, .w1c, 0⟩, ⟨1, 1, .w1c, 0⟩, ⟨0, 0, .ro, 0⟩]⟩,
  ⟨"TALLY_PART", 0x40500010, [],
    [⟨27, 16, .rw, 0xfff⟩, ⟨4, 0, .rw, 0x1f⟩]⟩,
  ⟨"TALLY_STALE", 0x40500014, [],
    [⟨27, 0, .ro, 0⟩]⟩]

/-- Registers of block TIME. -/
def regsTime : List RegSpec := 
[
  ⟨"TB_NS", 0x40600000, [(2, 0x100)],
    [⟨31, 0, .ro, 0⟩]⟩,
  ⟨"TB_WRAP", 0x40600004, [(2, 0x100)],
    [⟨31, 0, .ro, 0⟩]⟩,
  ⟨"TB_WRAP_LAT", 0x40600008, [(2, 0x100)],
    [⟨31, 0, .ro, 0⟩]⟩,
  ⟨"TB_INC", 0x4060000c, [(2, 0x100)],
    [⟨31, 0, .ro, 0⟩]⟩,
  ⟨"TB_NOM", 0x40600010, [(2, 0x100)],
    [⟨20, 0, .rwl, 0⟩]⟩,
  ⟨"TB_SERVO", 0x40600014, [(2, 0x100)],
    [⟨31, 31, .rwl, 0⟩, ⟨30, 29, .rwl, 1⟩, ⟨27, 24, .rwl, 0⟩, ⟨23, 12, .rwl, 0x40⟩, ⟨11, 0, .rwl, 0x80⟩]⟩,
  ⟨"TB_THR", 0x40600018, [(2, 0x100)],
    [⟨31, 16, .rwl, 0x3e8⟩, ⟨15, 0, .rwl, 0x64⟩]⟩,
  ⟨"TB_OFFS", 0x4060001c, [(2, 0x100)],
    [⟨31, 0, .wo, 0⟩]⟩,
  ⟨"TB_ADJ", 0x40600020, [(2, 0x100)],
    [⟨31, 0, .ro, 0⟩]⟩,
  ⟨"TB_STAT", 0x40600024, [(2, 0x100)],
    [⟨25, 24, .ro, 2⟩, ⟨4, 4, .w1c, 0⟩, ⟨3, 3, .w1c, 0⟩, ⟨2, 2, .ro, 0⟩, ⟨1, 1, .ro, 0⟩, ⟨0, 0, .ro, 1⟩]⟩,
  ⟨"TB_STEP", 0x40600028, [(2, 0x100)],
    [⟨31, 0, .wo, 0⟩]⟩,
  ⟨"TB_SET_LO", 0x4060002c, [(2, 0x100)],
    [⟨31, 0, .rw, 0⟩]⟩,
  ⟨"TB_SET_HI", 0x40600030, [(2, 0x100)],
    [⟨31, 0, .rw, 0⟩]⟩,
  ⟨"TB_CMD", 0x40600034, [(2, 0x100)],
    [⟨0, 0, .wo, 0⟩]⟩,
  ⟨"PO_CTL", 0x40600400, [(2, 0x20)],
    [⟨31, 31, .rw, 0⟩, ⟨30, 30, .rw, 0⟩, ⟨29, 29, .rw, 0⟩, ⟨28, 28, .rw, 0⟩, ⟨1, 1, .w1c, 0⟩, ⟨0, 0, .w1c, 0⟩]⟩,
  ⟨"PO_START", 0x40600404, [(2, 0x20)],
    [⟨31, 0, .rw, 0⟩]⟩,
  ⟨"PO_PERIOD", 0x40600408, [(2, 0x20)],
    [⟨31, 0, .rw, 0⟩]⟩,
  ⟨"PO_WIDTH", 0x4060040c, [(2, 0x20)],
    [⟨31, 0, .rw, 0⟩]⟩,
  ⟨"CAP_CFG", 0x40600800, [(16, 0x20)],
    [⟨31, 31, .rw, 0⟩, ⟨30, 30, .rw, 0⟩, ⟨29, 29, .rw, 0⟩, ⟨9, 8, .rw, 0⟩, ⟨7, 0, .rw, 0⟩]⟩,
  ⟨"CAP_TB0", 0x40600804, [(16, 0x20)],
    [⟨31, 0, .ro, 0⟩]⟩,
  ⟨"CAP_TB1", 0x40600808, [(16, 0x20)],
    [⟨31, 0, .ro, 0⟩]⟩,
  ⟨"CAP_FLAGS", 0x4060080c, [(16, 0x20)],
    [⟨5, 5, .ro, 0⟩, ⟨4, 4, .ro, 0⟩, ⟨3, 3, .ro, 0⟩, ⟨2, 2, .ro, 0⟩, ⟨1, 1, .w1c, 0⟩, ⟨0, 0, .w1c, 0⟩]⟩,
  ⟨"WIN_OPEN", 0x40600810, [(16, 0x20)],
    [⟨31, 0, .rw, 0⟩]⟩,
  ⟨"WIN_CLOSE", 0x40600814, [(16, 0x20)],
    [⟨31, 0, .rw, 0⟩]⟩] ++
[
  ⟨"PTS_TB0", 0x40604000, [(26, 0x40)],
    [⟨31, 0, .ro, 0⟩]⟩,
  ⟨"PTS_TB1", 0x40604004, [(26, 0x40)],
    [⟨31, 0, .ro, 0⟩]⟩,
  ⟨"PTS_INFO", 0x40604008, [(26, 0x40)],
    [⟨31, 31, .ro, 0⟩, ⟨30, 30, .ro, 0⟩, ⟨29, 29, .ro, 0⟩, ⟨28, 28, .ro, 0⟩, ⟨27, 24, .ro, 0⟩, ⟨23, 16, .ro, 0⟩, ⟨15, 0, .ro, 0⟩]⟩,
  ⟨"PTS_POP", 0x4060400c, [(26, 0x40)],
    [⟨0, 0, .wo, 0⟩]⟩,
  ⟨"PTS_LOST", 0x40604010, [(26, 0x40)],
    [⟨31, 0, .ro, 0⟩]⟩]

/-- Registers of block SEC. -/
def regsSec : List RegSpec := [
  ⟨"SEC_POT_BASE_LO", 0x40700000, [],
    [⟨31, 16, .rw, 0⟩]⟩,
  ⟨"SEC_POT_BASE_HI", 0x40700004, [],
    [⟨7, 0, .rw, 0⟩]⟩,
  ⟨"SEC_POT_CTL", 0x40700008, [],
    [⟨1, 1, .w1c, 0⟩, ⟨0, 0, .w1s, 0⟩]⟩,
  ⟨"SEC_POT_INV", 0x4070000c, [],
    [⟨31, 31, .ro, 0⟩, ⟨22, 0, .wo, 0⟩]⟩,
  ⟨"SEC_POT_INV_CNT", 0x40700010, [],
    [⟨22, 0, .rw, 1⟩]⟩,
  ⟨"SEC_POT_MISS", 0x40700014, [],
    [⟨31, 0, .ro, 0⟩]⟩,
  ⟨"SEC_REF_LO", 0x40700020, [],
    [⟨31, 0, .ro, 0⟩]⟩,
  ⟨"SEC_REF_HI", 0x40700024, [],
    [⟨31, 24, .ro, 0⟩, ⟨23, 23, .ro, 0⟩, ⟨22, 20, .ro, 0⟩, ⟨19, 16, .ro, 0⟩, ⟨7, 0, .ro, 0⟩]⟩,
  ⟨"SEC_REF_CNT", 0x40700028, [],
    [⟨31, 0, .ro, 0⟩]⟩,
  ⟨"SEC_CTX", 0x40701000, [(256, 0x4)],
    [⟨3, 3, .ro, 0⟩, ⟨2, 2, .ro, 0⟩, ⟨1, 0, .ro, 0⟩]⟩]

/-- Registers of block ATU. -/
def regsAtu : List RegSpec := [
  ⟨"ATU_INV", 0x40800000, [],
    [⟨31, 31, .ro, 0⟩, ⟨30, 30, .wo, 0⟩, ⟨29, 29, .wo, 0⟩, ⟨7, 0, .wo, 0⟩]⟩,
  ⟨"ATU_INV_VA_LO", 0x40800004, [],
    [⟨31, 12, .rw, 0⟩]⟩,
  ⟨"ATU_INV_VA_HI", 0x40800008, [],
    [⟨6, 0, .rw, 0⟩]⟩,
  ⟨"ATU_INV_CNT", 0x4080000c, [],
    [⟨19, 0, .rw, 1⟩]⟩,
  ⟨"ATU_EVT", 0x40800010, [],
    [⟨2, 0, .w1c, 0⟩]⟩,
  ⟨"ATU_IEN", 0x40800014, [],
    [⟨2, 0, .rw, 0⟩]⟩,
  ⟨"ATU_FLT_LOST", 0x40800018, [],
    [⟨31, 0, .ro, 0⟩]⟩,
  ⟨"ATU_FLT_VA_LO", 0x40800100, [(16, 0x10)],
    [⟨31, 0, .ro, 0⟩]⟩,
  ⟨"ATU_FLT_VA_HI", 0x40800104, [(16, 0x10)],
    [⟨31, 0, .ro, 0⟩]⟩,
  ⟨"ATU_FLT_INFO", 0x40800108, [(16, 0x10)],
    [⟨31, 31, .w1c, 0⟩, ⟨30, 30, .ro, 0⟩, ⟨29, 27, .ro, 0⟩, ⟨26, 20, .ro, 0⟩, ⟨19, 16, .ro, 0⟩, ⟨15, 8, .ro, 0⟩, ⟨7, 0, .ro, 0⟩]⟩,
  ⟨"ATU_ROOT_LO", 0x40801000, [(256, 0x40)],
    [⟨31, 12, .rw, 0⟩, ⟨3, 0, .rw, 0⟩]⟩,
  ⟨"ATU_ROOT_HI", 0x40801004, [(256, 0x40)],
    [⟨23, 16, .rw, 0⟩, ⟨7, 0, .rw, 0⟩]⟩,
  ⟨"ATU_CTX_CTL", 0x40801008, [(256, 0x40)],
    [⟨2, 0, .wo, 0⟩]⟩,
  ⟨"ATU_CTX_STAT", 0x4080100c, [(256, 0x40)],
    [⟨31, 24, .ro, 0⟩, ⟨23, 8, .ro, 0⟩, ⟨3, 3, .ro, 0⟩, ⟨2, 2, .ro, 0⟩, ⟨1, 1, .ro, 0⟩, ⟨0, 0, .w1c, 0⟩]⟩,
  ⟨"ATU_DIRTY_BASE_LO", 0x40801010, [(256, 0x40)],
    [⟨31, 12, .rw, 0⟩]⟩,
  ⟨"ATU_DIRTY_BASE_HI", 0x40801014, [(256, 0x40)],
    [⟨7, 0, .rw, 0⟩]⟩,
  ⟨"ATU_DIRTY_FIRST", 0x40801018, [(256, 0x40)],
    [⟨21, 0, .rw, 0⟩]⟩,
  ⟨"ATU_DIRTY_COUNT", 0x4080101c, [(256, 0x40)],
    [⟨22, 0, .rw, 0⟩]⟩,
  ⟨"ATU_DIRTY_CTL", 0x40801020, [(256, 0x40)],
    [⟨31, 31, .rw, 0⟩, ⟨30, 30, .wo, 0⟩, ⟨29, 29, .ro, 0⟩, ⟨2, 2, .w1c, 0⟩, ⟨1, 1, .w1c, 0⟩]⟩,
  ⟨"ATU_STALE_REQ", 0x40801024, [(256, 0x40)],
    [⟨31, 0, .ro, 0⟩]⟩,
  ⟨"ATU_STALE_CPL", 0x40801028, [(256, 0x40)],
    [⟨31, 0, .ro, 0⟩]⟩,
  ⟨"ATU_TFLT", 0x4080102c, [(256, 0x40)],
    [⟨31, 0, .ro, 0⟩]⟩]

/-- Registers of block KV. -/
def regsKv : List RegSpec := [
  ⟨"KV_CMD", 0x40900000, [],
    [⟨31, 31, .ro, 0⟩, ⟨27, 24, .wo, 0⟩, ⟨21, 16, .wo, 0⟩, ⟨14, 14, .wo, 0⟩, ⟨13, 8, .wo, 0⟩, ⟨7, 0, .wo, 0⟩]⟩,
  ⟨"KV_RESULT", 0x40900004, [],
    [⟨3, 0, .ro, 0⟩]⟩,
  ⟨"KV_ATTR_STAGE", 0x40900008, [],
    [⟨27, 8, .rw, 0⟩]⟩,
  ⟨"KV_STAT", 0x4090000c, [],
    [⟨31, 31, .ro, 0⟩, ⟨30, 30, .ro, 0⟩, ⟨29, 29, .ro, 0⟩, ⟨28, 28, .ro, 0⟩, ⟨27, 27, .ro, 0⟩, ⟨25, 24, .ro, 0⟩]⟩,
  ⟨"KV_DERIVE", 0x40900018, [],
    [⟨13, 8, .rw, 0⟩, ⟨7, 0, .rw, 0⟩]⟩,
  ⟨"KV_EVT", 0x40900010, [],
    [⟨1, 0, .w1c, 0⟩]⟩,
  ⟨"KV_IEN", 0x40900014, [],
    [⟨1, 0, .rw, 0⟩]⟩,
  ⟨"KV_DATA", 0x40900100, [(64, 0x4)],
    [⟨31, 0, .rw, 0⟩]⟩,
  ⟨"KV_SLOT", 0x40900200, [(64, 0x4)],
    [⟨31, 31, .ro, 0⟩, ⟨30, 30, .ro, 0⟩, ⟨27, 24, .ro, 0⟩, ⟨23, 19, .ro, 0x1f⟩, ⟨18, 18, .ro, 0⟩, ⟨17, 17, .ro, 0⟩, ⟨11, 8, .ro, 0⟩, ⟨7, 0, .ro, 0⟩]⟩,
  ⟨"KV_MA", 0x40900400, [(8, 0x40), (12, 0x4)],
    [⟨31, 0, .ro, 0⟩]⟩,
  ⟨"KV_ATT", 0x40901000, [(180, 0x4)],
    [⟨31, 0, .ro, 0⟩]⟩]

/-- Registers of block CRY. -/
def regsCry : List RegSpec := [
  ⟨"CRY_PWR", 0x40a00000, [(4, 0x4)],
    [⟨15, 0, .rwl, 0⟩]⟩,
  ⟨"CRY_BULK", 0x40a00010, [],
    [⟨15, 0, .rwl, 0x40⟩]⟩,
  ⟨"CQ_CTL", 0x40a01000, [(16, 0x100)],
    [⟨31, 31, .rw, 0⟩, ⟨30, 30, .rw, 0⟩, ⟨27, 24, .rw, 4⟩]⟩,
  ⟨"CQ_BASE_LO", 0x40a01004, [(16, 0x100)],
    [⟨31, 6, .rw, 0⟩]⟩,
  ⟨"CQ_BASE_HI", 0x40a01008, [(16, 0x100)],
    [⟨31, 0, .rw, 0⟩]⟩,
  ⟨"CQ_HEAD", 0x40a0100c, [(16, 0x100)],
    [⟨11, 0, .ro, 0⟩]⟩,
  ⟨"CQ_TAIL", 0x40a01010, [(16, 0x100)],
    [⟨11, 0, .rw, 0⟩]⟩,
  ⟨"CQ_STAT", 0x40a01014, [(16, 0x100)],
    [⟨2, 2, .ro, 0⟩, ⟨1, 1, .ro, 0⟩, ⟨0, 0, .ro, 0⟩]⟩,
  ⟨"CQ_EVT", 0x40a01018, [(16, 0x100)],
    [⟨2, 0, .w1c, 0⟩]⟩,
  ⟨"CQ_IEN", 0x40a0101c, [(16, 0x100)],
    [⟨2, 0, .rw, 0⟩]⟩,
  ⟨"CQ_DONE", 0x40a01020, [(16, 0x100)],
    [⟨31, 0, .ro, 0⟩]⟩,
  ⟨"CQ_FAILS", 0x40a01024, [(16, 0x100)],
    [⟨31, 0, .ro, 0⟩]⟩]

/-- Registers of block CVU. -/
def regsCvu : List RegSpec := [
  ⟨"CVU_PROF_POLY", 0x40b00040, [(4, 0x10)],
    [⟨31, 0, .rwl, 0⟩]⟩,
  ⟨"CVU_PROF_INIT", 0x40b00044, [(4, 0x10)],
    [⟨31, 0, .rwl, 0⟩]⟩,
  ⟨"CVU_PROF_XOR", 0x40b00048, [(4, 0x10)],
    [⟨31, 0, .rwl, 0⟩]⟩,
  ⟨"CVU_PROF_CFG", 0x40b0004c, [(4, 0x10)],
    [⟨10, 10, .rwl, 0⟩, ⟨9, 9, .rwl, 0⟩, ⟨8, 8, .rwl, 0⟩, ⟨5, 0, .rwl, 0⟩]⟩,
  ⟨"RING_CTL", 0x40b01000, [(16, 0x100)],
    [⟨31, 31, .rw, 0⟩, ⟨30, 30, .rw, 0⟩, ⟨27, 24, .rw, 4⟩]⟩,
  ⟨"RING_BASE_LO", 0x40b01004, [(16, 0x100)],
    [⟨31, 6, .rw, 0⟩]⟩,
  ⟨"RING_BASE_HI", 0x40b01008, [(16, 0x100)],
    [⟨31, 0, .rw, 0⟩]⟩,
  ⟨"RING_HEAD", 0x40b0100c, [(16, 0x100)],
    [⟨11, 0, .ro, 0⟩]⟩,
  ⟨"RING_TAIL", 0x40b01010, [(16, 0x100)],
    [⟨11, 0, .rw, 0⟩]⟩,
  ⟨"RING_STAT", 0x40b01014, [(16, 0x100)],
    [⟨1, 1, .ro, 0⟩, ⟨0, 0, .ro, 0⟩]⟩,
  ⟨"RING_EVT", 0x40b01018, [(16, 0x100)],
    [⟨2, 0, .w1c, 0⟩]⟩,
  ⟨"RING_IEN", 0x40b0101c, [(16, 0x100)],
    [⟨2, 0, .rw, 0⟩]⟩,
  ⟨"RING_DONE", 0x40b01020, [(16, 0x100)],
    [⟨31, 0, .ro, 0⟩]⟩,
  ⟨"RING_FAILS", 0x40b01024, [(16, 0x100)],
    [⟨31, 0, .ro, 0⟩]⟩]

/-- Registers of block BRG. -/
def regsBrg : List RegSpec := [
  ⟨"BRG_CTL", 0x40c00000, [],
    [⟨31, 31, .rwl, 0⟩, ⟨7, 0, .rwl, 0x64⟩]⟩,
  ⟨"BRG_STAT", 0x40c00004, [],
    [⟨21, 16, .ro, 0⟩, ⟨15, 8, .ro, 0⟩, ⟨3, 0, .ro, 0⟩]⟩,
  ⟨"BRG_EVT", 0x40c00010, [],
    [⟨2, 0, .w1c, 0⟩]⟩,
  ⟨"BRG_IEN", 0x40c00014, [],
    [⟨2, 0, .rw, 0⟩]⟩,
  ⟨"BRG_RD_BASE", 0x40c00100, [(16, 0x10)],
    [⟨13, 0, .rwl, 0⟩]⟩,
  ⟨"BRG_RD_LIMIT", 0x40c00104, [(16, 0x10)],
    [⟨13, 0, .rwl, 0⟩]⟩,
  ⟨"BRG_RD_CTL", 0x40c00108, [(16, 0x10)],
    [⟨1, 1, .rwl, 0⟩, ⟨0, 0, .rwl, 0⟩]⟩,
  ⟨"BRG_LL_ADDR", 0x40c00200, [(16, 0x10)],
    [⟨25, 0, .ro, 0⟩]⟩,
  ⟨"BRG_LL_INFO", 0x40c00204, [(16, 0x10)],
    [⟨31, 31, .w1c, 0⟩, ⟨27, 24, .ro, 0⟩, ⟨23, 16, .ro, 0⟩, ⟨15, 8, .ro, 0⟩]⟩,
  ⟨"BRG_LL_SEQ", 0x40c00208, [(16, 0x10)],
    [⟨15, 0, .ro, 0⟩]⟩,
  ⟨"BRG_LL_DATA", 0x40c0020c, [(16, 0x10)],
    [⟨31, 0, .ro, 0⟩]⟩,
  ⟨"BRG_LATE_LOST", 0x40c00300, [],
    [⟨31, 0, .ro, 0⟩]⟩,
  ⟨"BRG_LATE_ERR", 0x40c00310, [(8, 0x4)],
    [⟨31, 0, .w1c, 0⟩]⟩,
  ⟨"BRG_LINK", 0x40c00400, [(13, 0x4)],
    [⟨31, 31, .ro, 0⟩, ⟨23, 16, .ro, 0⟩, ⟨15, 0, .ro, 0⟩]⟩,
  ⟨"BRG_SEM", 0x40c00500, [(16, 0x4)],
    [⟨31, 31, .ro, 0⟩, ⟨30, 30, .ro, 0⟩, ⟨28, 24, .ro, 0⟩, ⟨23, 0, .ro, 0⟩]⟩,
  ⟨"BRG_MID", 0x40c01000, [(300, 0x4)],
    [⟨10, 0, .rw, 0⟩]⟩]

/-- Registers of block BPL. -/
def regsBpl : List RegSpec := [
  ⟨"BPL_STATUS", 0x40d00000, [],
    [⟨23, 20, .ro, 0xf⟩, ⟨15, 12, .ro, 0xf⟩, ⟨11, 8, .ro, 0xf⟩, ⟨5, 5, .ro, 0⟩, ⟨4, 4, .ro, 0⟩, ⟨3, 3, .ro, 0⟩, ⟨2, 2, .ro, 0⟩, ⟨1, 1, .ro, 0⟩, ⟨0, 0, .ro, 0⟩]⟩,
  ⟨"BPL_FUSE", 0x40d00004, [],
    [⟨15, 12, .ro, 0⟩, ⟨11, 8, .ro, 0xf⟩, ⟨5, 0, .ro, 0⟩]⟩,
  ⟨"BPL_PLAN_SEQ", 0x40d00008, [],
    [⟨31, 0, .ro, 0⟩]⟩,
  ⟨"BPL_JOURNAL", 0x40d0000c, [],
    [⟨16, 8, .ro, 0⟩, ⟨7, 0, .ro, 0⟩]⟩,
  ⟨"BPL_STAGE", 0x40d00010, [],
    [⟨0, 0, .rw, 0⟩]⟩,
  ⟨"BPL_CMD", 0x40d00014, [],
    [⟨0, 0, .wo, 0⟩]⟩,
  ⟨"BPL_CHECK", 0x40d00018, [],
    [⟨7, 4, .ro, 0xf⟩, ⟨3, 3, .ro, 0⟩, ⟨2, 2, .ro, 0⟩, ⟨1, 1, .w1c, 0⟩, ⟨0, 0, .ro, 0⟩]⟩,
  ⟨"BPL_DBG_UNLOCK", 0x40d0001c, [],
    [⟨15, 8, .ro, 0⟩, ⟨7, 0, .ro, 0⟩]⟩]

/-- Registers of block SWC. -/
def regsSwc : List RegSpec := 
[
  ⟨"SWC_FAB_CTL", 0x41000000, [],
    [⟨16, 16, .rw, 0⟩, ⟨5, 0, .rwl, 4⟩]⟩,
  ⟨"SWC_BUF_CFG", 0x41000004, [],
    [⟨17, 0, .rwl, 0x800⟩]⟩,
  ⟨"SWC_BUF_FREE", 0x41000008, [],
    [⟨17, 0, .ro, 0x28000⟩]⟩,
  ⟨"SWC_VOQ_CFG", 0x4100000c, [],
    [⟨15, 0, .rwl, 0x1000⟩]⟩,
  ⟨"SWC_VOQ_FREE", 0x41000010, [],
    [⟨15, 0, .ro, 0x8000⟩]⟩,
  ⟨"SWC_SA_CFG", 0x41000020, [],
    [⟨7, 0, .rwl, 0xa⟩]⟩,
  ⟨"SWC_SA_STAT", 0x41000024, [],
    [⟨31, 31, .ro, 0⟩, ⟨30, 30, .w1c, 0⟩, ⟨15, 0, .ro, 0⟩]⟩,
  ⟨"SWC_SA_CNT", 0x41000028, [],
    [⟨31, 16, .ro, 0⟩, ⟨15, 8, .ro, 0⟩, ⟨7, 0, .ro, 0⟩]⟩,
  ⟨"SWC_SA_PASS", 0x4100002c, [],
    [⟨31, 0, .ro, 0⟩]⟩,
  ⟨"SWC_FAB_ERR", 0x41000030, [],
    [⟨31, 16, .ro, 0⟩, ⟨15, 0, .ro, 0⟩]⟩,
  ⟨"SWC_ECC_CORR", 0x41000034, [],
    [⟨31, 0, .ro, 0⟩]⟩,
  ⟨"SWC_BUF_DROP", 0x41000038, [],
    [⟨31, 0, .ro, 0⟩]⟩,
  ⟨"SWC_TALLY", 0x41000040, [],
    [⟨31, 31, .ro, 1⟩, ⟨15, 0, .ro, 0⟩]⟩,
  ⟨"OQ_THR", 0x41002000, [(29, 0x200)],
    [⟨27, 16, .rwl, 0x100⟩, ⟨11, 0, .rwl, 0xc0⟩]⟩,
  ⟨"OQ_STAT", 0x41002004, [(29, 0x200)],
    [⟨31, 31, .ro, 0⟩, ⟨30, 30, .ro, 0⟩, ⟨17, 0, .ro, 0⟩]⟩,
  ⟨"OQ_MC_PD", 0x41002008, [(29, 0x200)],
    [⟨31, 0, .ro, 0⟩]⟩,
  ⟨"OQ_RSQ", 0x4100200c, [(29, 0x200)],
    [⟨31, 16, .ro, 0⟩, ⟨15, 0, .ro, 0⟩]⟩,
  ⟨"Q_CFG", 0x41002100, [(29, 0x200), (8, 0x20)],
    [⟨23, 8, .rwl, 0⟩, ⟨6, 0, .rwl, 0⟩]⟩,
  ⟨"Q_STAT", 0x41002104, [(29, 0x200), (8, 0x20)],
    [⟨31, 31, .ro, 0⟩, ⟨30, 30, .ro, 0⟩, ⟨29, 29, .ro, 0⟩, ⟨28, 28, .ro, 0⟩, ⟨27, 27, .ro, 0⟩, ⟨17, 0, .ro, 0⟩]⟩,
  ⟨"Q_ENQ", 0x41002108, [(29, 0x200), (8, 0x20)],
    [⟨31, 0, .ro, 0⟩]⟩,
  ⟨"Q_RES_DROP", 0x4100210c, [(29, 0x200), (8, 0x20)],
    [⟨31, 0, .ro, 0⟩]⟩,
  ⟨"Q_LD_FLUSH", 0x41002110, [(29, 0x200), (8, 0x20)],
    [⟨31, 0, .ro, 0⟩]⟩,
  ⟨"Q_LD_DROP", 0x41002114, [(29, 0x200), (8, 0x20)],
    [⟨31, 0, .ro, 0⟩]⟩,
  ⟨"IN_VOQ", 0x41008000, [(29, 0x40)],
    [⟨15, 0, .ro, 0⟩]⟩] ++
[
  ⟨"IN_VOQ_DROP", 0x41008004, [(29, 0x40)],
    [⟨31, 0, .ro, 0⟩]⟩,
  ⟨"SWC_BUF_FREE_SH", 0x41080008, [],
    [⟨17, 0, .ro, 0x28000⟩]⟩,
  ⟨"SWC_VOQ_FREE_SH", 0x41080010, [],
    [⟨15, 0, .ro, 0x8000⟩]⟩,
  ⟨"SWC_SA_CNT_SH", 0x41080028, [],
    [⟨31, 16, .ro, 0⟩, ⟨15, 8, .ro, 0⟩, ⟨7, 0, .ro, 0⟩]⟩,
  ⟨"SWC_SA_PASS_SH", 0x4108002c, [],
    [⟨31, 0, .ro, 0⟩]⟩,
  ⟨"SWC_FAB_ERR_SH", 0x41080030, [],
    [⟨31, 16, .ro, 0⟩, ⟨15, 0, .ro, 0⟩]⟩,
  ⟨"SWC_ECC_CORR_SH", 0x41080034, [],
    [⟨31, 0, .ro, 0⟩]⟩,
  ⟨"SWC_BUF_DROP_SH", 0x41080038, [],
    [⟨31, 0, .ro, 0⟩]⟩,
  ⟨"OQ_STAT_SH", 0x41082004, [(29, 0x200)],
    [⟨31, 31, .ro, 0⟩, ⟨30, 30, .ro, 0⟩, ⟨17, 0, .ro, 0⟩]⟩,
  ⟨"OQ_MC_PD_SH", 0x41082008, [(29, 0x200)],
    [⟨31, 0, .ro, 0⟩]⟩,
  ⟨"OQ_RSQ_SH", 0x4108200c, [(29, 0x200)],
    [⟨31, 16, .ro, 0⟩, ⟨15, 0, .ro, 0⟩]⟩,
  ⟨"Q_STAT_SH", 0x41082104, [(29, 0x200), (8, 0x20)],
    [⟨31, 31, .ro, 0⟩, ⟨30, 30, .ro, 0⟩, ⟨29, 29, .ro, 0⟩, ⟨28, 28, .ro, 0⟩, ⟨27, 27, .ro, 0⟩, ⟨17, 0, .ro, 0⟩]⟩,
  ⟨"Q_ENQ_SH", 0x41082108, [(29, 0x200), (8, 0x20)],
    [⟨31, 0, .ro, 0⟩]⟩,
  ⟨"Q_RES_DROP_SH", 0x4108210c, [(29, 0x200), (8, 0x20)],
    [⟨31, 0, .ro, 0⟩]⟩,
  ⟨"Q_LD_FLUSH_SH", 0x41082110, [(29, 0x200), (8, 0x20)],
    [⟨31, 0, .ro, 0⟩]⟩,
  ⟨"Q_LD_DROP_SH", 0x41082114, [(29, 0x200), (8, 0x20)],
    [⟨31, 0, .ro, 0⟩]⟩,
  ⟨"IN_VOQ_SH", 0x41088000, [(29, 0x40)],
    [⟨15, 0, .ro, 0⟩]⟩,
  ⟨"IN_VOQ_DROP_SH", 0x41088004, [(29, 0x40)],
    [⟨31, 0, .ro, 0⟩]⟩]

/-- Registers of block FWD. -/
def regsFwd : List RegSpec := 
[
  ⟨"FWD_CTL", 0x41100000, [],
    [⟨20, 16, .rwl, 0x1a⟩, ⟨12, 0, .rwl, 0⟩]⟩,
  ⟨"FWD_AGE", 0x41100004, [],
    [⟨19, 0, .rwl, 0x12c⟩]⟩,
  ⟨"CG_MAC_LO", 0x41100008, [],
    [⟨31, 0, .rwl, 0⟩]⟩,
  ⟨"CG_MAC_HI", 0x4110000c, [],
    [⟨15, 0, .rwl, 0⟩]⟩,
  ⟨"MAC_KEY_LO", 0x41100010, [],
    [⟨31, 0, .rw, 0⟩]⟩,
  ⟨"MAC_KEY_HI", 0x41100014, [],
    [⟨27, 16, .rw, 0⟩, ⟨15, 0, .rw, 0⟩]⟩,
  ⟨"MAC_DATA", 0x41100018, [],
    [⟨31, 31, .rw, 0⟩, ⟨30, 30, .rw, 0⟩, ⟨29, 29, .rw, 0⟩, ⟨28, 28, .rw, 0⟩, ⟨9, 0, .rw, 0⟩]⟩,
  ⟨"MAC_CMD", 0x4110001c, [],
    [⟨31, 31, .ro, 0⟩, ⟨27, 24, .ro, 0⟩, ⟨18, 4, .rw, 0⟩, ⟨3, 0, .wo, 0⟩]⟩,
  ⟨"FWD_PORT", 0x41101000, [(29, 0x40)],
    [⟨19, 19, .rwl, 0⟩, ⟨18, 18, .rwl, 1⟩, ⟨17, 16, .rwl, 0⟩, ⟨14, 12, .rwl, 0⟩, ⟨11, 0, .rwl, 1⟩]⟩,
  ⟨"FWD_TCMAP", 0x41101004, [(29, 0x40)],
    [⟨23, 0, .rwl, 0xfac681⟩]⟩,
  ⟨"VLAN_DROP", 0x41100100, [],
    [⟨31, 0, .ro, 0⟩]⟩,
  ⟨"LEARN_FAIL", 0x41100104, [],
    [⟨31, 0, .ro, 0⟩]⟩,
  ⟨"STATIC_MOVE", 0x41100108, [],
    [⟨31, 0, .ro, 0⟩]⟩,
  ⟨"SAME_PORT", 0x4110010c, [],
    [⟨31, 0, .ro, 0⟩]⟩,
  ⟨"NO_DEST", 0x41100110, [],
    [⟨31, 0, .ro, 0⟩]⟩,
  ⟨"FWD_TRAP", 0x41100114, [],
    [⟨31, 0, .ro, 0⟩]⟩,
  ⟨"RT_MISS", 0x41100118, [],
    [⟨31, 0, .ro, 0⟩]⟩,
  ⟨"RT_FMT", 0x4110011c, [],
    [⟨31, 0, .ro, 0⟩]⟩,
  ⟨"NTSCF_BAD", 0x41100120, [],
    [⟨31, 0, .ro, 0⟩]⟩,
  ⟨"RT_MC_PD", 0x41100200, [(92, 0x4)],
    [⟨31, 0, .ro, 0⟩]⟩,
  ⟨"VLAN_MEMBER", 0x41110000, [(4096, 0x10)],
    [⟨28, 0, .rw, 0⟩]⟩,
  ⟨"VLAN_UNTAG", 0x41110004, [(4096, 0x10)],
    [⟨28, 0, .rw, 0⟩]⟩,
  ⟨"VLAN_CFG", 0x41110008, [(4096, 0x10)],
    [⟨31, 31, .rw, 0⟩, ⟨30, 30, .rw, 0⟩, ⟨29, 29, .rw, 0⟩, ⟨28, 28, .rw, 0⟩, ⟨25, 16, .rw, 0⟩, ⟨11, 0, .rw, 0⟩]⟩,
  ⟨"VLAN_RSV", 0x4111000c, [(4096, 0x10)],
    []⟩] ++
[
  ⟨"ACF_SKIP", 0x41100124, [],
    [⟨31, 0, .ro, 0⟩]⟩]

/-- Registers of block STREAM. -/
def regsStream : List RegSpec := [
  ⟨"MCG", 0x41120000, [(1024, 0x4)],
    [⟨28, 0, .rw, 0⟩]⟩,
  ⟨"SID0", 0x41130000, [(4096, 0x10)],
    [⟨31, 0, .rw, 0⟩]⟩,
  ⟨"SID1", 0x41130004, [(4096, 0x10)],
    [⟨27, 16, .rw, 0⟩, ⟨15, 0, .rw, 0⟩]⟩,
  ⟨"SID2", 0x41130008, [(4096, 0x10)],
    [⟨31, 16, .rw, 0⟩, ⟨7, 0, .rw, 0⟩]⟩,
  ⟨"SID3", 0x4113000c, [(4096, 0x10)],
    []⟩,
  ⟨"SFILT0", 0x41140000, [(4096, 0x10)],
    [⟨31, 31, .rw, 0⟩, ⟨26, 26, .rw, 0⟩, ⟨25, 16, .rw, 0⟩, ⟨8, 8, .rw, 0⟩, ⟨7, 0, .rw, 0⟩]⟩,
  ⟨"SFILT1", 0x41140004, [(4096, 0x10)],
    [⟨17, 17, .rw, 0⟩, ⟨16, 16, .rw, 0⟩, ⟨13, 0, .rw, 0⟩]⟩,
  ⟨"SFILT2", 0x41140008, [(4096, 0x10)],
    [⟨31, 31, .rw, 0⟩, ⟨23, 16, .rw, 0⟩, ⟨15, 15, .rw, 0⟩, ⟨8, 0, .rw, 0⟩]⟩,
  ⟨"SFILT3", 0x4114000c, [(4096, 0x10)],
    []⟩,
  ⟨"SGATE0", 0x41150000, [(256, 0x100)],
    [⟨31, 0, .rw, 0⟩]⟩,
  ⟨"SGATE1", 0x41150004, [(256, 0x100)],
    [⟨15, 8, .rw, 0⟩, ⟨3, 0, .rw, 0⟩]⟩,
  ⟨"SGATE2", 0x41150008, [(256, 0x100)],
    [⟨31, 0, .rw, 0⟩]⟩,
  ⟨"SGATE3", 0x4115000c, [(256, 0x100)],
    []⟩,
  ⟨"SGATE_INTERVAL", 0x41150010, [(256, 0x100), (16, 0x8)],
    [⟨31, 0, .rw, 0⟩]⟩,
  ⟨"SGATE_STATE", 0x41150014, [(256, 0x100), (16, 0x8)],
    [⟨6, 4, .rw, 0⟩, ⟨3, 3, .rw, 0⟩, ⟨0, 0, .rw, 0⟩]⟩,
  ⟨"METER0", 0x41160000, [(1024, 0x10)],
    [⟨28, 28, .rw, 0⟩, ⟨27, 27, .rw, 0⟩, ⟨26, 26, .rw, 0⟩, ⟨25, 25, .rw, 0⟩, ⟨24, 24, .rw, 0⟩, ⟨23, 0, .rw, 0⟩]⟩,
  ⟨"METER_EIR", 0x41160004, [(1024, 0x10)],
    [⟨23, 0, .rw, 0⟩]⟩,
  ⟨"METER_CBS", 0x41160008, [(1024, 0x10)],
    [⟨23, 0, .rw, 0⟩]⟩,
  ⟨"METER_EBS", 0x4116000c, [(1024, 0x10)],
    [⟨23, 0, .rw, 0⟩]⟩,
  ⟨"SGF0", 0x41170000, [(256, 0x8)],
    [⟨31, 31, .rw, 0⟩, ⟨15, 0, .rw, 0⟩]⟩,
  ⟨"SGF1", 0x41170004, [(256, 0x8)],
    []⟩]

/-- Registers of block SELECT. -/
def regsSelect : List RegSpec := [
  ⟨"CBS_CFG", 0x41190000, [(29, 0x40), (8, 0x8)],
    [⟨31, 31, .rwl, 0⟩, ⟨23, 0, .rwl, 0⟩]⟩,
  ⟨"CBS_CREDIT", 0x41190004, [(29, 0x40), (8, 0x8)],
    [⟨31, 0, .ro, 0⟩]⟩,
  ⟨"QBV_CTL", 0x411a0000, [(29, 0x2000)],
    [⟨0, 0, .wo, 0⟩]⟩,
  ⟨"QBV_STAT", 0x411a0004, [(29, 0x2000)],
    [⟨31, 16, .ro, 0⟩, ⟨15, 8, .ro, 0⟩, ⟨2, 2, .w1c, 0⟩, ⟨1, 1, .ro, 0⟩, ⟨0, 0, .ro, 0⟩]⟩,
  ⟨"CS_CFG", 0x411e0000, [(4, 0x20)],
    [⟨31, 31, .rw, 0⟩, ⟨30, 30, .rw, 0⟩, ⟨29, 27, .rw, 0⟩, ⟨26, 22, .rw, 0x1a⟩, ⟨19, 18, .rw, 0⟩, ⟨11, 0, .rw, 0⟩]⟩,
  ⟨"CS_N", 0x411e0004, [(4, 0x20)],
    [⟨15, 0, .rw, 1⟩]⟩,
  ⟨"CS_CNT", 0x411e0008, [(4, 0x20)],
    [⟨31, 16, .ro, 0⟩, ⟨15, 0, .ro, 0⟩]⟩,
  ⟨"SRF_CFG", 0x41180000, [(512, 0x40)],
    [⟨31, 31, .rw, 0⟩, ⟨30, 30, .rw, 0⟩, ⟨29, 29, .rw, 0⟩, ⟨28, 28, .rw, 0⟩, ⟨20, 16, .rw, 0⟩, ⟨15, 0, .rw, 0⟩]⟩,
  ⟨"SRF_STATE", 0x41180004, [(512, 0x40)],
    [⟨15, 0, .ro, 0⟩]⟩,
  ⟨"SRF_CNT", 0x41180008, [(512, 0x40), (7, 0x4)],
    [⟨31, 0, .ro, 0⟩]⟩,
  ⟨"QBV_ADM0", 0x411a0010, [(29, 0x2000)],
    [⟨31, 0, .rw, 0⟩]⟩,
  ⟨"QBV_ADM1", 0x411a0014, [(29, 0x2000)],
    [⟨24, 24, .rw, 0⟩, ⟨23, 16, .rw, 0⟩, ⟨15, 8, .rw, 0xff⟩, ⟨0, 0, .rw, 0⟩]⟩,
  ⟨"QBV_ADM2", 0x411a0018, [(29, 0x2000)],
    [⟨31, 0, .rw, 0⟩]⟩,
  ⟨"QBV_ADM3", 0x411a001c, [(29, 0x2000)],
    [⟨31, 0, .rw, 0⟩]⟩,
  ⟨"QBV_ADM4", 0x411a0020, [(29, 0x2000)],
    []⟩,
  ⟨"QBV_ADM5", 0x411a0024, [(29, 0x2000)],
    []⟩,
  ⟨"QBV_ADM_INTERVAL", 0x411a0800, [(29, 0x2000), (256, 0x8)],
    [⟨31, 0, .rw, 0⟩]⟩,
  ⟨"QBV_ADM_GATES", 0x411a0804, [(29, 0x2000), (256, 0x8)],
    [⟨15, 8, .rw, 0⟩, ⟨7, 0, .rw, 0⟩]⟩,
  ⟨"QBV_OPR0", 0x411a1000, [(29, 0x2000)],
    [⟨31, 0, .ro, 0⟩]⟩,
  ⟨"QBV_OPR1", 0x411a1004, [(29, 0x2000)],
    [⟨24, 24, .ro, 0⟩, ⟨23, 16, .ro, 0⟩, ⟨15, 8, .ro, 0xff⟩, ⟨0, 0, .ro, 0⟩]⟩,
  ⟨"QBV_OPR2", 0x411a1008, [(29, 0x2000)],
    [⟨31, 0, .ro, 0⟩]⟩,
  ⟨"QBV_OPR3", 0x411a100c, [(29, 0x2000)],
    [⟨31, 0, .ro, 0⟩]⟩,
  ⟨"QBV_OPR4", 0x411a1010, [(29, 0x2000)],
    []⟩,
  ⟨"QBV_OPR5", 0x411a1014, [(29, 0x2000)],
    []⟩,
  ⟨"QBV_OPR_INTERVAL", 0x411a1800, [(29, 0x2000), (256, 0x8)],
    [⟨31, 0, .ro, 0⟩]⟩,
  ⟨"QBV_OPR_GATES", 0x411a1804, [(29, 0x2000), (256, 0x8)],
    [⟨15, 8, .ro, 0⟩, ⟨7, 0, .ro, 0⟩]⟩]

/-- Registers of block ROUTE. -/
def regsRoute : List RegSpec := [
  ⟨"FLT_CNT", 0x41300000, [(4096, 0x20), (5, 0x4)],
    [⟨31, 0, .ro, 0⟩]⟩,
  ⟨"ROUTE0", 0x411f0000, [(2048, 0x20)],
    [⟨29, 0, .rw, 0⟩]⟩,
  ⟨"ROUTE1", 0x411f0004, [(2048, 0x20)],
    [⟨28, 0, .rw, 0⟩]⟩,
  ⟨"ROUTE2", 0x411f0008, [(2048, 0x20)],
    [⟨31, 24, .rw, 0⟩, ⟨23, 16, .rw, 0⟩, ⟨11, 8, .rw, 0⟩, ⟨7, 0, .rw, 0⟩]⟩,
  ⟨"ROUTE3", 0x411f000c, [(2048, 0x20)],
    [⟨27, 16, .rw, 0⟩, ⟨15, 0, .rw, 0⟩]⟩,
  ⟨"ROUTE4", 0x411f0010, [(2048, 0x20)],
    [⟨31, 31, .rw, 0⟩, ⟨29, 0, .rw, 0⟩]⟩,
  ⟨"ROUTE5", 0x411f0014, [(2048, 0x20)],
    [⟨1, 0, .rw, 0⟩]⟩,
  ⟨"ROUTE6", 0x411f0018, [(2048, 0x20)],
    []⟩,
  ⟨"ROUTE7", 0x411f001c, [(2048, 0x20)],
    []⟩,
  ⟨"TUN", 0x41200000, [(64, 0x20), (4, 0x4)],
    [⟨31, 0, .rw, 0⟩]⟩,
  ⟨"TUN4", 0x41200010, [(64, 0x20)],
    [⟨23, 16, .ro, 0⟩, ⟨15, 8, .ro, 0⟩, ⟨2, 0, .rw, 0⟩]⟩,
  ⟨"TUN_CNT", 0x41200014, [(64, 0x20), (3, 0x4)],
    [⟨31, 0, .ro, 0⟩]⟩,
  ⟨"VLAN_DROP_SH", 0x41500100, [],
    [⟨31, 0, .ro, 0⟩]⟩,
  ⟨"LEARN_FAIL_SH", 0x41500104, [],
    [⟨31, 0, .ro, 0⟩]⟩,
  ⟨"STATIC_MOVE_SH", 0x41500108, [],
    [⟨31, 0, .ro, 0⟩]⟩,
  ⟨"SAME_PORT_SH", 0x4150010c, [],
    [⟨31, 0, .ro, 0⟩]⟩,
  ⟨"NO_DEST_SH", 0x41500110, [],
    [⟨31, 0, .ro, 0⟩]⟩,
  ⟨"FWD_TRAP_SH", 0x41500114, [],
    [⟨31, 0, .ro, 0⟩]⟩,
  ⟨"RT_MISS_SH", 0x41500118, [],
    [⟨31, 0, .ro, 0⟩]⟩,
  ⟨"RT_FMT_SH", 0x4150011c, [],
    [⟨31, 0, .ro, 0⟩]⟩,
  ⟨"NTSCF_BAD_SH", 0x41500120, [],
    [⟨31, 0, .ro, 0⟩]⟩,
  ⟨"ACF_SKIP_SH", 0x41500124, [],
    [⟨31, 0, .ro, 0⟩]⟩,
  ⟨"RT_MC_PD_SH", 0x41500200, [(92, 0x4)],
    [⟨31, 0, .ro, 0⟩]⟩,
  ⟨"SRF_CNT_SH", 0x41580008, [(512, 0x40), (7, 0x4)],
    [⟨31, 0, .ro, 0⟩]⟩,
  ⟨"FLT_CNT_SH", 0x41700000, [(4096, 0x20), (5, 0x4)],
    [⟨31, 0, .ro, 0⟩]⟩,
  ⟨"TUN_CNT_SH", 0x41600014, [(64, 0x20), (3, 0x4)],
    [⟨31, 0, .ro, 0⟩]⟩]

/-- Registers of block ETH. -/
def regsEth : List RegSpec := 
[
  ⟨"ETH_CTL", 0x42000000, [(28, 0x10000)],
    [⟨31, 31, .rw, 0⟩, ⟨30, 30, .rwl, 0⟩, ⟨29, 29, .rwl, 0⟩, ⟨28, 28, .rwl, 1⟩, ⟨27, 27, .rwl, 0⟩, ⟨26, 26, .rwl, 1⟩, ⟨25, 25, .rwl, 0⟩, ⟨24, 22, .rwl, 0⟩, ⟨13, 0, .rwl, 0x5f2⟩]⟩,
  ⟨"ETH_STAT", 0x42000004, [(28, 0x10000)],
    [⟨31, 31, .ro, 0⟩, ⟨30, 28, .ro, 5⟩, ⟨27, 27, .ro, 0⟩, ⟨15, 0, .ro, 0x100⟩]⟩,
  ⟨"ETH_CT", 0x42000008, [(28, 0x10000)],
    [⟨31, 31, .wo, 0⟩, ⟨15, 0, .rwl, 0x3e8⟩]⟩,
  ⟨"ETH_PAUSE", 0x4200000c, [(28, 0x10000)],
    [⟨31, 16, .rwl, 0xe00⟩, ⟨15, 0, .rwl, 0x800⟩]⟩,
  ⟨"ETH_PTX", 0x42000010, [(28, 0x10000)],
    [⟨31, 16, .rwl, 0xffff⟩, ⟨15, 8, .rwl, 0xff⟩, ⟨0, 0, .rwl, 0⟩]⟩,
  ⟨"ETH_HASH", 0x42000020, [(28, 0x10000), (16, 0x4)],
    [⟨31, 0, .rwl, 0⟩]⟩,
  ⟨"ETH_PLCA", 0x42000060, [(28, 0x10000)],
    [⟨31, 31, .rwl, 1⟩, ⟨26, 24, .rwl, 0⟩, ⟨19, 16, .rwl, 8⟩, ⟨15, 8, .rwl, 0x20⟩, ⟨7, 0, .rwl, 0⟩]⟩,
  ⟨"ETH_TC10", 0x42000064, [(28, 0x10000)],
    [⟨31, 31, .wo, 0⟩, ⟨30, 30, .wo, 0⟩, ⟨3, 3, .w1c, 0⟩, ⟨2, 2, .rwl, 0⟩, ⟨1, 1, .rwl, 0⟩, ⟨0, 0, .rwl, 0⟩]⟩,
  ⟨"ETH_PREEMPT", 0x42000068, [(28, 0x10000)],
    [⟨31, 31, .rwl, 0⟩, ⟨30, 30, .rwl, 0⟩, ⟨9, 8, .rwl, 0⟩, ⟨1, 0, .ro, 0⟩]⟩,
  ⟨"ETH_EVT", 0x42000070, [(28, 0x10000)],
    [⟨5, 0, .w1c, 0⟩]⟩,
  ⟨"ETH_IEN", 0x42000074, [(28, 0x10000)],
    [⟨5, 0, .rw, 0⟩]⟩,
  ⟨"MSEC_CTL", 0x42001000, [(28, 0x10000)],
    [⟨31, 31, .rw, 0⟩, ⟨30, 30, .rw, 0⟩, ⟨29, 28, .rw, 2⟩, ⟨27, 27, .rw, 1⟩, ⟨25, 24, .rw, 0⟩, ⟨17, 16, .rw, 0⟩, ⟨15, 0, .rw, 0⟩]⟩,
  ⟨"MSEC_SCI_LO", 0x42001008, [(28, 0x10000)],
    [⟨31, 0, .rw, 0⟩]⟩,
  ⟨"MSEC_SCI_HI", 0x4200100c, [(28, 0x10000)],
    [⟨31, 0, .rw, 0⟩]⟩,
  ⟨"HP_STEER", 0x421a4000, [(2, 0x10000), (4096, 0x4)],
    [⟨9, 8, .rw, 0⟩, ⟨5, 0, .rw, 0⟩]⟩,
  ⟨"QP_CTL", 0x421a8000, [(2, 0x10000), (64, 0x100)],
    [⟨31, 31, .rw, 0⟩, ⟨27, 24, .rw, 4⟩, ⟨23, 20, .rw, 4⟩, ⟨15, 8, .rw, 1⟩, ⟨7, 0, .rw, 0x32⟩]⟩,
  ⟨"QP_TX_BASE_LO", 0x421a8004, [(2, 0x10000), (64, 0x100)],
    [⟨31, 6, .rw, 0⟩]⟩,
  ⟨"QP_TX_BASE_HI", 0x421a8008, [(2, 0x10000), (64, 0x100)],
    [⟨31, 0, .rw, 0⟩]⟩,
  ⟨"QP_TX_HEAD", 0x421a800c, [(2, 0x10000), (64, 0x100)],
    [⟨11, 0, .ro, 0⟩]⟩,
  ⟨"QP_TX_TAIL", 0x421a8010, [(2, 0x10000), (64, 0x100)],
    [⟨11, 0, .rw, 0⟩]⟩,
  ⟨"QP_RX_BASE_LO", 0x421a8014, [(2, 0x10000), (64, 0x100)],
    [⟨31, 6, .rw, 0⟩]⟩,
  ⟨"QP_RX_BASE_HI", 0x421a8018, [(2, 0x10000), (64, 0x100)],
    [⟨31, 0, .rw, 0⟩]⟩,
  ⟨"QP_RX_HEAD", 0x421a801c, [(2, 0x10000), (64, 0x100)],
    [⟨11, 0, .ro, 0⟩]⟩,
  ⟨"QP_RX_TAIL", 0x421a8020, [(2, 0x10000), (64, 0x100)],
    [⟨11, 0, .rw, 0⟩]⟩] ++
[
  ⟨"QP_IRQ", 0x421a8024, [(2, 0x10000), (64, 0x100)],
    [⟨31, 24, .rw, 1⟩, ⟨23, 12, .rw, 0⟩, ⟨10, 0, .rw, 0⟩]⟩,
  ⟨"QP_STAT", 0x421a8028, [(2, 0x10000), (64, 0x100)],
    [⟨1, 1, .ro, 0⟩, ⟨0, 0, .ro, 0⟩]⟩,
  ⟨"QP_RXDROP", 0x421a802c, [(2, 0x10000), (64, 0x100)],
    [⟨31, 0, .ro, 0⟩]⟩,
  ⟨"QP_TXCNT", 0x421a8030, [(2, 0x10000), (64, 0x100)],
    [⟨31, 0, .ro, 0⟩]⟩,
  ⟨"ETH_CNT", 0x42000100, [(28, 0x10000), (14, 0x4)],
    [⟨31, 0, .ro, 0⟩]⟩,
  ⟨"ETH_CNT_SH", 0x42000180, [(28, 0x10000), (14, 0x4)],
    [⟨31, 0, .ro, 0⟩]⟩,
  ⟨"ETH_TALLY", 0x420001fc, [(28, 0x10000)],
    [⟨31, 31, .ro, 1⟩, ⟨15, 0, .ro, 0⟩]⟩,
  ⟨"SA_TX", 0x42001100, [(28, 0x10000), (4, 0x20), (6, 0x4)],
    [⟨31, 0, .rw, 0⟩]⟩,
  ⟨"SA_TX_KEY", 0x42001118, [(28, 0x10000), (4, 0x20)],
    [⟨8, 8, .rw, 0⟩, ⟨5, 0, .rw, 0⟩]⟩,
  ⟨"SC_SCI", 0x42001200, [(28, 0x10000), (8, 0x100), (2, 0x4)],
    [⟨31, 0, .rw, 0⟩]⟩,
  ⟨"SC_EN", 0x42001208, [(28, 0x10000), (8, 0x100)],
    [⟨0, 0, .rw, 0⟩]⟩,
  ⟨"SA_RX", 0x42001220, [(28, 0x10000), (8, 0x100), (4, 0x20), (6, 0x4)],
    [⟨31, 0, .rw, 0⟩]⟩,
  ⟨"SA_RX_KEY", 0x42001238, [(28, 0x10000), (8, 0x100), (4, 0x20)],
    [⟨8, 8, .rw, 0⟩, ⟨5, 0, .rw, 0⟩]⟩]

/-- Registers of block CAN. -/
def regsCan : List RegSpec := 
[
  ⟨"CAN_CTL", 0x43000000, [(16, 0x10000)],
    [⟨31, 31, .rw, 0⟩, ⟨30, 28, .rw, 0⟩, ⟨27, 27, .rw, 0⟩, ⟨26, 26, .rw, 0⟩, ⟨25, 25, .rw, 0⟩, ⟨24, 24, .rw, 1⟩, ⟨23, 23, .rw, 0⟩, ⟨22, 22, .rw, 0⟩, ⟨21, 21, .wo, 0⟩]⟩,
  ⟨"CAN_STAT", 0x43000004, [(16, 0x10000)],
    [⟨31, 29, .ro, 0⟩, ⟨28, 28, .ro, 0⟩, ⟨27, 25, .ro, 0⟩, ⟨24, 24, .w1c, 0⟩, ⟨23, 23, .w1c, 0⟩, ⟨22, 22, .ro, 0⟩, ⟨15, 8, .ro, 0⟩, ⟨7, 0, .ro, 0⟩]⟩,
  ⟨"CAN_NBT", 0x43000008, [(16, 0x10000)],
    [⟨30, 24, .rw, 0xf⟩, ⟨22, 16, .rw, 0xf⟩, ⟨15, 8, .rw, 0x3e⟩, ⟨7, 0, .rw, 1⟩]⟩,
  ⟨"CAN_DBT", 0x4300000c, [(16, 0x10000)],
    [⟨27, 24, .rw, 3⟩, ⟨19, 16, .rw, 3⟩, ⟨12, 8, .rw, 0xa⟩, ⟨4, 0, .rw, 0⟩]⟩,
  ⟨"CAN_XBT", 0x43000010, [(4, 0x10000)],
    [⟨27, 24, .rw, 0⟩, ⟨19, 16, .rw, 0⟩, ⟨12, 8, .rw, 1⟩, ⟨4, 0, .rw, 0⟩]⟩,
  ⟨"CAN_TDC", 0x43000014, [(16, 0x10000)],
    [⟨31, 31, .rw, 0⟩, ⟨22, 16, .ro, 0⟩, ⟨6, 0, .rw, 0⟩]⟩,
  ⟨"CAN_RATE_CFG", 0x43000018, [(16, 0x10000)],
    [⟨23, 16, .rw, 4⟩, ⟨11, 8, .rw, 2⟩, ⟨7, 0, .rw, 0⟩]⟩,
  ⟨"CAN_RATE_N", 0x43000020, [(16, 0x10000), (8, 0x8)],
    [⟨30, 24, .rw, 0⟩, ⟨22, 16, .rw, 0⟩, ⟨15, 8, .rw, 0⟩, ⟨7, 0, .rw, 0⟩]⟩,
  ⟨"CAN_RATE_D", 0x43000024, [(16, 0x10000), (8, 0x8)],
    [⟨27, 24, .rw, 0⟩, ⟨19, 16, .rw, 0⟩, ⟨12, 8, .rw, 0⟩, ⟨4, 0, .rw, 0⟩]⟩,
  ⟨"CAN_EVT", 0x43000060, [(16, 0x10000)],
    [⟨10, 0, .w1c, 0⟩]⟩,
  ⟨"CAN_IEN", 0x43000064, [(16, 0x10000)],
    [⟨10, 0, .rw, 0⟩]⟩,
  ⟨"CAN_MB_FULL", 0x43000068, [(16, 0x10000), (2, 0x4)],
    [⟨31, 0, .ro, 0⟩]⟩,
  ⟨"CAN_MB_DONE", 0x43000070, [(16, 0x10000), (2, 0x4)],
    [⟨31, 0, .w1c, 0⟩]⟩,
  ⟨"CAN_FF_ID", 0x43000200, [(16, 0x10000), (8, 0x8)],
    [⟨31, 31, .rw, 0⟩, ⟨30, 30, .rw, 0⟩, ⟨28, 0, .rw, 0⟩]⟩,
  ⟨"CAN_FF_MASK", 0x43000204, [(16, 0x10000), (8, 0x8)],
    [⟨28, 0, .rw, 0⟩]⟩,
  ⟨"CAN_FIFO_STAT", 0x43000240, [(16, 0x10000)],
    [⟨31, 31, .rw, 0⟩, ⟨6, 0, .ro, 0⟩]⟩,
  ⟨"CAN_FIFO_POP", 0x43000244, [(16, 0x10000)],
    [⟨0, 0, .wo, 0⟩]⟩,
  ⟨"MB_CS", 0x43001000, [(16, 0x10000), (64, 0x80)],
    [⟨31, 30, .rw, 0⟩, ⟨29, 29, .rw, 0⟩, ⟨28, 28, .rw, 0⟩, ⟨27, 27, .w1c, 0⟩, ⟨26, 26, .w1c, 0⟩, ⟨25, 25, .ro, 0⟩, ⟨24, 24, .ro, 0⟩, ⟨23, 21, .ro, 0⟩, ⟨20, 18, .wo, 0⟩, ⟨17, 17, .rw, 0⟩, ⟨16, 16, .rw, 0⟩, ⟨15, 15, .rw, 0⟩, ⟨14, 14, .rw, 0⟩, ⟨6, 0, .rw, 0⟩]⟩,
  ⟨"MB_ID", 0x43001004, [(16, 0x10000), (64, 0x80)],
    [⟨30, 30, .rw, 0⟩, ⟨28, 0, .rw, 0⟩]⟩,
  ⟨"MB_TS", 0x43001008, [(16, 0x10000), (64, 0x80)],
    [⟨31, 0, .ro, 0⟩]⟩,
  ⟨"MB_FILT", 0x4300100c, [(16, 0x10000), (64, 0x80)],
    [⟨30, 30, .rw, 0⟩, ⟨28, 0, .rw, 0⟩]⟩,
  ⟨"MB_MASK", 0x43001010, [(16, 0x10000), (64, 0x80)],
    [⟨28, 0, .rw, 0⟩]⟩,
  ⟨"MB_DATA", 0x43001020, [(16, 0x10000), (64, 0x80), (16, 0x4)],
    [⟨31, 0, .rw, 0⟩]⟩,
  ⟨"XB_CS", 0x43008000, [(4, 0x10000), (8, 0x1000)],
    [⟨31, 30, .rw, 0⟩, ⟨29, 29, .rw, 0⟩, ⟨28, 28, .rw, 0⟩, ⟨27, 27, .w1c, 0⟩, ⟨26, 26, .w1c, 0⟩, ⟨25, 25, .ro, 0⟩, ⟨24, 24, .ro, 0⟩, ⟨23, 21, .ro, 0⟩, ⟨20, 18, .wo, 0⟩, ⟨10, 0, .rw, 0⟩]⟩] ++
[
  ⟨"XB_HDR", 0x43008004, [(4, 0x10000), (8, 0x1000)],
    [⟨31, 24, .rw, 0⟩, ⟨23, 16, .rw, 0⟩, ⟨15, 15, .rw, 0⟩, ⟨10, 0, .rw, 0⟩]⟩,
  ⟨"XB_AF", 0x43008008, [(4, 0x10000), (8, 0x1000)],
    [⟨31, 0, .rw, 0⟩]⟩,
  ⟨"XB_TS", 0x4300800c, [(4, 0x10000), (8, 0x1000)],
    [⟨31, 0, .ro, 0⟩]⟩,
  ⟨"XB_FILT", 0x43008010, [(4, 0x10000), (8, 0x1000)],
    [⟨10, 0, .rw, 0⟩]⟩,
  ⟨"XB_MASK", 0x43008014, [(4, 0x10000), (8, 0x1000)],
    [⟨10, 0, .rw, 0⟩]⟩,
  ⟨"XB_DATA", 0x43008020, [(4, 0x10000), (8, 0x1000), (512, 0x4)],
    [⟨31, 0, .rw, 0⟩]⟩,
  ⟨"MBG_LOG_CTL", 0x43000400, [(16, 0x10000), (8, 0x20)],
    [⟨31, 31, .rw, 0⟩, ⟨30, 30, .ro, 0⟩, ⟨27, 24, .rw, 4⟩, ⟨10, 0, .rw, 0⟩]⟩,
  ⟨"MBG_LOG_BASE_LO", 0x43000404, [(16, 0x10000), (8, 0x20)],
    [⟨31, 6, .rw, 0⟩]⟩,
  ⟨"MBG_LOG_BASE_HI", 0x43000408, [(16, 0x10000), (8, 0x20)],
    [⟨31, 0, .rw, 0⟩]⟩,
  ⟨"MBG_LOG_HEAD", 0x4300040c, [(16, 0x10000), (8, 0x20)],
    [⟨11, 0, .ro, 0⟩]⟩,
  ⟨"MBG_LOG_TAIL", 0x43000410, [(16, 0x10000), (8, 0x20)],
    [⟨11, 0, .rw, 0⟩]⟩,
  ⟨"MBG_LOG_DROP", 0x43000414, [(16, 0x10000), (8, 0x20)],
    [⟨31, 0, .ro, 0⟩]⟩,
  ⟨"CAN_CNT", 0x43000100, [(16, 0x10000), (13, 0x4)],
    [⟨31, 0, .ro, 0⟩]⟩,
  ⟨"CAN_CNT_SH", 0x43000180, [(16, 0x10000), (13, 0x4)],
    [⟨31, 0, .ro, 0⟩]⟩,
  ⟨"CAN_TALLY", 0x430001fc, [(16, 0x10000)],
    [⟨31, 31, .ro, 1⟩, ⟨15, 0, .ro, 0⟩]⟩,
  ⟨"FIFO_CS", 0x43000300, [(16, 0x10000)],
    [⟨31, 31, .ro, 0⟩, ⟨24, 24, .ro, 0⟩, ⟨17, 17, .ro, 0⟩, ⟨16, 16, .ro, 0⟩, ⟨15, 15, .ro, 0⟩, ⟨14, 14, .ro, 0⟩, ⟨6, 0, .ro, 0⟩]⟩,
  ⟨"FIFO_ID", 0x43000304, [(16, 0x10000)],
    [⟨30, 30, .ro, 0⟩, ⟨28, 0, .ro, 0⟩]⟩,
  ⟨"FIFO_TS", 0x43000308, [(16, 0x10000)],
    [⟨31, 0, .ro, 0⟩]⟩,
  ⟨"FIFO_DATA", 0x43000320, [(16, 0x10000), (16, 0x4)],
    [⟨31, 0, .ro, 0⟩]⟩]

/-- Registers of block LIN. -/
def regsLin : List RegSpec := [
  ⟨"LIN_CTL", 0x43100000, [(12, 0x4000)],
    [⟨31, 31, .rw, 0⟩, ⟨30, 30, .rwl, 0⟩, ⟨29, 29, .rwl, 1⟩, ⟨28, 28, .wo, 0⟩, ⟨27, 27, .wo, 0⟩, ⟨26, 26, .rw, 0⟩, ⟨22, 16, .rw, 1⟩, ⟨15, 0, .rwl, 0x28b⟩]⟩,
  ⟨"LIN_STAT", 0x43100004, [(12, 0x4000)],
    [⟨31, 29, .ro, 0⟩, ⟨27, 24, .ro, 0⟩, ⟨21, 16, .ro, 0⟩, ⟨15, 0, .ro, 0⟩]⟩,
  ⟨"LIN_EVT", 0x43100008, [(12, 0x4000)],
    [⟨5, 0, .w1c, 0⟩]⟩,
  ⟨"LIN_IEN", 0x4310000c, [(12, 0x4000)],
    [⟨5, 0, .rw, 0⟩]⟩,
  ⟨"LIN_SCHED", 0x43100100, [(12, 0x4000), (64, 0x4)],
    [⟨31, 31, .rw, 0⟩, ⟨23, 8, .rw, 0⟩, ⟨5, 0, .rw, 0⟩]⟩,
  ⟨"LR_CFG", 0x43101000, [(12, 0x4000), (64, 0x10)],
    [⟨31, 31, .wo, 0⟩, ⟨11, 8, .rw, 8⟩, ⟨2, 2, .rw, 1⟩, ⟨1, 0, .rw, 0⟩]⟩,
  ⟨"LR_STAT", 0x4310100c, [(12, 0x4000), (64, 0x10)],
    [⟨31, 31, .w1c, 0⟩, ⟨30, 28, .ro, 0⟩]⟩,
  ⟨"LR_DATA_LO", 0x43101004, [(12, 0x4000), (64, 0x10)],
    [⟨31, 0, .rw, 0xffffffff⟩]⟩,
  ⟨"LR_DATA_HI", 0x43101008, [(12, 0x4000), (64, 0x10)],
    [⟨31, 0, .rw, 0xffffffff⟩]⟩,
  ⟨"LIN_CNT", 0x43100080, [(12, 0x4000), (7, 0x4)],
    [⟨31, 0, .ro, 0⟩]⟩,
  ⟨"LIN_CNT_SH", 0x431000c0, [(12, 0x4000), (7, 0x4)],
    [⟨31, 0, .ro, 0⟩]⟩,
  ⟨"LIN_TALLY", 0x431000fc, [(12, 0x4000)],
    [⟨31, 31, .ro, 1⟩, ⟨15, 0, .ro, 0⟩]⟩]

/-- Registers of block ICU. -/
def regsIcu : List RegSpec := [
  ⟨"ICU_MSI_TGT", 0x44300000, [(256, 0x4)],
    [⟨31, 31, .rw, 0⟩, ⟨20, 16, .rw, 0⟩, ⟨10, 8, .rw, 0⟩]⟩,
  ⟨"ICU_DROP", 0x44300400, [],
    [⟨31, 0, .ro, 0⟩]⟩,
  ⟨"MTIMECMP_LO", 0x44400000, [(2, 0x80), (8, 0x8)],
    [⟨31, 0, .rw, 0xffffffff⟩]⟩,
  ⟨"MTIMECMP_HI", 0x44400004, [(2, 0x80), (8, 0x8)],
    [⟨31, 0, .rw, 0xffffffff⟩]⟩,
  ⟨"APLIC_M", 0x44000000, [(16384, 0x4)],
    [⟨31, 0, .rw, 0⟩]⟩,
  ⟨"APLIC_S", 0x44010000, [(16384, 0x4)],
    [⟨31, 0, .rw, 0⟩]⟩]

/-- Registers of block AON. -/
def regsAon : List RegSpec := [
  ⟨"AON_PSTATE", 0x50000000, [],
    [⟨31, 16, .ro, 0⟩, ⟨11, 8, .ro, 0⟩, ⟨7, 7, .ro, 0⟩, ⟨6, 6, .ro, 0⟩, ⟨5, 5, .w1c, 1⟩, ⟨2, 0, .ro, 7⟩]⟩,
  ⟨"AON_RTC_SEC", 0x50000004, [],
    [⟨31, 0, .rw, 0⟩]⟩,
  ⟨"AON_RTC_SUB", 0x50000008, [],
    [⟨14, 0, .ro, 0⟩]⟩,
  ⟨"AON_EVT", 0x5000000c, [],
    [⟨1, 1, .w1c, 0⟩, ⟨0, 0, .w1c, 0⟩]⟩,
  ⟨"AON_IEN", 0x50000010, [],
    [⟨1, 0, .rw, 0⟩]⟩]

/-- Registers of block WAKE. -/
def regsWake : List RegSpec := [
  ⟨"WK_LAST", 0x50010000, [],
    [⟨31, 31, .ro, 1⟩, ⟨12, 12, .ro, 0⟩, ⟨11, 11, .ro, 0⟩, ⟨10, 10, .ro, 0⟩, ⟨9, 9, .ro, 0⟩, ⟨8, 8, .ro, 0⟩, ⟨7, 0, .ro, 1⟩]⟩,
  ⟨"WK_STAT", 0x50010004, [],
    [⟨17, 17, .w1c, 0⟩, ⟨16, 16, .w1c, 0⟩, ⟨15, 8, .ro, 0⟩, ⟨5, 0, .ro, 1⟩]⟩,
  ⟨"WK_IEN", 0x50010008, [],
    [⟨0, 0, .rw, 0⟩]⟩,
  ⟨"WK_ALARM", 0x5001000c, [],
    [⟨31, 0, .rw, 0⟩]⟩,
  ⟨"WK_ALARM_CTL", 0x50010010, [],
    [⟨1, 1, .w1c, 0⟩, ⟨0, 0, .rw, 0⟩]⟩,
  ⟨"WK_PEND", 0x50010020, [(4, 0x4)],
    [⟨31, 0, .w1c, 0⟩]⟩,
  ⟨"WK_HEAD", 0x50010040, [],
    [⟨31, 31, .ro, 1⟩, ⟨12, 12, .ro, 0⟩, ⟨11, 11, .ro, 0⟩, ⟨10, 10, .ro, 0⟩, ⟨9, 9, .ro, 0⟩, ⟨8, 8, .ro, 0⟩, ⟨7, 0, .ro, 1⟩]⟩,
  ⟨"WK_HEAD_SEC", 0x50010044, [],
    [⟨31, 0, .ro, 0⟩]⟩,
  ⟨"WK_HEAD_SUB", 0x50010048, [],
    [⟨14, 0, .ro, 0⟩]⟩,
  ⟨"WK_POP", 0x5001004c, [],
    [⟨0, 0, .wo, 0⟩]⟩]

/-- Registers of block NM. -/
def regsNm : List RegSpec := [
  ⟨"NM_GCFG", 0x50020000, [],
    [⟨7, 0, .rw, 0x14⟩]⟩,
  ⟨"NM_SB_BUS", 0x50020004, [],
    [⟨27, 16, .rw, 0xfff⟩, ⟨15, 0, .rw, 0xffff⟩]⟩,
  ⟨"NM_SB_ETH", 0x50020008, [],
    [⟨25, 0, .rw, 0x3ffffff⟩]⟩,
  ⟨"NM_CONSENT", 0x5002000c, [],
    [⟨15, 0, .rw, 0⟩]⟩,
  ⟨"NM_STAT", 0x50020010, [],
    [⟨22, 16, .ro, 0⟩, ⟨15, 8, .ro, 0⟩, ⟨2, 2, .w1c, 0⟩, ⟨1, 1, .ro, 0⟩, ⟨0, 0, .ro, 1⟩]⟩,
  ⟨"NM_LEDGER_CLR", 0x50020014, [],
    [⟨0, 0, .wo, 0⟩]⟩,
  ⟨"NM_CFG", 0x50020100, [(16, 0x40)],
    [⟨31, 31, .rw, 0⟩, ⟨30, 30, .rw, 0⟩, ⟨21, 16, .rw, 0⟩, ⟨10, 0, .rw, 0x500⟩]⟩,
  ⟨"NM_TIME", 0x50020104, [(16, 0x40)],
    [⟨31, 16, .rw, 0x3e8⟩, ⟨15, 8, .rw, 0x1a⟩, ⟨7, 0, .rw, 0xa⟩]⟩,
  ⟨"NM_BT", 0x50020108, [(16, 0x40)],
    [⟨30, 24, .rw, 0xf⟩, ⟨22, 16, .rw, 0xf⟩, ⟨15, 8, .rw, 0x3e⟩, ⟨7, 0, .rw, 1⟩]⟩,
  ⟨"NM_TX", 0x5002010c, [(16, 0x40)],
    [⟨31, 24, .rw, 0xff⟩]⟩,
  ⟨"NM_USER", 0x50020110, [(16, 0x40)],
    [⟨31, 0, .rw, 0⟩]⟩,
  ⟨"NM_CH_STAT", 0x50020114, [(16, 0x40)],
    [⟨31, 24, .ro, 0⟩, ⟨21, 16, .ro, 0⟩, ⟨7, 7, .w1c, 0⟩, ⟨6, 6, .ro, 0⟩, ⟨2, 0, .ro, 0⟩]⟩,
  ⟨"NM_PRESENT_LO", 0x50020118, [(16, 0x40)],
    [⟨31, 0, .ro, 0⟩]⟩,
  ⟨"NM_PRESENT_HI", 0x5002011c, [(16, 0x40)],
    [⟨31, 0, .ro, 0⟩]⟩,
  ⟨"NM_LDG_A", 0x50021000, [(64, 0x8)],
    [⟨31, 31, .ro, 0⟩, ⟨27, 24, .ro, 0⟩, ⟨21, 16, .ro, 0⟩, ⟨15, 8, .ro, 0⟩, ⟨7, 0, .ro, 0⟩]⟩,
  ⟨"NM_LDG_B", 0x50021004, [(64, 0x8)],
    [⟨31, 0, .ro, 0⟩]⟩,
  ⟨"NM_EVT", 0x50020018, [],
    [⟨3, 3, .w1c, 0⟩, ⟨2, 2, .w1c, 0⟩, ⟨1, 1, .w1c, 0⟩, ⟨0, 0, .w1c, 0⟩]⟩,
  ⟨"NM_IEN", 0x5002001c, [],
    [⟨3, 0, .rw, 0⟩]⟩]

/-- Registers of block DI. -/
def regsDi : List RegSpec := [
  ⟨"DI_GCFG", 0x50030000, [],
    [⟨31, 26, .rwl, 0⟩, ⟨25, 25, .rwl, 0⟩, ⟨23, 20, .rwl, 5⟩, ⟨19, 12, .rwl, 0x3c⟩, ⟨11, 4, .rwl, 0x1e⟩, ⟨3, 0, .rwl, 4⟩]⟩,
  ⟨"DI_LVL", 0x50030004, [(2, 0x4)],
    [⟨31, 0, .ro, 0⟩]⟩,
  ⟨"DI_CFG", 0x50030100, [(48, 0x20)],
    [⟨31, 31, .rwl, 0⟩, ⟨30, 29, .rwl, 0⟩, ⟨28, 28, .rwl, 0⟩, ⟨23, 16, .rwl, 0x12⟩, ⟨15, 8, .rwl, 0xa⟩, ⟨7, 5, .rwl, 0⟩, ⟨4, 4, .rwl, 0⟩, ⟨3, 3, .rwl, 0⟩, ⟨2, 2, .rwl, 1⟩, ⟨1, 0, .rwl, 1⟩]⟩,
  ⟨"DI_FILT", 0x50030104, [(48, 0x20)],
    [⟨31, 24, .rwl, 0x14⟩, ⟨23, 16, .rwl, 0xa⟩, ⟨9, 0, .rwl, 0x64⟩]⟩,
  ⟨"DI_STAT", 0x50030108, [(48, 0x20)],
    [⟨31, 20, .ro, 0⟩, ⟨19, 16, .ro, 0⟩, ⟨7, 7, .ro, 0⟩, ⟨5, 5, .ro, 0⟩, ⟨4, 4, .ro, 0⟩, ⟨3, 3, .ro, 0⟩, ⟨2, 2, .ro, 0⟩, ⟨1, 1, .ro, 0⟩, ⟨0, 0, .ro, 0⟩]⟩,
  ⟨"DI_EVT", 0x5003010c, [(48, 0x20)],
    [⟨22, 16, .rw, 0⟩, ⟨6, 6, .w1c, 0⟩, ⟨5, 5, .w1c, 0⟩, ⟨4, 4, .w1c, 0⟩, ⟨3, 3, .w1c, 0⟩, ⟨2, 2, .w1c, 0⟩, ⟨1, 1, .w1c, 0⟩, ⟨0, 0, .w1c, 0⟩]⟩,
  ⟨"DI_TS", 0x50030110, [(48, 0x20)],
    [⟨31, 0, .ro, 0⟩]⟩]

/-- Registers of block TAMPER. -/
def regsTamper : List RegSpec := [
  ⟨"TAMPER_CFG", 0x50040000, [],
    [⟨1, 0, .w1s, 1⟩, ⟨3, 2, .w1s, 0⟩, ⟨5, 4, .w1s, 0⟩, ⟨7, 6, .w1s, 1⟩, ⟨9, 8, .w1s, 1⟩, ⟨11, 10, .w1s, 1⟩, ⟨13, 12, .w1s, 1⟩, ⟨15, 14, .w1s, 1⟩]⟩,
  ⟨"TAMPER_STAT", 0x50040004, [],
    [⟨31, 31, .ro, 0⟩, ⟨30, 30, .ro, 0⟩, ⟨22, 16, .ro, 0⟩, ⟨14, 8, .ro, 0⟩, ⟨7, 0, .ro, 0⟩]⟩,
  ⟨"TAMPER_EVT", 0x50040008, [],
    [⟨7, 0, .w1c, 0⟩]⟩,
  ⟨"TAMPER_IEN", 0x5004000c, [],
    [⟨7, 0, .rw, 0⟩]⟩,
  ⟨"TAMPER_LOG_LO", 0x50040100, [(64, 0x8)],
    [⟨23, 16, .ro, 0⟩, ⟨15, 8, .ro, 0⟩, ⟨1, 0, .ro, 0⟩]⟩,
  ⟨"TAMPER_LOG_HI", 0x50040104, [(64, 0x8)],
    [⟨31, 0, .ro, 0⟩]⟩]

/-- Registers of block RESP. -/
def regsResp : List RegSpec := [
  ⟨"RESP_CTL", 0x50050000, [],
    [⟨31, 31, .rwl, 1⟩, ⟨26, 16, .rwl, 0x7e1⟩, ⟨10, 0, .rwl, 0x7e0⟩]⟩,
  ⟨"RESP_BT", 0x50050004, [],
    [⟨30, 24, .rwl, 0xf⟩, ⟨22, 16, .rwl, 0xf⟩, ⟨15, 8, .rwl, 0x3e⟩, ⟨7, 0, .rwl, 1⟩]⟩,
  ⟨"RESP_FRESH_LO", 0x50050008, [],
    [⟨31, 0, .rw, 0⟩]⟩,
  ⟨"RESP_FRESH_HI", 0x5005000c, [],
    [⟨31, 0, .rw, 0⟩]⟩,
  ⟨"RESP_STAT", 0x50050010, [],
    [⟨31, 31, .ro, 0⟩, ⟨30, 30, .ro, 0⟩, ⟨15, 0, .ro, 0⟩]⟩,
  ⟨"RESP_CNT", 0x50050014, [],
    [⟨31, 0, .ro, 0⟩]⟩]

/-- Registers of block XCVR. -/
def regsXcvr : List RegSpec := [
  ⟨"XC_CTL", 0x50061000, [(16, 0x200)],
    [⟨8, 8, .rwl, 1⟩, ⟨7, 6, .rwl, 2⟩, ⟨5, 5, .rwl, 0⟩, ⟨4, 4, .rwl, 1⟩, ⟨3, 3, .rwl, 0⟩, ⟨2, 2, .rwl, 1⟩, ⟨1, 0, .rw, 1⟩]⟩,
  ⟨"XC_STAT", 0x50061004, [(16, 0x200)],
    [⟨16, 16, .ro, 0⟩, ⟨15, 8, .ro, 0⟩, ⟨5, 4, .ro, 0⟩, ⟨2, 2, .w1c, 0⟩, ⟨1, 1, .ro, 0⟩, ⟨0, 0, .w1c, 0⟩]⟩,
  ⟨"XF_ID", 0x50061040, [(16, 0x200), (8, 0x20)],
    [⟨31, 31, .rwl, 0⟩, ⟨30, 30, .rwl, 0⟩, ⟨28, 0, .rwl, 0⟩]⟩,
  ⟨"XF_MASK", 0x50061044, [(16, 0x200), (8, 0x20)],
    [⟨28, 0, .rwl, 0⟩]⟩,
  ⟨"XF_DLC", 0x50061048, [(16, 0x200), (8, 0x20)],
    [⟨8, 8, .rwl, 0⟩, ⟨3, 0, .rwl, 0⟩]⟩,
  ⟨"XF_DM_LO", 0x5006104c, [(16, 0x200), (8, 0x20)],
    [⟨31, 0, .rwl, 0⟩]⟩,
  ⟨"XF_DM_HI", 0x50061050, [(16, 0x200), (8, 0x20)],
    [⟨31, 0, .rwl, 0⟩]⟩,
  ⟨"XL_CTL", 0x50063000, [(12, 0x40)],
    [⟨3, 3, .rwl, 0⟩, ⟨2, 2, .rwl, 0⟩, ⟨1, 0, .rw, 1⟩]⟩,
  ⟨"XL_STAT", 0x50063004, [(12, 0x40)],
    [⟨2, 2, .ro, 0⟩, ⟨1, 1, .w1c, 0⟩, ⟨0, 0, .w1c, 0⟩]⟩]

/-- Registers of block KEEP. -/
def regsKeep : List RegSpec := [
  ⟨"KEEP_ALIVE", 0x50070000, [],
    [⟨7, 0, .wo, 0⟩]⟩,
  ⟨"KEEP_TMO", 0x50070004, [],
    [⟨6, 0, .rwl, 0xa⟩]⟩,
  ⟨"KEEP_EVT", 0x50070014, [],
    [⟨2, 2, .w1c, 0⟩, ⟨1, 1, .w1c, 0⟩, ⟨0, 0, .w1c, 0⟩]⟩,
  ⟨"KEEP_IEN", 0x50070018, [],
    [⟨2, 0, .rw, 0⟩]⟩,
  ⟨"KEEP_PINS", 0x50070008, [],
    [⟨31, 31, .ro, 0⟩, ⟨30, 30, .ro, 0⟩, ⟨3, 0, .ro, 1⟩]⟩,
  ⟨"KEEP_SV4", 0x5007000c, [],
    [⟨31, 31, .ro, 0⟩, ⟨8, 0, .ro, 0⟩]⟩,
  ⟨"KEEP_SV4_SEC", 0x50070010, [],
    [⟨31, 0, .ro, 0⟩]⟩]

/-- Registers of block DIE. -/
def regsDie : List RegSpec := 
[
  ⟨"DIE_LEAVE", 0x51000040, [(12, 0x100000)],
    [⟨31, 16, .rwl, 0x3e8⟩, ⟨15, 8, .rwl, 4⟩, ⟨7, 0, .rwl, 0x14⟩]⟩,
  ⟨"TQ_CFG", 0x51002000, [(12, 0x100000)],
    [⟨22, 16, .rwl, 4⟩, ⟨9, 0, .rwl, 0x64⟩]⟩,
  ⟨"TQ_STAT", 0x51002004, [(12, 0x100000)],
    [⟨31, 16, .ro, 0⟩, ⟨14, 8, .rw, 0⟩, ⟨6, 0, .ro, 0⟩]⟩,
  ⟨"PG_PERIOD", 0x51003000, [(12, 0x100000), (4, 0x10)],
    [⟨22, 0, .rwl, 0x7a120⟩]⟩,
  ⟨"PG_ANCHOR", 0x51003004, [(12, 0x100000), (4, 0x10)],
    [⟨31, 0, .rwl, 0⟩]⟩,
  ⟨"PG_CTL", 0x51003008, [(12, 0x100000), (4, 0x10)],
    [⟨20, 16, .ro, 0⟩, ⟨8, 8, .w1c, 0⟩, ⟨0, 0, .rwl, 0⟩]⟩,
  ⟨"CH_CMD", 0x51001000, [(12, 0x100000), (16, 0x100)],
    [⟨27, 16, .wo, 0⟩, ⟨3, 0, .wo, 0⟩]⟩,
  ⟨"CH_TCMD_TIME", 0x51001004, [(12, 0x100000), (16, 0x100)],
    [⟨31, 0, .rw, 0⟩]⟩,
  ⟨"CH_TCMD", 0x51001008, [(12, 0x100000), (16, 0x100)],
    [⟨31, 31, .wo, 0⟩, ⟨27, 16, .wo, 0⟩, ⟨3, 0, .wo, 0⟩]⟩,
  ⟨"CH_ADOPT", 0x5100100c, [(12, 0x100000), (16, 0x100)],
    [⟨31, 20, .wo, 0⟩, ⟨10, 8, .wo, 0⟩]⟩,
  ⟨"CH_STAT", 0x51001010, [(12, 0x100000), (16, 0x100)],
    [⟨31, 20, .ro, 0⟩, ⟨19, 16, .ro, 0⟩, ⟨15, 15, .ro, 1⟩, ⟨14, 14, .ro, 0⟩, ⟨13, 13, .ro, 0⟩, ⟨12, 12, .ro, 0⟩, ⟨11, 11, .ro, 0⟩, ⟨10, 8, .ro, 0⟩, ⟨7, 7, .ro, 1⟩, ⟨6, 4, .ro, 0⟩, ⟨3, 3, .ro, 0⟩, ⟨2, 2, .ro, 0⟩, ⟨1, 0, .ro, 0⟩]⟩,
  ⟨"CH_CMD_STAT", 0x51001014, [(12, 0x100000), (16, 0x100)],
    [⟨14, 8, .ro, 0⟩, ⟨7, 4, .ro, 0xf⟩, ⟨3, 0, .ro, 0xf⟩]⟩,
  ⟨"CH_CFG", 0x51001018, [(12, 0x100000), (16, 0x100)],
    [⟨5, 4, .rwl, 0⟩, ⟨3, 0, .rwl, 7⟩]⟩,
  ⟨"CH_CAP", 0x5100101c, [(12, 0x100000), (16, 0x100)],
    [⟨13, 8, .rwl, 0⟩, ⟨5, 0, .rwl, 0⟩]⟩,
  ⟨"CH_INRUSH", 0x51001020, [(12, 0x100000), (16, 0x100)],
    [⟨23, 8, .rwl, 0xffff⟩, ⟨7, 0, .rwl, 0xff⟩]⟩,
  ⟨"CH_PHASE", 0x51001024, [(12, 0x100000), (16, 0x100)],
    [⟨22, 0, .rw, 0⟩]⟩,
  ⟨"CH_DUTY", 0x51001028, [(12, 0x100000), (16, 0x100)],
    [⟨27, 16, .ro, 0⟩, ⟨11, 0, .ro, 0⟩]⟩,
  ⟨"CH_EVT", 0x5100102c, [(12, 0x100000), (16, 0x100)],
    [⟨6, 6, .w1c, 0⟩, ⟨5, 5, .w1c, 0⟩, ⟨4, 4, .w1c, 0⟩, ⟨3, 3, .w1c, 0⟩, ⟨2, 2, .w1c, 0⟩, ⟨1, 1, .w1c, 0⟩, ⟨0, 0, .w1c, 0⟩]⟩,
  ⟨"CH_IEN", 0x51001030, [(12, 0x100000), (16, 0x100)],
    [⟨6, 0, .rw, 0⟩]⟩,
  ⟨"CH_TRIP", 0x51001040, [(12, 0x100000), (16, 0x100)],
    [⟨23, 16, .rwl, 4⟩, ⟨15, 8, .rwl, 0⟩, ⟨4, 0, .rwl, 0xb⟩]⟩,
  ⟨"CH_OT", 0x51001044, [(12, 0x100000), (16, 0x100)],
    [⟨31, 24, .rwl, 0xa⟩, ⟨21, 16, .rwl, 8⟩, ⟨13, 8, .rwl, 0x14⟩, ⟨0, 0, .rwl, 0⟩]⟩,
  ⟨"CH_WM_RES", 0x51001048, [(12, 0x100000), (16, 0x100)],
    [⟨31, 31, .rwl, 1⟩, ⟨27, 16, .rwl, 0xf5a⟩, ⟨15, 0, .rwl, 0x1450⟩]⟩,
  ⟨"CH_WM_TH", 0x5100104c, [(12, 0x100000), (16, 0x100)],
    [⟨31, 16, .rwl, 0x640⟩, ⟨15, 0, .rwl, 0x7d0⟩]⟩,
  ⟨"CH_WM_LIM", 0x51001050, [(12, 0x100000), (16, 0x100)],
    [⟨15, 8, .rwl, 0x91⟩, ⟨7, 0, .rwl, 0x9b⟩]⟩] ++
[
  ⟨"CH_WM_THETA", 0x51001054, [(12, 0x100000), (16, 0x100)],
    [⟨15, 0, .ro, 0⟩]⟩,
  ⟨"CH_OL", 0x51001058, [(12, 0x100000), (16, 0x100)],
    [⟨27, 24, .rwl, 8⟩, ⟨23, 16, .rwl, 0xa⟩, ⟨15, 8, .rwl, 5⟩, ⟨1, 1, .rwl, 0⟩, ⟨0, 0, .rwl, 1⟩]⟩,
  ⟨"CH_PROT_STAT", 0x5100105c, [(12, 0x100000), (16, 0x100)],
    [⟨31, 24, .ro, 0⟩, ⟨21, 16, .ro, 0⟩, ⟨9, 8, .ro, 0⟩, ⟨4, 4, .ro, 0⟩, ⟨3, 3, .ro, 0⟩, ⟨2, 2, .ro, 0⟩, ⟨1, 1, .ro, 0⟩]⟩,
  ⟨"CH_PROT_EVT", 0x51001060, [(12, 0x100000), (16, 0x100)],
    [⟨7, 7, .w1c, 0⟩, ⟨6, 6, .w1c, 0⟩, ⟨5, 5, .w1c, 0⟩, ⟨4, 4, .w1c, 0⟩, ⟨3, 3, .w1c, 0⟩, ⟨2, 2, .w1c, 0⟩, ⟨1, 1, .w1c, 0⟩, ⟨0, 0, .w1c, 0⟩]⟩,
  ⟨"CH_PROT_CLR", 0x51001064, [(12, 0x100000), (16, 0x100)],
    [⟨1, 1, .wo, 0⟩, ⟨0, 0, .wo, 0⟩]⟩,
  ⟨"DIE_BANK", 0x51000044, [(12, 0x100000)],
    [⟨15, 15, .ro, 0⟩, ⟨12, 12, .rwl, 1⟩, ⟨11, 8, .rwl, 2⟩, ⟨7, 0, .rwl, 0xb⟩]⟩,
  ⟨"DIE_PSTAT", 0x51000048, [(12, 0x100000)],
    [⟨31, 24, .ro, 0⟩, ⟨8, 8, .ro, 0⟩, ⟨7, 0, .ro, 0⟩]⟩,
  ⟨"WM_AMB", 0x51004000, [(12, 0x100000)],
    [⟨31, 31, .ro, 1⟩, ⟨23, 16, .rwl, 0xa⟩, ⟨15, 8, .rwl, 0x87⟩, ⟨7, 0, .rw, 0x87⟩]⟩,
  ⟨"KP_STAT", 0x51005000, [(12, 0x100000)],
    [⟨22, 16, .ro, 0⟩, ⟨15, 8, .ro, 0⟩, ⟨0, 0, .ro, 0⟩]⟩,
  ⟨"CH_SAMP", 0x51001080, [(12, 0x100000), (16, 0x100)],
    [⟨31, 16, .ro, 0⟩, ⟨15, 0, .ro, 0⟩]⟩,
  ⟨"CH_WCFG", 0x51001084, [(12, 0x100000), (16, 0x100)],
    [⟨16, 16, .rwl, 0⟩, ⟨15, 0, .rwl, 0x7d⟩]⟩,
  ⟨"CH_WIN_I", 0x51001088, [(12, 0x100000), (16, 0x100)],
    [⟨31, 16, .ro, 0⟩, ⟨15, 0, .ro, 0⟩]⟩,
  ⟨"CH_WIN_M", 0x5100108c, [(12, 0x100000), (16, 0x100)],
    [⟨31, 16, .ro, 0⟩, ⟨15, 0, .ro, 0⟩]⟩,
  ⟨"CH_WIN_V", 0x51001090, [(12, 0x100000), (16, 0x100)],
    [⟨31, 16, .ro, 0⟩, ⟨15, 0, .ro, 0⟩]⟩,
  ⟨"CH_WIN_SEQ", 0x51001094, [(12, 0x100000), (16, 0x100)],
    [⟨31, 16, .ro, 0⟩, ⟨4, 4, .ro, 0⟩, ⟨3, 3, .ro, 0⟩, ⟨2, 2, .ro, 0⟩, ⟨1, 1, .ro, 0⟩, ⟨0, 0, .ro, 0⟩]⟩,
  ⟨"CH_CAL", 0x51001098, [(12, 0x100000), (16, 0x100)],
    [⟨31, 16, .rwl, 0⟩, ⟨15, 0, .rwl, 0⟩]⟩,
  ⟨"CH_E_LO", 0x5100109c, [(12, 0x100000), (16, 0x100)],
    [⟨31, 0, .ro, 0⟩]⟩,
  ⟨"CH_E_HI", 0x510010a0, [(12, 0x100000), (16, 0x100)],
    [⟨31, 0, .ro, 0⟩]⟩,
  ⟨"CH_ESH_LO", 0x510010a4, [(12, 0x100000), (16, 0x100)],
    [⟨31, 0, .ro, 0⟩]⟩,
  ⟨"CH_ESH_HI", 0x510010a8, [(12, 0x100000), (16, 0x100)],
    [⟨31, 0, .ro, 0⟩]⟩,
  ⟨"CH_ESH_TAG", 0x510010ac, [(12, 0x100000), (16, 0x100)],
    [⟨31, 31, .ro, 1⟩, ⟨15, 0, .ro, 0⟩]⟩,
  ⟨"CH_MCTL", 0x510010b0, [(12, 0x100000), (16, 0x100)],
    [⟨0, 0, .wo, 0⟩]⟩,
  ⟨"DIE_MEAS", 0x5100004c, [(12, 0x100000)],
    [⟨31, 31, .ro, 0⟩, ⟨11, 0, .rwl, 0⟩]⟩]

/-- The registers of the block that an address falls into, by the maps of R24, R26 and R27. -/
def blockRegs (a : Nat) : List RegSpec :=
  if a < 0x40000000 then []
  else if a < 0x40100000 then regsSysctl
  else if a < 0x40200000 then regsWbg
  else if a < 0x40300000 then regsDisp
  else if a < 0x40400000 then regsRcx
  else if a < 0x40500000 then regsFcu
  else if a < 0x40600000 then regsTally
  else if a < 0x40700000 then regsTime
  else if a < 0x40800000 then regsSec
  else if a < 0x40900000 then regsAtu
  else if a < 0x40a00000 then regsKv
  else if a < 0x40b00000 then regsCry
  else if a < 0x40c00000 then regsCvu
  else if a < 0x40d00000 then regsBrg
  else if a < 0x40e00000 then regsBpl
  else if a < 0x41000000 then []
  else if a < 0x41100000 then regsSwc
  else if a < 0x41120000 then regsFwd
  else if a < 0x41180000 then regsStream
  else if a < 0x411f0000 then regsSelect
  else if a < 0x42000000 then regsRoute
  else if a < 0x421d0000 then regsEth
  else if a < 0x43000000 then []
  else if a < 0x43100000 then regsCan
  else if a < 0x43130000 then regsLin
  else if a < 0x44000000 then []
  else if a < 0x48000000 then regsIcu
  else if a < 0x50000000 then []
  else if a < 0x50010000 then regsAon
  else if a < 0x50020000 then regsWake
  else if a < 0x50030000 then regsNm
  else if a < 0x50040000 then regsDi
  else if a < 0x50050000 then regsTamper
  else if a < 0x50060000 then regsResp
  else if a < 0x50070000 then regsXcvr
  else if a < 0x50080000 then regsKeep
  else if a < 0x51000000 then []
  else if a < 0x51c00000 then regsDie
  else []

/-- Splits an offset into indices, one per dimension; `none` if it falls between instances. -/
def indices : List (Nat × Nat) → Nat → Option (List Nat)
  | [], d => if d == 0 then some [] else none
  | (c, st) :: ds, d =>
    if d / st < c then (indices ds (d % st)).map (fun l => (d / st) :: l) else none

/-- The register, with its indices, that lies at address `a`, or none (R23). -/
def locateIn : List RegSpec → Nat → Option (RegSpec × List Nat)
  | [], _ => none
  | r :: rs, a =>
    if r.base ≤ a then
      match indices r.dims (a - r.base) with
      | some ix => some (r, ix)
      | none => locateIn rs a
    else locateIn rs a

/-- Is `a` a register of a port window that its type of port lacks (R368, R390, R391): ETH_PLCA is TS only, ETH_TC10
MG, GB and FE, ETH_PREEMPT MG and GB; the MACsec registers are those of MG, GB and UX? -/
def portLacks (a : Nat) : Bool :=
  let p := (a - 0x42000000) / 0x10000
  let o := a % 0x10000
  0x42000000 ≤ a && p < 28 &&
    ((o == 0x60 && !(20 ≤ p && p < 24)) || (o == 0x64 && 20 ≤ p) || (o == 0x68 && 12 ≤ p) ||
      (0x1000 ≤ o && o < 0x1a00 && !(p < 12 || p == 24 || p == 25)))

/-- The register at address `a`, found in its block's list. -/
def locate (a : Nat) : Option (RegSpec × List Nat) := if portLacks a then none else locateIn (blockRegs a) a

end Sys2Proof.Machine
end

