-- ==== Sys2Proof/Machine/RegName.lean ====
section
/-!
DEFINITION. Machine/RegName.lean: the address of each register under its own name (namespace `R`)
and the named fields that the meanings read or write (namespace `F`), both from the spec's tables.
-/

namespace Sys2Proof.Machine

/-- A named field: bits `hi` to `lo` of the register at address `a`. -/
structure Fld where
  a : Nat
  hi : Nat
  lo : Nat
deriving DecidableEq, Repr

/-- SYSCTL_ID (R3). -/
def R.SYSCTL_ID : Nat := 0x40000000
def F.SYSCTL_ID_REV : Fld := ⟨R.SYSCTL_ID, 7, 4⟩
def F.SYSCTL_ID_ES : Fld := ⟨R.SYSCTL_ID, 3, 3⟩
/-- BPL_STATUS (R71). -/
def R.BPL_STATUS : Nat := 0x40d00000
def F.BPL_STATUS_RESULT : Fld := ⟨R.BPL_STATUS, 23, 20⟩
def F.BPL_STATUS_B_ERR : Fld := ⟨R.BPL_STATUS, 15, 12⟩
def F.BPL_STATUS_A_ERR : Fld := ⟨R.BPL_STATUS, 11, 8⟩
def F.BPL_STATUS_RECOVERY : Fld := ⟨R.BPL_STATUS, 5, 5⟩
def F.BPL_STATUS_DEFERRED : Fld := ⟨R.BPL_STATUS, 4, 4⟩
def F.BPL_STATUS_STEP_RECOVERED : Fld := ⟨R.BPL_STATUS, 3, 3⟩
def F.BPL_STATUS_STEP : Fld := ⟨R.BPL_STATUS, 2, 2⟩
def F.BPL_STATUS_APPLIED : Fld := ⟨R.BPL_STATUS, 1, 1⟩
def F.BPL_STATUS_ACTIVE : Fld := ⟨R.BPL_STATUS, 0, 0⟩
/-- BPL_FUSE (R72). -/
def R.BPL_FUSE : Nat := 0x40d00004
def F.BPL_FUSE_REVOKED : Fld := ⟨R.BPL_FUSE, 15, 12⟩
def F.BPL_FUSE_PRESENT : Fld := ⟨R.BPL_FUSE, 11, 8⟩
def F.BPL_FUSE_F : Fld := ⟨R.BPL_FUSE, 5, 0⟩
/-- BPL_PLAN_SEQ (R73). -/
def R.BPL_PLAN_SEQ : Nat := 0x40d00008
def F.BPL_PLAN_SEQ_SEQ : Fld := ⟨R.BPL_PLAN_SEQ, 31, 0⟩
/-- BPL_JOURNAL (R74). -/
def R.BPL_JOURNAL : Nat := 0x40d0000c
def F.BPL_JOURNAL_COUNT : Fld := ⟨R.BPL_JOURNAL, 16, 8⟩
def F.BPL_JOURNAL_NEWEST : Fld := ⟨R.BPL_JOURNAL, 7, 0⟩
/-- BPL_STAGE (R75). -/
def R.BPL_STAGE : Nat := 0x40d00010
def F.BPL_STAGE_STAGE : Fld := ⟨R.BPL_STAGE, 0, 0⟩
/-- BPL_CMD (R76). -/
def R.BPL_CMD : Nat := 0x40d00014
def F.BPL_CMD_CHECK : Fld := ⟨R.BPL_CMD, 0, 0⟩
/-- BPL_CHECK (R77). -/
def R.BPL_CHECK : Nat := 0x40d00018
def F.BPL_CHECK_RESULT : Fld := ⟨R.BPL_CHECK, 7, 4⟩
def F.BPL_CHECK_WOULD_STEP : Fld := ⟨R.BPL_CHECK, 3, 3⟩
def F.BPL_CHECK_COPY : Fld := ⟨R.BPL_CHECK, 2, 2⟩
def F.BPL_CHECK_DONE : Fld := ⟨R.BPL_CHECK, 1, 1⟩
def F.BPL_CHECK_BUSY : Fld := ⟨R.BPL_CHECK, 0, 0⟩
/-- BPL_DBG_UNLOCK (R78). -/
def R.BPL_DBG_UNLOCK : Nat := 0x40d0001c
def F.BPL_DBG_UNLOCK_LIMIT : Fld := ⟨R.BPL_DBG_UNLOCK, 15, 8⟩
def F.BPL_DBG_UNLOCK_USED : Fld := ⟨R.BPL_DBG_UNLOCK, 7, 0⟩
/-- SYSCTL_PWR (R98). -/
def R.SYSCTL_PWR : Nat := 0x40000010
def F.SYSCTL_PWR_KEY : Fld := ⟨R.SYSCTL_PWR, 15, 8⟩
def F.SYSCTL_PWR_REFUSED : Fld := ⟨R.SYSCTL_PWR, 7, 7⟩
def F.SYSCTL_PWR_BUSY : Fld := ⟨R.SYSCTL_PWR, 6, 6⟩
def F.SYSCTL_PWR_STATE : Fld := ⟨R.SYSCTL_PWR, 5, 3⟩
def F.SYSCTL_PWR_REQ : Fld := ⟨R.SYSCTL_PWR, 2, 0⟩
/-- AON_PSTATE (R99). -/
def R.AON_PSTATE : Nat := 0x50000000
def F.AON_PSTATE_START_COUNT : Fld := ⟨R.AON_PSTATE, 31, 16⟩
def F.AON_PSTATE_CAUSE : Fld := ⟨R.AON_PSTATE, 11, 8⟩
def F.AON_PSTATE_KEEPER_LOST : Fld := ⟨R.AON_PSTATE, 7, 7⟩
def F.AON_PSTATE_KEEPER_ARMED : Fld := ⟨R.AON_PSTATE, 6, 6⟩
def F.AON_PSTATE_STATE : Fld := ⟨R.AON_PSTATE, 2, 0⟩
/-- AON_RTC_SEC (R100). -/
def R.AON_RTC_SEC : Nat := 0x50000004
def F.AON_RTC_SEC_SEC : Fld := ⟨R.AON_RTC_SEC, 31, 0⟩
/-- AON_RTC_SUB (R100). -/
def R.AON_RTC_SUB : Nat := 0x50000008
def F.AON_RTC_SUB_SUB : Fld := ⟨R.AON_RTC_SUB, 14, 0⟩
/-- DIE_LEAVE (R125). -/
def R.DIE_LEAVE (i : Nat) : Nat := 0x51000040 + 0x100000 * i
def F.DIE_LEAVE_EX_ENERGY (i : Nat) : Fld := ⟨R.DIE_LEAVE i, 31, 16⟩
def F.DIE_LEAVE_EX_PEAK (i : Nat) : Fld := ⟨R.DIE_LEAVE i, 15, 8⟩
def F.DIE_LEAVE_LEAD (i : Nat) : Fld := ⟨R.DIE_LEAVE i, 7, 0⟩
/-- TQ_CFG (R126). -/
def R.TQ_CFG (i : Nat) : Nat := 0x51002000 + 0x100000 * i
def F.TQ_CFG_QUOTA (i : Nat) : Fld := ⟨R.TQ_CFG i, 22, 16⟩
def F.TQ_CFG_LATE_TOL (i : Nat) : Fld := ⟨R.TQ_CFG i, 9, 0⟩
/-- TQ_STAT (R127). -/
def R.TQ_STAT (i : Nat) : Nat := 0x51002004 + 0x100000 * i
def F.TQ_STAT_DROPPED (i : Nat) : Fld := ⟨R.TQ_STAT i, 31, 16⟩
def F.TQ_STAT_HWM (i : Nat) : Fld := ⟨R.TQ_STAT i, 14, 8⟩
def F.TQ_STAT_USED (i : Nat) : Fld := ⟨R.TQ_STAT i, 6, 0⟩
/-- PG_PERIOD (R128). -/
def R.PG_PERIOD (i : Nat) (j : Nat) : Nat := 0x51003000 + 0x100000 * i + 0x10 * j
def F.PG_PERIOD_PERIOD (i : Nat) (j : Nat) : Fld := ⟨R.PG_PERIOD i j, 22, 0⟩
/-- PG_ANCHOR (R129). -/
def R.PG_ANCHOR (i : Nat) (j : Nat) : Nat := 0x51003004 + 0x100000 * i + 0x10 * j
def F.PG_ANCHOR_ANCHOR (i : Nat) (j : Nat) : Fld := ⟨R.PG_ANCHOR i j, 31, 0⟩
/-- PG_CTL (R130). -/
def R.PG_CTL (i : Nat) (j : Nat) : Nat := 0x51003008 + 0x100000 * i + 0x10 * j
def F.PG_CTL_USERS (i : Nat) (j : Nat) : Fld := ⟨R.PG_CTL i j, 20, 16⟩
def F.PG_CTL_WR_IGN (i : Nat) (j : Nat) : Fld := ⟨R.PG_CTL i j, 8, 8⟩
def F.PG_CTL_ANCHOR_EP (i : Nat) (j : Nat) : Fld := ⟨R.PG_CTL i j, 0, 0⟩
/-- CH_CMD (R131). -/
def R.CH_CMD (k : Nat) : Nat := 0x51001000 + 0x100000 * (k / 16) + 0x100 * (k % 16)
def F.CH_CMD_DUTY (k : Nat) : Fld := ⟨R.CH_CMD k, 27, 16⟩
def F.CH_CMD_OP (k : Nat) : Fld := ⟨R.CH_CMD k, 3, 0⟩
/-- CH_TCMD_TIME (R132). -/
def R.CH_TCMD_TIME (k : Nat) : Nat := 0x51001004 + 0x100000 * (k / 16) + 0x100 * (k % 16)
def F.CH_TCMD_TIME_TIME (k : Nat) : Fld := ⟨R.CH_TCMD_TIME k, 31, 0⟩
/-- CH_TCMD (R133). -/
def R.CH_TCMD (k : Nat) : Nat := 0x51001008 + 0x100000 * (k / 16) + 0x100 * (k % 16)
def F.CH_TCMD_EP (k : Nat) : Fld := ⟨R.CH_TCMD k, 31, 31⟩
def F.CH_TCMD_DUTY (k : Nat) : Fld := ⟨R.CH_TCMD k, 27, 16⟩
def F.CH_TCMD_OP (k : Nat) : Fld := ⟨R.CH_TCMD k, 3, 0⟩
/-- CH_ADOPT (R134). -/
def R.CH_ADOPT (k : Nat) : Nat := 0x5100100c + 0x100000 * (k / 16) + 0x100 * (k % 16)
def F.CH_ADOPT_TAG (k : Nat) : Fld := ⟨R.CH_ADOPT k, 31, 20⟩
def F.CH_ADOPT_MODE (k : Nat) : Fld := ⟨R.CH_ADOPT k, 10, 8⟩
/-- CH_STAT (R135). -/
def R.CH_STAT (k : Nat) : Nat := 0x51001010 + 0x100000 * (k / 16) + 0x100 * (k % 16)
def F.CH_STAT_TAG (k : Nat) : Fld := ⟨R.CH_STAT k, 31, 20⟩
def F.CH_STAT_OFF_REASON (k : Nat) : Fld := ⟨R.CH_STAT k, 19, 16⟩
def F.CH_STAT_ADOPTED (k : Nat) : Fld := ⟨R.CH_STAT k, 15, 15⟩
def F.CH_STAT_LATCH (k : Nat) : Fld := ⟨R.CH_STAT k, 14, 14⟩
def F.CH_STAT_BANK_LOW (k : Nat) : Fld := ⟨R.CH_STAT k, 13, 13⟩
def F.CH_STAT_CHG_FAIL (k : Nat) : Fld := ⟨R.CH_STAT k, 12, 12⟩
def F.CH_STAT_OUT (k : Nat) : Fld := ⟨R.CH_STAT k, 11, 11⟩
def F.CH_STAT_MODE (k : Nat) : Fld := ⟨R.CH_STAT k, 10, 8⟩
def F.CH_STAT_LEAD (k : Nat) : Fld := ⟨R.CH_STAT k, 7, 7⟩
def F.CH_STAT_GANG (k : Nat) : Fld := ⟨R.CH_STAT k, 6, 4⟩
def F.CH_STAT_SLEEP_HOLD (k : Nat) : Fld := ⟨R.CH_STAT k, 3, 3⟩
def F.CH_STAT_LIMP_ALLOWED (k : Nat) : Fld := ⟨R.CH_STAT k, 2, 2⟩
def F.CH_STAT_POLICY (k : Nat) : Fld := ⟨R.CH_STAT k, 1, 0⟩
/-- CH_CMD_STAT (R137). -/
def R.CH_CMD_STAT (k : Nat) : Nat := 0x51001014 + 0x100000 * (k / 16) + 0x100 * (k % 16)
def F.CH_CMD_STAT_TQ_USED (k : Nat) : Fld := ⟨R.CH_CMD_STAT k, 14, 8⟩
def F.CH_CMD_STAT_TRESULT (k : Nat) : Fld := ⟨R.CH_CMD_STAT k, 7, 4⟩
def F.CH_CMD_STAT_RESULT (k : Nat) : Fld := ⟨R.CH_CMD_STAT k, 3, 0⟩
/-- CH_CFG (R138). -/
def R.CH_CFG (k : Nat) : Nat := 0x51001018 + 0x100000 * (k / 16) + 0x100 * (k % 16)
def F.CH_CFG_PG (k : Nat) : Fld := ⟨R.CH_CFG k, 5, 4⟩
/-- CH_CAP (R139). -/
def R.CH_CAP (k : Nat) : Nat := 0x5100101c + 0x100000 * (k / 16) + 0x100 * (k % 16)
def F.CH_CAP_TMAX (k : Nat) : Fld := ⟨R.CH_CAP k, 13, 8⟩
def F.CH_CAP_ILIM (k : Nat) : Fld := ⟨R.CH_CAP k, 5, 0⟩
/-- CH_INRUSH (R140). -/
def R.CH_INRUSH (k : Nat) : Nat := 0x51001020 + 0x100000 * (k / 16) + 0x100 * (k % 16)
def F.CH_INRUSH_ENERGY (k : Nat) : Fld := ⟨R.CH_INRUSH k, 23, 8⟩
def F.CH_INRUSH_PEAK (k : Nat) : Fld := ⟨R.CH_INRUSH k, 7, 0⟩
/-- CH_PHASE (R141). -/
def R.CH_PHASE (k : Nat) : Nat := 0x51001024 + 0x100000 * (k / 16) + 0x100 * (k % 16)
def F.CH_PHASE_PHASE (k : Nat) : Fld := ⟨R.CH_PHASE k, 22, 0⟩
/-- CH_DUTY (R142). -/
def R.CH_DUTY (k : Nat) : Nat := 0x51001028 + 0x100000 * (k / 16) + 0x100 * (k % 16)
def F.CH_DUTY_NEXT (k : Nat) : Fld := ⟨R.CH_DUTY k, 27, 16⟩
def F.CH_DUTY_CUR (k : Nat) : Fld := ⟨R.CH_DUTY k, 11, 0⟩
/-- CH_EVT (R143). -/
def R.CH_EVT (k : Nat) : Nat := 0x5100102c + 0x100000 * (k / 16) + 0x100 * (k % 16)
/-- CH_IEN (R144). -/
def R.CH_IEN (k : Nat) : Nat := 0x51001030 + 0x100000 * (k / 16) + 0x100 * (k % 16)
def F.CH_IEN_EN (k : Nat) : Fld := ⟨R.CH_IEN k, 6, 0⟩
/-- CH_TRIP (R168). -/
def R.CH_TRIP (k : Nat) : Nat := 0x51001040 + 0x100000 * (k / 16) + 0x100 * (k % 16)
def F.CH_TRIP_DOC_TIME (k : Nat) : Fld := ⟨R.CH_TRIP k, 23, 16⟩
def F.CH_TRIP_DOC_THR (k : Nat) : Fld := ⟨R.CH_TRIP k, 15, 8⟩
def F.CH_TRIP_SC_THR (k : Nat) : Fld := ⟨R.CH_TRIP k, 4, 0⟩
/-- CH_OT (R169). -/
def R.CH_OT (k : Nat) : Nat := 0x51001044 + 0x100000 * (k / 16) + 0x100 * (k % 16)
def F.CH_OT_QUIET (k : Nat) : Fld := ⟨R.CH_OT k, 31, 24⟩
def F.CH_OT_RETRY_MAX (k : Nat) : Fld := ⟨R.CH_OT k, 21, 16⟩
def F.CH_OT_HYST (k : Nat) : Fld := ⟨R.CH_OT k, 13, 8⟩
def F.CH_OT_OT_MODE (k : Nat) : Fld := ⟨R.CH_OT k, 0, 0⟩
/-- CH_WM_RES (R170). -/
def R.CH_WM_RES (k : Nat) : Nat := 0x51001048 + 0x100000 * (k / 16) + 0x100 * (k % 16)
def F.CH_WM_RES_EN (k : Nat) : Fld := ⟨R.CH_WM_RES k, 31, 31⟩
def F.CH_WM_RES_ALPHA (k : Nat) : Fld := ⟨R.CH_WM_RES k, 27, 16⟩
def F.CH_WM_RES_RES20 (k : Nat) : Fld := ⟨R.CH_WM_RES k, 15, 0⟩
/-- CH_WM_TH (R171). -/
def R.CH_WM_TH (k : Nat) : Nat := 0x5100104c + 0x100000 * (k / 16) + 0x100 * (k % 16)
def F.CH_WM_TH_CTH (k : Nat) : Fld := ⟨R.CH_WM_TH k, 31, 16⟩
def F.CH_WM_TH_RTH (k : Nat) : Fld := ⟨R.CH_WM_TH k, 15, 0⟩
/-- CH_WM_LIM (R172). -/
def R.CH_WM_LIM (k : Nat) : Nat := 0x51001050 + 0x100000 * (k / 16) + 0x100 * (k % 16)
def F.CH_WM_LIM_REARM (k : Nat) : Fld := ⟨R.CH_WM_LIM k, 15, 8⟩
def F.CH_WM_LIM_TRIP (k : Nat) : Fld := ⟨R.CH_WM_LIM k, 7, 0⟩
/-- CH_WM_THETA (R173). -/
def R.CH_WM_THETA (k : Nat) : Nat := 0x51001054 + 0x100000 * (k / 16) + 0x100 * (k % 16)
def F.CH_WM_THETA_THETA (k : Nat) : Fld := ⟨R.CH_WM_THETA k, 15, 0⟩
/-- CH_OL (R174). -/
def R.CH_OL (k : Nat) : Nat := 0x51001058 + 0x100000 * (k / 16) + 0x100 * (k % 16)
def F.CH_OL_ON_TIME (k : Nat) : Fld := ⟨R.CH_OL k, 23, 16⟩
def F.CH_OL_OFF_THR (k : Nat) : Fld := ⟨R.CH_OL k, 27, 24⟩
def F.CH_OL_ON_THR (k : Nat) : Fld := ⟨R.CH_OL k, 15, 8⟩
def F.CH_OL_OFF_EN (k : Nat) : Fld := ⟨R.CH_OL k, 1, 1⟩
def F.CH_OL_ON_EN (k : Nat) : Fld := ⟨R.CH_OL k, 0, 0⟩
/-- CH_PROT_STAT (R175). -/
def R.CH_PROT_STAT (k : Nat) : Nat := 0x5100105c + 0x100000 * (k / 16) + 0x100 * (k % 16)
def F.CH_PROT_STAT_TJ (k : Nat) : Fld := ⟨R.CH_PROT_STAT k, 31, 24⟩
def F.CH_PROT_STAT_RETRY_CNT (k : Nat) : Fld := ⟨R.CH_PROT_STAT k, 21, 16⟩
def F.CH_PROT_STAT_PEND (k : Nat) : Fld := ⟨R.CH_PROT_STAT k, 9, 8⟩
def F.CH_PROT_STAT_OL_OFF (k : Nat) : Fld := ⟨R.CH_PROT_STAT k, 4, 4⟩
def F.CH_PROT_STAT_OL_ON (k : Nat) : Fld := ⟨R.CH_PROT_STAT k, 3, 3⟩
def F.CH_PROT_STAT_WM_ABOVE (k : Nat) : Fld := ⟨R.CH_PROT_STAT k, 2, 2⟩
def F.CH_PROT_STAT_HOT (k : Nat) : Fld := ⟨R.CH_PROT_STAT k, 1, 1⟩
/-- CH_PROT_EVT (R176). -/
def R.CH_PROT_EVT (k : Nat) : Nat := 0x51001060 + 0x100000 * (k / 16) + 0x100 * (k % 16)
def F.CH_PROT_EVT_CLR_REF (k : Nat) : Fld := ⟨R.CH_PROT_EVT k, 7, 7⟩
def F.CH_PROT_EVT_RESTART (k : Nat) : Fld := ⟨R.CH_PROT_EVT k, 6, 6⟩
def F.CH_PROT_EVT_OL_OFF (k : Nat) : Fld := ⟨R.CH_PROT_EVT k, 5, 5⟩
def F.CH_PROT_EVT_OL_ON (k : Nat) : Fld := ⟨R.CH_PROT_EVT k, 4, 4⟩
def F.CH_PROT_EVT_DOC (k : Nat) : Fld := ⟨R.CH_PROT_EVT k, 3, 3⟩
def F.CH_PROT_EVT_WM (k : Nat) : Fld := ⟨R.CH_PROT_EVT k, 2, 2⟩
def F.CH_PROT_EVT_OT (k : Nat) : Fld := ⟨R.CH_PROT_EVT k, 1, 1⟩
def F.CH_PROT_EVT_SC (k : Nat) : Fld := ⟨R.CH_PROT_EVT k, 0, 0⟩
/-- CH_PROT_CLR (R177). -/
def R.CH_PROT_CLR (k : Nat) : Nat := 0x51001064 + 0x100000 * (k / 16) + 0x100 * (k % 16)
def F.CH_PROT_CLR_RETRY (k : Nat) : Fld := ⟨R.CH_PROT_CLR k, 1, 1⟩
def F.CH_PROT_CLR_LATCH (k : Nat) : Fld := ⟨R.CH_PROT_CLR k, 0, 0⟩
/-- DIE_BANK (R178). -/
def R.DIE_BANK (i : Nat) : Nat := 0x51000044 + 0x100000 * i
def F.DIE_BANK_BANK_LOW (i : Nat) : Fld := ⟨R.DIE_BANK i, 15, 15⟩
def F.DIE_BANK_RESUME (i : Nat) : Fld := ⟨R.DIE_BANK i, 12, 12⟩
def F.DIE_BANK_HYST (i : Nat) : Fld := ⟨R.DIE_BANK i, 11, 8⟩
def F.DIE_BANK_UV (i : Nat) : Fld := ⟨R.DIE_BANK i, 7, 0⟩
/-- DIE_PSTAT (R179). -/
def R.DIE_PSTAT (i : Nat) : Nat := 0x51000048 + 0x100000 * i
def F.DIE_PSTAT_DIE_TJ (i : Nat) : Fld := ⟨R.DIE_PSTAT i, 31, 24⟩
def F.DIE_PSTAT_HALT (i : Nat) : Fld := ⟨R.DIE_PSTAT i, 8, 8⟩
def F.DIE_PSTAT_WDG_COUNT (i : Nat) : Fld := ⟨R.DIE_PSTAT i, 7, 0⟩
/-- WM_AMB (R180). -/
def R.WM_AMB (i : Nat) : Nat := 0x51004000 + 0x100000 * i
def F.WM_AMB_STALE (i : Nat) : Fld := ⟨R.WM_AMB i, 31, 31⟩
def F.WM_AMB_TMO (i : Nat) : Fld := ⟨R.WM_AMB i, 23, 16⟩
def F.WM_AMB_FS_AMB (i : Nat) : Fld := ⟨R.WM_AMB i, 15, 8⟩
def F.WM_AMB_AMB (i : Nat) : Fld := ⟨R.WM_AMB i, 7, 0⟩
/-- KP_STAT (R181). -/
def R.KP_STAT (i : Nat) : Nat := 0x51005000 + 0x100000 * i
def F.KP_STAT_DROPPED (i : Nat) : Fld := ⟨R.KP_STAT i, 22, 16⟩
def F.KP_STAT_LOSSES (i : Nat) : Fld := ⟨R.KP_STAT i, 15, 8⟩
def F.KP_STAT_LOST (i : Nat) : Fld := ⟨R.KP_STAT i, 0, 0⟩
/-- KEEP_ALIVE (R182). -/
def R.KEEP_ALIVE : Nat := 0x50070000
def F.KEEP_ALIVE_KEY : Fld := ⟨R.KEEP_ALIVE, 7, 0⟩
/-- KEEP_TMO (R183). -/
def R.KEEP_TMO : Nat := 0x50070004
def F.KEEP_TMO_TMO : Fld := ⟨R.KEEP_TMO, 6, 0⟩
/-- CH_SAMP (R203). -/
def R.CH_SAMP (k : Nat) : Nat := 0x51001080 + 0x100000 * (k / 16) + 0x100 * (k % 16)
def F.CH_SAMP_I (k : Nat) : Fld := ⟨R.CH_SAMP k, 31, 16⟩
def F.CH_SAMP_V (k : Nat) : Fld := ⟨R.CH_SAMP k, 15, 0⟩
/-- CH_WCFG (R204). -/
def R.CH_WCFG (k : Nat) : Nat := 0x51001084 + 0x100000 * (k / 16) + 0x100 * (k % 16)
def F.CH_WCFG_SRC (k : Nat) : Fld := ⟨R.CH_WCFG k, 16, 16⟩
def F.CH_WCFG_WLEN (k : Nat) : Fld := ⟨R.CH_WCFG k, 15, 0⟩
/-- CH_WIN_I (R205). -/
def R.CH_WIN_I (k : Nat) : Nat := 0x51001088 + 0x100000 * (k / 16) + 0x100 * (k % 16)
def F.CH_WIN_I_MAX (k : Nat) : Fld := ⟨R.CH_WIN_I k, 31, 16⟩
def F.CH_WIN_I_MIN (k : Nat) : Fld := ⟨R.CH_WIN_I k, 15, 0⟩
/-- CH_WIN_M (R206). -/
def R.CH_WIN_M (k : Nat) : Nat := 0x5100108c + 0x100000 * (k / 16) + 0x100 * (k % 16)
def F.CH_WIN_M_RMS (k : Nat) : Fld := ⟨R.CH_WIN_M k, 31, 16⟩
def F.CH_WIN_M_MEAN (k : Nat) : Fld := ⟨R.CH_WIN_M k, 15, 0⟩
/-- CH_WIN_V (R207). -/
def R.CH_WIN_V (k : Nat) : Nat := 0x51001090 + 0x100000 * (k / 16) + 0x100 * (k % 16)
def F.CH_WIN_V_VMIN (k : Nat) : Fld := ⟨R.CH_WIN_V k, 31, 16⟩
def F.CH_WIN_V_VMEAN (k : Nat) : Fld := ⟨R.CH_WIN_V k, 15, 0⟩
/-- CH_WIN_SEQ (R208). -/
def R.CH_WIN_SEQ (k : Nat) : Nat := 0x51001094 + 0x100000 * (k / 16) + 0x100 * (k % 16)
def F.CH_WIN_SEQ_SEQ (k : Nat) : Fld := ⟨R.CH_WIN_SEQ k, 31, 16⟩
def F.CH_WIN_SEQ_VNONE (k : Nat) : Fld := ⟨R.CH_WIN_SEQ k, 4, 4⟩
def F.CH_WIN_SEQ_SHORT (k : Nat) : Fld := ⟨R.CH_WIN_SEQ k, 3, 3⟩
def F.CH_WIN_SEQ_GROUP (k : Nat) : Fld := ⟨R.CH_WIN_SEQ k, 2, 2⟩
def F.CH_WIN_SEQ_V_SAT (k : Nat) : Fld := ⟨R.CH_WIN_SEQ k, 1, 1⟩
def F.CH_WIN_SEQ_I_SAT (k : Nat) : Fld := ⟨R.CH_WIN_SEQ k, 0, 0⟩
/-- CH_CAL (R209). -/
def R.CH_CAL (k : Nat) : Nat := 0x51001098 + 0x100000 * (k / 16) + 0x100 * (k % 16)
def F.CH_CAL_GAIN (k : Nat) : Fld := ⟨R.CH_CAL k, 31, 16⟩
def F.CH_CAL_OFFSET (k : Nat) : Fld := ⟨R.CH_CAL k, 15, 0⟩
/-- CH_E_LO (R210). -/
def R.CH_E_LO (k : Nat) : Nat := 0x5100109c + 0x100000 * (k / 16) + 0x100 * (k % 16)
def F.CH_E_LO_E_LO (k : Nat) : Fld := ⟨R.CH_E_LO k, 31, 0⟩
/-- CH_E_HI (R210). -/
def R.CH_E_HI (k : Nat) : Nat := 0x510010a0 + 0x100000 * (k / 16) + 0x100 * (k % 16)
def F.CH_E_HI_E_HI (k : Nat) : Fld := ⟨R.CH_E_HI k, 31, 0⟩
/-- CH_ESH_LO (R211). -/
def R.CH_ESH_LO (k : Nat) : Nat := 0x510010a4 + 0x100000 * (k / 16) + 0x100 * (k % 16)
def F.CH_ESH_LO_ESH_LO (k : Nat) : Fld := ⟨R.CH_ESH_LO k, 31, 0⟩
/-- CH_ESH_HI (R211). -/
def R.CH_ESH_HI (k : Nat) : Nat := 0x510010a8 + 0x100000 * (k / 16) + 0x100 * (k % 16)
def F.CH_ESH_HI_ESH_HI (k : Nat) : Fld := ⟨R.CH_ESH_HI k, 31, 0⟩
/-- CH_ESH_TAG (R212). -/
def R.CH_ESH_TAG (k : Nat) : Nat := 0x510010ac + 0x100000 * (k / 16) + 0x100 * (k % 16)
def F.CH_ESH_TAG_STALE (k : Nat) : Fld := ⟨R.CH_ESH_TAG k, 31, 31⟩
def F.CH_ESH_TAG_SEQ (k : Nat) : Fld := ⟨R.CH_ESH_TAG k, 15, 0⟩
/-- CH_MCTL (R213). -/
def R.CH_MCTL (k : Nat) : Nat := 0x510010b0 + 0x100000 * (k / 16) + 0x100 * (k % 16)
def F.CH_MCTL_ECLR (k : Nat) : Fld := ⟨R.CH_MCTL k, 0, 0⟩
/-- DIE_MEAS (R214). -/
def R.DIE_MEAS (i : Nat) : Nat := 0x5100004c + 0x100000 * i
def F.DIE_MEAS_CAL_BAD (i : Nat) : Fld := ⟨R.DIE_MEAS i, 31, 31⟩
def F.DIE_MEAS_PHASE (i : Nat) : Fld := ⟨R.DIE_MEAS i, 11, 0⟩
/-- DI_GCFG (R215). -/
def R.DI_GCFG : Nat := 0x50030000
def F.DI_GCFG_IGN : Fld := ⟨R.DI_GCFG, 31, 26⟩
def F.DI_GCFG_IGN_EN : Fld := ⟨R.DI_GCFG, 25, 25⟩
def F.DI_GCFG_STORM_K : Fld := ⟨R.DI_GCFG, 23, 20⟩
def F.DI_GCFG_STORM_T : Fld := ⟨R.DI_GCFG, 19, 12⟩
def F.DI_GCFG_STUCK_T : Fld := ⟨R.DI_GCFG, 11, 4⟩
def F.DI_GCFG_POLL : Fld := ⟨R.DI_GCFG, 3, 0⟩
/-- DI_LVL (R216). -/
def R.DI_LVL (i : Nat) : Nat := 0x50030004 + 0x4 * i
/-- DI_CFG (R217). -/
def R.DI_CFG (i : Nat) : Nat := 0x50030100 + 0x20 * i
def F.DI_CFG_WAKE_EN (i : Nat) : Fld := ⟨R.DI_CFG i, 31, 31⟩
def F.DI_CFG_WAKE_EDGE (i : Nat) : Fld := ⟨R.DI_CFG i, 30, 29⟩
def F.DI_CFG_POL (i : Nat) : Fld := ⟨R.DI_CFG i, 28, 28⟩
def F.DI_CFG_THR_H (i : Nat) : Fld := ⟨R.DI_CFG i, 23, 16⟩
def F.DI_CFG_THR_L (i : Nat) : Fld := ⟨R.DI_CFG i, 15, 8⟩
def F.DI_CFG_RANGE (i : Nat) : Fld := ⟨R.DI_CFG i, 2, 2⟩
def F.DI_CFG_MODE (i : Nat) : Fld := ⟨R.DI_CFG i, 1, 0⟩
/-- DI_FILT (R218). -/
def R.DI_FILT (i : Nat) : Nat := 0x50030104 + 0x20 * i
def F.DI_FILT_CHAT_N (i : Nat) : Fld := ⟨R.DI_FILT i, 31, 24⟩
def F.DI_FILT_CHAT_W (i : Nat) : Fld := ⟨R.DI_FILT i, 23, 16⟩
def F.DI_FILT_DEB (i : Nat) : Fld := ⟨R.DI_FILT i, 9, 0⟩
/-- DI_STAT (R219). -/
def R.DI_STAT (i : Nat) : Nat := 0x50030108 + 0x20 * i
def F.DI_STAT_ANA (i : Nat) : Fld := ⟨R.DI_STAT i, 31, 20⟩
def F.DI_STAT_STORM_CNT (i : Nat) : Fld := ⟨R.DI_STAT i, 19, 16⟩
def F.DI_STAT_TS_EP (i : Nat) : Fld := ⟨R.DI_STAT i, 7, 7⟩
def F.DI_STAT_TS_VALID (i : Nat) : Fld := ⟨R.DI_STAT i, 5, 5⟩
def F.DI_STAT_ANA_OVR (i : Nat) : Fld := ⟨R.DI_STAT i, 4, 4⟩
def F.DI_STAT_WAKE_DIS (i : Nat) : Fld := ⟨R.DI_STAT i, 3, 3⟩
def F.DI_STAT_STUCK (i : Nat) : Fld := ⟨R.DI_STAT i, 2, 2⟩
def F.DI_STAT_CHATTER (i : Nat) : Fld := ⟨R.DI_STAT i, 1, 1⟩
def F.DI_STAT_LEVEL (i : Nat) : Fld := ⟨R.DI_STAT i, 0, 0⟩
/-- DI_EVT (R220). -/
def R.DI_EVT (i : Nat) : Nat := 0x5003010c + 0x20 * i
def F.DI_EVT_IEN (i : Nat) : Fld := ⟨R.DI_EVT i, 22, 16⟩
/-- DI_TS (R221). -/
def R.DI_TS (i : Nat) : Nat := 0x50030110 + 0x20 * i
def F.DI_TS_TS (i : Nat) : Fld := ⟨R.DI_TS i, 31, 0⟩
/-- WBG_LIM (R250). -/
def R.WBG_LIM : Nat := 0x40100000
def F.WBG_LIM_COND : Fld := ⟨R.WBG_LIM, 31, 24⟩
def F.WBG_LIM_FL : Fld := ⟨R.WBG_LIM, 23, 16⟩
def F.WBG_LIM_UH : Fld := ⟨R.WBG_LIM, 15, 8⟩
def F.WBG_LIM_KC : Fld := ⟨R.WBG_LIM, 7, 0⟩
/-- WBG_THERM (R251). -/
def R.WBG_THERM : Nat := 0x40100004
def F.WBG_THERM_BF_TLIM : Fld := ⟨R.WBG_THERM, 31, 24⟩
def F.WBG_THERM_KC_TLIM : Fld := ⟨R.WBG_THERM, 23, 16⟩
def F.WBG_THERM_LID_ZERO : Fld := ⟨R.WBG_THERM, 15, 8⟩
def F.WBG_THERM_LID_KNEE : Fld := ⟨R.WBG_THERM, 7, 0⟩
/-- WBG_ARB (R253). -/
def R.WBG_ARB : Nat := 0x4010000c
def F.WBG_ARB_BANK_PEAK : Fld := ⟨R.WBG_ARB, 31, 24⟩
def F.WBG_ARB_DEF_COMFORT : Fld := ⟨R.WBG_ARB, 23, 16⟩
def F.WBG_ARB_DEF_BODY : Fld := ⟨R.WBG_ARB, 15, 8⟩
def F.WBG_ARB_DEF_SAFETY : Fld := ⟨R.WBG_ARB, 7, 0⟩
/-- WBG_FPWR (R254). -/
def R.WBG_FPWR : Nat := 0x40100010
/-- WBG_ECLASS (R255). -/
def R.WBG_ECLASS (i : Nat) : Nat := 0x40100014 + 0x4 * i
/-- WBG_SB (R256). -/
def R.WBG_SB : Nat := 0x4010001c
def F.WBG_SB_WARN : Fld := ⟨R.WBG_SB, 31, 24⟩
def F.WBG_SB_BUDGET : Fld := ⟨R.WBG_SB, 23, 0⟩
/-- WBG_STAT (R257). -/
def R.WBG_STAT : Nat := 0x40100040
def F.WBG_STAT_DEFERRED : Fld := ⟨R.WBG_STAT, 22, 16⟩
def F.WBG_STAT_STARTED : Fld := ⟨R.WBG_STAT, 5, 5⟩
def F.WBG_STAT_COND_OVER : Fld := ⟨R.WBG_STAT, 4, 4⟩
def F.WBG_STAT_SB_EXH : Fld := ⟨R.WBG_STAT, 3, 3⟩
def F.WBG_STAT_HELD_LOW : Fld := ⟨R.WBG_STAT, 2, 2⟩
def F.WBG_STAT_STEP : Fld := ⟨R.WBG_STAT, 1, 0⟩
/-- WBG_HEAD (R258). -/
def R.WBG_HEAD : Nat := 0x40100044
def F.WBG_HEAD_COND : Fld := ⟨R.WBG_HEAD, 31, 16⟩
def F.WBG_HEAD_KC : Fld := ⟨R.WBG_HEAD, 15, 0⟩
/-- WBG_TEMP (R259). -/
def R.WBG_TEMP : Nat := 0x40100048
def F.WBG_TEMP_BF : Fld := ⟨R.WBG_TEMP, 31, 24⟩
def F.WBG_TEMP_LID : Fld := ⟨R.WBG_TEMP, 23, 16⟩
def F.WBG_TEMP_UH : Fld := ⟨R.WBG_TEMP, 15, 8⟩
def F.WBG_TEMP_KC : Fld := ⟨R.WBG_TEMP, 7, 0⟩
/-- WBG_SB_USED (R260). -/
def R.WBG_SB_USED : Nat := 0x4010004c
def F.WBG_SB_USED_USED : Fld := ⟨R.WBG_SB_USED, 31, 0⟩
/-- WBG_SLOT_REQ (R261). -/
def R.WBG_SLOT_REQ (i : Nat) : Nat := 0x40100100 + 0x10 * i
def F.WBG_SLOT_REQ_DP (i : Nat) : Fld := ⟨R.WBG_SLOT_REQ i, 31, 16⟩
def F.WBG_SLOT_REQ_STEP (i : Nat) : Fld := ⟨R.WBG_SLOT_REQ i, 9, 8⟩
def F.WBG_SLOT_REQ_KIND (i : Nat) : Fld := ⟨R.WBG_SLOT_REQ i, 3, 0⟩
/-- WBG_SLOT_STAT (R262). -/
def R.WBG_SLOT_STAT (i : Nat) : Nat := 0x40100104 + 0x10 * i
def F.WBG_SLOT_STAT_CTX (i : Nat) : Fld := ⟨R.WBG_SLOT_STAT i, 15, 8⟩
def F.WBG_SLOT_STAT_CLASS (i : Nat) : Fld := ⟨R.WBG_SLOT_STAT i, 5, 4⟩
def F.WBG_SLOT_STAT_STATE (i : Nat) : Fld := ⟨R.WBG_SLOT_STAT i, 2, 0⟩
/-- WBG_SLOT_REL (R263). -/
def R.WBG_SLOT_REL (i : Nat) : Nat := 0x40100108 + 0x10 * i
def F.WBG_SLOT_REL_REL (i : Nat) : Fld := ⟨R.WBG_SLOT_REL i, 0, 0⟩
/-- DISP_CTL (R264). -/
def R.DISP_CTL (i : Nat) : Nat := 0x40200000 + 0x100 * i
def F.DISP_CTL_EN (i : Nat) : Fld := ⟨R.DISP_CTL i, 0, 0⟩
/-- DISP_STAT (R265). -/
def R.DISP_STAT (i : Nat) : Nat := 0x40200004 + 0x100 * i
def F.DISP_STAT_RUN_IDX (i : Nat) : Fld := ⟨R.DISP_STAT i, 25, 16⟩
def F.DISP_STAT_RUNNING (i : Nat) : Fld := ⟨R.DISP_STAT i, 15, 15⟩
def F.DISP_STAT_PREEMPT_REQ (i : Nat) : Fld := ⟨R.DISP_STAT i, 14, 14⟩
def F.DISP_STAT_HELD (i : Nat) : Fld := ⟨R.DISP_STAT i, 13, 13⟩
def F.DISP_STAT_FORCED (i : Nat) : Fld := ⟨R.DISP_STAT i, 12, 12⟩
def F.DISP_STAT_WR_IGN (i : Nat) : Fld := ⟨R.DISP_STAT i, 11, 11⟩
def F.DISP_STAT_READY (i : Nat) : Fld := ⟨R.DISP_STAT i, 10, 0⟩
/-- DISP_END (R266). -/
def R.DISP_END (i : Nat) : Nat := 0x40200008 + 0x100 * i
def F.DISP_END_END (i : Nat) : Fld := ⟨R.DISP_END i, 0, 0⟩
/-- DISP_RELEASE (R267). -/
def R.DISP_RELEASE (i : Nat) : Nat := 0x4020000c + 0x100 * i
def F.DISP_RELEASE_IDX (i : Nat) : Fld := ⟨R.DISP_RELEASE i, 9, 0⟩
/-- DISP_CNT (R268). -/
def R.DISP_CNT (i : Nat) : Nat := 0x40200010 + 0x100 * i
def F.DISP_CNT_FORCED_CNT (i : Nat) : Fld := ⟨R.DISP_CNT i, 31, 16⟩
def F.DISP_CNT_OVERRUN (i : Nat) : Fld := ⟨R.DISP_CNT i, 15, 0⟩
/-- SWC_FAB_CTL (R300). -/
def R.SWC_FAB_CTL : Nat := 0x41000000
def F.SWC_FAB_CTL_EN : Fld := ⟨R.SWC_FAB_CTL, 16, 16⟩
def F.SWC_FAB_CTL_RSQ_TMO : Fld := ⟨R.SWC_FAB_CTL, 5, 0⟩
/-- SWC_BUF_CFG (R301). -/
def R.SWC_BUF_CFG : Nat := 0x41000004
def F.SWC_BUF_CFG_GLB_FLOOR : Fld := ⟨R.SWC_BUF_CFG, 17, 0⟩
/-- SWC_BUF_FREE (R302). -/
def R.SWC_BUF_FREE : Nat := 0x41000008
def F.SWC_BUF_FREE_FREE : Fld := ⟨R.SWC_BUF_FREE, 17, 0⟩
/-- SWC_VOQ_CFG (R303). -/
def R.SWC_VOQ_CFG : Nat := 0x4100000c
def F.SWC_VOQ_CFG_QUOTA : Fld := ⟨R.SWC_VOQ_CFG, 15, 0⟩
/-- SWC_VOQ_FREE (R304). -/
def R.SWC_VOQ_FREE : Nat := 0x41000010
def F.SWC_VOQ_FREE_FREE : Fld := ⟨R.SWC_VOQ_FREE, 15, 0⟩
/-- SWC_SA_CFG (R305). -/
def R.SWC_SA_CFG : Nat := 0x41000020
def F.SWC_SA_CFG_PERIOD : Fld := ⟨R.SWC_SA_CFG, 7, 0⟩
/-- SWC_SA_STAT (R306). -/
def R.SWC_SA_STAT : Nat := 0x41000024
def F.SWC_SA_STAT_RUNNING : Fld := ⟨R.SWC_SA_STAT, 31, 31⟩
def F.SWC_SA_STAT_OVERRUN : Fld := ⟨R.SWC_SA_STAT, 30, 30⟩
def F.SWC_SA_STAT_DURATION : Fld := ⟨R.SWC_SA_STAT, 15, 0⟩
/-- SWC_SA_CNT (R307). -/
def R.SWC_SA_CNT : Nat := 0x41000028
def F.SWC_SA_CNT_RECLAIMED : Fld := ⟨R.SWC_SA_CNT, 31, 16⟩
def F.SWC_SA_CNT_DOUBLE : Fld := ⟨R.SWC_SA_CNT, 15, 8⟩
def F.SWC_SA_CNT_REFFIX : Fld := ⟨R.SWC_SA_CNT, 7, 0⟩
/-- SWC_SA_PASS (R308). -/
def R.SWC_SA_PASS : Nat := 0x4100002c
def F.SWC_SA_PASS_PASSES : Fld := ⟨R.SWC_SA_PASS, 31, 0⟩
/-- SWC_FAB_ERR (R309). -/
def R.SWC_FAB_ERR : Nat := 0x41000030
def F.SWC_FAB_ERR_LINK_ERR : Fld := ⟨R.SWC_FAB_ERR, 31, 16⟩
def F.SWC_FAB_ERR_ECC_UNC : Fld := ⟨R.SWC_FAB_ERR, 15, 0⟩
/-- SWC_ECC_CORR (R310). -/
def R.SWC_ECC_CORR : Nat := 0x41000034
def F.SWC_ECC_CORR_CORR : Fld := ⟨R.SWC_ECC_CORR, 31, 0⟩
/-- SWC_BUF_DROP (R311). -/
def R.SWC_BUF_DROP : Nat := 0x41000038
def F.SWC_BUF_DROP_DROP : Fld := ⟨R.SWC_BUF_DROP, 31, 0⟩
/-- SWC_TALLY (R312). -/
def R.SWC_TALLY : Nat := 0x41000040
def F.SWC_TALLY_STALE : Fld := ⟨R.SWC_TALLY, 31, 31⟩
def F.SWC_TALLY_SEQ : Fld := ⟨R.SWC_TALLY, 15, 0⟩
/-- OQ_THR (R313). -/
def R.OQ_THR (i : Nat) : Nat := 0x41002000 + 0x200 * i
def F.OQ_THR_HI (i : Nat) : Fld := ⟨R.OQ_THR i, 27, 16⟩
def F.OQ_THR_LO (i : Nat) : Fld := ⟨R.OQ_THR i, 11, 0⟩
/-- OQ_STAT (R314). -/
def R.OQ_STAT (i : Nat) : Nat := 0x41002004 + 0x200 * i
def F.OQ_STAT_HOLD_HI (i : Nat) : Fld := ⟨R.OQ_STAT i, 31, 31⟩
def F.OQ_STAT_HOLD_GLB (i : Nat) : Fld := ⟨R.OQ_STAT i, 30, 30⟩
def F.OQ_STAT_USED (i : Nat) : Fld := ⟨R.OQ_STAT i, 17, 0⟩
/-- OQ_MC_PD (R315). -/
def R.OQ_MC_PD (i : Nat) : Nat := 0x41002008 + 0x200 * i
def F.OQ_MC_PD_MC_PARTIAL_DROP (i : Nat) : Fld := ⟨R.OQ_MC_PD i, 31, 0⟩
/-- OQ_RSQ (R316). -/
def R.OQ_RSQ (i : Nat) : Nat := 0x4100200c + 0x200 * i
def F.OQ_RSQ_LOST (i : Nat) : Fld := ⟨R.OQ_RSQ i, 31, 16⟩
def F.OQ_RSQ_LATE (i : Nat) : Fld := ⟨R.OQ_RSQ i, 15, 0⟩
/-- Q_CFG (R317). -/
def R.Q_CFG (i : Nat) (j : Nat) : Nat := 0x41002100 + 0x200 * i + 0x20 * j
def F.Q_CFG_MAXRES (i : Nat) (j : Nat) : Fld := ⟨R.Q_CFG i j, 23, 8⟩
def F.Q_CFG_GRACE (i : Nat) (j : Nat) : Fld := ⟨R.Q_CFG i j, 6, 0⟩
/-- Q_STAT (R318). -/
def R.Q_STAT (i : Nat) (j : Nat) : Nat := 0x41002104 + 0x200 * i + 0x20 * j
def F.Q_STAT_DOWN (i : Nat) (j : Nat) : Fld := ⟨R.Q_STAT i j, 31, 31⟩
def F.Q_STAT_GRACE_RUN (i : Nat) (j : Nat) : Fld := ⟨R.Q_STAT i j, 30, 30⟩
def F.Q_STAT_PAUSED (i : Nat) (j : Nat) : Fld := ⟨R.Q_STAT i j, 29, 29⟩
def F.Q_STAT_HOLD (i : Nat) (j : Nat) : Fld := ⟨R.Q_STAT i j, 28, 28⟩
def F.Q_STAT_VOQ_BUSY (i : Nat) (j : Nat) : Fld := ⟨R.Q_STAT i j, 27, 27⟩
def F.Q_STAT_CELLS (i : Nat) (j : Nat) : Fld := ⟨R.Q_STAT i j, 17, 0⟩
/-- Q_ENQ (R319). -/
def R.Q_ENQ (i : Nat) (j : Nat) : Nat := 0x41002108 + 0x200 * i + 0x20 * j
def F.Q_ENQ_ENQ (i : Nat) (j : Nat) : Fld := ⟨R.Q_ENQ i j, 31, 0⟩
/-- Q_RES_DROP (R319). -/
def R.Q_RES_DROP (i : Nat) (j : Nat) : Nat := 0x4100210c + 0x200 * i + 0x20 * j
def F.Q_RES_DROP_RES_DROP (i : Nat) (j : Nat) : Fld := ⟨R.Q_RES_DROP i j, 31, 0⟩
/-- Q_LD_FLUSH (R319). -/
def R.Q_LD_FLUSH (i : Nat) (j : Nat) : Nat := 0x41002110 + 0x200 * i + 0x20 * j
def F.Q_LD_FLUSH_LD_FLUSH (i : Nat) (j : Nat) : Fld := ⟨R.Q_LD_FLUSH i j, 31, 0⟩
/-- Q_LD_DROP (R319). -/
def R.Q_LD_DROP (i : Nat) (j : Nat) : Nat := 0x41002114 + 0x200 * i + 0x20 * j
def F.Q_LD_DROP_LD_DROP (i : Nat) (j : Nat) : Fld := ⟨R.Q_LD_DROP i j, 31, 0⟩
/-- IN_VOQ (R320). -/
def R.IN_VOQ (i : Nat) : Nat := 0x41008000 + 0x40 * i
def F.IN_VOQ_USED (i : Nat) : Fld := ⟨R.IN_VOQ i, 15, 0⟩
/-- IN_VOQ_DROP (R321). -/
def R.IN_VOQ_DROP (i : Nat) : Nat := 0x41008004 + 0x40 * i
def F.IN_VOQ_DROP_DROP (i : Nat) : Fld := ⟨R.IN_VOQ_DROP i, 31, 0⟩
/-- FWD_CTL (R359). -/
def R.FWD_CTL : Nat := 0x41100000
def F.FWD_CTL_TRAP_PORT : Fld := ⟨R.FWD_CTL, 20, 16⟩
def F.FWD_CTL_SEED : Fld := ⟨R.FWD_CTL, 12, 0⟩
/-- FWD_AGE (R360). -/
def R.FWD_AGE : Nat := 0x41100004
def F.FWD_AGE_AGE : Fld := ⟨R.FWD_AGE, 19, 0⟩
/-- CG_MAC_LO (R361). -/
def R.CG_MAC_LO : Nat := 0x41100008
def F.CG_MAC_LO_MAC_LO : Fld := ⟨R.CG_MAC_LO, 31, 0⟩
/-- CG_MAC_HI (R361). -/
def R.CG_MAC_HI : Nat := 0x4110000c
def F.CG_MAC_HI_MAC_HI : Fld := ⟨R.CG_MAC_HI, 15, 0⟩
/-- MAC_KEY_LO (R361). -/
def R.MAC_KEY_LO : Nat := 0x41100010
def F.MAC_KEY_LO_MAC : Fld := ⟨R.MAC_KEY_LO, 31, 0⟩
/-- MAC_KEY_HI (R361). -/
def R.MAC_KEY_HI : Nat := 0x41100014
def F.MAC_KEY_HI_FID : Fld := ⟨R.MAC_KEY_HI, 27, 16⟩
def F.MAC_KEY_HI_MAC : Fld := ⟨R.MAC_KEY_HI, 15, 0⟩
/-- MAC_DATA (R361). -/
def R.MAC_DATA : Nat := 0x41100018
/-- MAC_CMD (R361). -/
def R.MAC_CMD : Nat := 0x4110001c
def F.MAC_CMD_BUSY : Fld := ⟨R.MAC_CMD, 31, 31⟩
def F.MAC_CMD_RESULT : Fld := ⟨R.MAC_CMD, 27, 24⟩
def F.MAC_CMD_INDEX : Fld := ⟨R.MAC_CMD, 18, 4⟩
def F.MAC_CMD_OP : Fld := ⟨R.MAC_CMD, 3, 0⟩
/-- FWD_PORT (R362). -/
def R.FWD_PORT (i : Nat) : Nat := 0x41101000 + 0x40 * i
def F.FWD_PORT_LEARN_DIS (i : Nat) : Fld := ⟨R.FWD_PORT i, 19, 19⟩
def F.FWD_PORT_INGRESS_FILT (i : Nat) : Fld := ⟨R.FWD_PORT i, 18, 18⟩
def F.FWD_PORT_ACCEPT (i : Nat) : Fld := ⟨R.FWD_PORT i, 17, 16⟩
def F.FWD_PORT_DEF_PCP (i : Nat) : Fld := ⟨R.FWD_PORT i, 14, 12⟩
def F.FWD_PORT_PVID (i : Nat) : Fld := ⟨R.FWD_PORT i, 11, 0⟩
/-- FWD_TCMAP (R362). -/
def R.FWD_TCMAP (i : Nat) : Nat := 0x41101004 + 0x40 * i
def F.FWD_TCMAP_MAP (i : Nat) : Fld := ⟨R.FWD_TCMAP i, 23, 0⟩
/-- CBS_CFG (R363). -/
def R.CBS_CFG (i : Nat) (j : Nat) : Nat := 0x41190000 + 0x40 * i + 0x8 * j
def F.CBS_CFG_EN (i : Nat) (j : Nat) : Fld := ⟨R.CBS_CFG i j, 31, 31⟩
def F.CBS_CFG_IDLE_SLOPE (i : Nat) (j : Nat) : Fld := ⟨R.CBS_CFG i j, 23, 0⟩
/-- CBS_CREDIT (R363). -/
def R.CBS_CREDIT (i : Nat) (j : Nat) : Nat := 0x41190004 + 0x40 * i + 0x8 * j
def F.CBS_CREDIT_CREDIT (i : Nat) (j : Nat) : Fld := ⟨R.CBS_CREDIT i j, 31, 0⟩
/-- QBV_CTL (R364). -/
def R.QBV_CTL (i : Nat) : Nat := 0x411a0000 + 0x2000 * i
def F.QBV_CTL_CHANGE (i : Nat) : Fld := ⟨R.QBV_CTL i, 0, 0⟩
/-- QBV_STAT (R364). -/
def R.QBV_STAT (i : Nat) : Nat := 0x411a0004 + 0x2000 * i
def F.QBV_STAT_GATE_OVERRUN (i : Nat) : Fld := ⟨R.QBV_STAT i, 31, 16⟩
def F.QBV_STAT_ENTRY (i : Nat) : Fld := ⟨R.QBV_STAT i, 15, 8⟩
def F.QBV_STAT_CHG_ERR (i : Nat) : Fld := ⟨R.QBV_STAT i, 2, 2⟩
def F.QBV_STAT_PEND (i : Nat) : Fld := ⟨R.QBV_STAT i, 1, 1⟩
def F.QBV_STAT_RUN (i : Nat) : Fld := ⟨R.QBV_STAT i, 0, 0⟩
/-- CS_CFG (R365). -/
def R.CS_CFG (i : Nat) : Nat := 0x411e0000 + 0x20 * i
def F.CS_CFG_EN (i : Nat) : Fld := ⟨R.CS_CFG i, 31, 31⟩
def F.CS_CFG_TRUNC (i : Nat) : Fld := ⟨R.CS_CFG i, 30, 30⟩
def F.CS_CFG_TC (i : Nat) : Fld := ⟨R.CS_CFG i, 29, 27⟩
def F.CS_CFG_DST (i : Nat) : Fld := ⟨R.CS_CFG i, 26, 22⟩
def F.CS_CFG_KIND (i : Nat) : Fld := ⟨R.CS_CFG i, 19, 18⟩
def F.CS_CFG_SRC (i : Nat) : Fld := ⟨R.CS_CFG i, 11, 0⟩
/-- CS_N (R365). -/
def R.CS_N (i : Nat) : Nat := 0x411e0004 + 0x20 * i
def F.CS_N_N (i : Nat) : Fld := ⟨R.CS_N i, 15, 0⟩
/-- CS_CNT (R365). -/
def R.CS_CNT (i : Nat) : Nat := 0x411e0008 + 0x20 * i
def F.CS_CNT_COPIED (i : Nat) : Fld := ⟨R.CS_CNT i, 31, 16⟩
def F.CS_CNT_DROPPED (i : Nat) : Fld := ⟨R.CS_CNT i, 15, 0⟩
/-- VLAN_DROP (R366). -/
def R.VLAN_DROP : Nat := 0x41100100
def F.VLAN_DROP_VLAN_DROP : Fld := ⟨R.VLAN_DROP, 31, 0⟩
/-- LEARN_FAIL (R366). -/
def R.LEARN_FAIL : Nat := 0x41100104
def F.LEARN_FAIL_LEARN_FAIL : Fld := ⟨R.LEARN_FAIL, 31, 0⟩
/-- STATIC_MOVE (R366). -/
def R.STATIC_MOVE : Nat := 0x41100108
def F.STATIC_MOVE_STATIC_MOVE : Fld := ⟨R.STATIC_MOVE, 31, 0⟩
/-- SAME_PORT (R366). -/
def R.SAME_PORT : Nat := 0x4110010c
def F.SAME_PORT_SAME_PORT : Fld := ⟨R.SAME_PORT, 31, 0⟩
/-- NO_DEST (R366). -/
def R.NO_DEST : Nat := 0x41100110
def F.NO_DEST_NO_DEST : Fld := ⟨R.NO_DEST, 31, 0⟩
/-- FWD_TRAP (R366). -/
def R.FWD_TRAP : Nat := 0x41100114
def F.FWD_TRAP_TRAP : Fld := ⟨R.FWD_TRAP, 31, 0⟩
/-- RT_MISS (R366). -/
def R.RT_MISS : Nat := 0x41100118
def F.RT_MISS_RT_MISS : Fld := ⟨R.RT_MISS, 31, 0⟩
/-- RT_FMT (R366). -/
def R.RT_FMT : Nat := 0x4110011c
def F.RT_FMT_RT_FMT : Fld := ⟨R.RT_FMT, 31, 0⟩
/-- NTSCF_BAD (R366). -/
def R.NTSCF_BAD : Nat := 0x41100120
def F.NTSCF_BAD_NTSCF_BAD : Fld := ⟨R.NTSCF_BAD, 31, 0⟩
/-- RT_MC_PD (R366). -/
def R.RT_MC_PD (i : Nat) : Nat := 0x41100200 + 0x4 * i
def F.RT_MC_PD_MC_PARTIAL_DROP (i : Nat) : Fld := ⟨R.RT_MC_PD i, 31, 0⟩
/-- ETH_CTL (R390). -/
def R.ETH_CTL (i : Nat) : Nat := 0x42000000 + 0x10000 * i
def F.ETH_CTL_EN (i : Nat) : Fld := ⟨R.ETH_CTL i, 31, 31⟩
def F.ETH_CTL_CT_EN (i : Nat) : Fld := ⟨R.ETH_CTL i, 30, 30⟩
def F.ETH_CTL_HASH_EN (i : Nat) : Fld := ⟨R.ETH_CTL i, 29, 29⟩
def F.ETH_CTL_PRX_EN (i : Nat) : Fld := ⟨R.ETH_CTL i, 28, 28⟩
def F.ETH_CTL_PTX_EN (i : Nat) : Fld := ⟨R.ETH_CTL i, 27, 27⟩
def F.ETH_CTL_FCS_STRIP (i : Nat) : Fld := ⟨R.ETH_CTL i, 26, 26⟩
def F.ETH_CTL_MODE (i : Nat) : Fld := ⟨R.ETH_CTL i, 24, 22⟩
def F.ETH_CTL_MAX_LEN (i : Nat) : Fld := ⟨R.ETH_CTL i, 13, 0⟩
/-- ETH_STAT (R390). -/
def R.ETH_STAT (i : Nat) : Nat := 0x42000004 + 0x10000 * i
def F.ETH_STAT_LINK (i : Nat) : Fld := ⟨R.ETH_STAT i, 31, 31⟩
def F.ETH_STAT_STATE (i : Nat) : Fld := ⟨R.ETH_STAT i, 30, 28⟩
def F.ETH_STAT_PLCA (i : Nat) : Fld := ⟨R.ETH_STAT i, 27, 27⟩
def F.ETH_STAT_CT_THR (i : Nat) : Fld := ⟨R.ETH_STAT i, 15, 0⟩
/-- ETH_CT (R390). -/
def R.ETH_CT (i : Nat) : Nat := 0x42000008 + 0x10000 * i
def F.ETH_CT_CT_RESET (i : Nat) : Fld := ⟨R.ETH_CT i, 31, 31⟩
def F.ETH_CT_DECAY (i : Nat) : Fld := ⟨R.ETH_CT i, 15, 0⟩
/-- ETH_PAUSE (R390). -/
def R.ETH_PAUSE (i : Nat) : Nat := 0x4200000c + 0x10000 * i
def F.ETH_PAUSE_XOFF (i : Nat) : Fld := ⟨R.ETH_PAUSE i, 31, 16⟩
def F.ETH_PAUSE_XON (i : Nat) : Fld := ⟨R.ETH_PAUSE i, 15, 0⟩
/-- ETH_PTX (R390). -/
def R.ETH_PTX (i : Nat) : Nat := 0x42000010 + 0x10000 * i
def F.ETH_PTX_QUANTA (i : Nat) : Fld := ⟨R.ETH_PTX i, 31, 16⟩
def F.ETH_PTX_CLASSES (i : Nat) : Fld := ⟨R.ETH_PTX i, 15, 8⟩
def F.ETH_PTX_PMODE (i : Nat) : Fld := ⟨R.ETH_PTX i, 0, 0⟩
/-- ETH_HASH (R390). -/
def R.ETH_HASH (i : Nat) (j : Nat) : Nat := 0x42000020 + 0x10000 * i + 0x4 * j
/-- ETH_PLCA (R390). -/
def R.ETH_PLCA (i : Nat) : Nat := 0x42000060 + 0x10000 * i
def F.ETH_PLCA_EN (i : Nat) : Fld := ⟨R.ETH_PLCA i, 31, 31⟩
def F.ETH_PLCA_NODE_ID (i : Nat) : Fld := ⟨R.ETH_PLCA i, 26, 24⟩
def F.ETH_PLCA_NODES (i : Nat) : Fld := ⟨R.ETH_PLCA i, 19, 16⟩
def F.ETH_PLCA_TO_TMR (i : Nat) : Fld := ⟨R.ETH_PLCA i, 15, 8⟩
def F.ETH_PLCA_BURST (i : Nat) : Fld := ⟨R.ETH_PLCA i, 7, 0⟩
/-- ETH_TC10 (R390). -/
def R.ETH_TC10 (i : Nat) : Nat := 0x42000064 + 0x10000 * i
def F.ETH_TC10_SLEEP_REQ (i : Nat) : Fld := ⟨R.ETH_TC10 i, 31, 31⟩
def F.ETH_TC10_WAKE_REQ (i : Nat) : Fld := ⟨R.ETH_TC10 i, 30, 30⟩
def F.ETH_TC10_SLP_FAIL (i : Nat) : Fld := ⟨R.ETH_TC10 i, 3, 3⟩
def F.ETH_TC10_ACCEPT_RX (i : Nat) : Fld := ⟨R.ETH_TC10 i, 2, 2⟩
def F.ETH_TC10_FWD (i : Nat) : Fld := ⟨R.ETH_TC10 i, 1, 1⟩
def F.ETH_TC10_WAKE_EN (i : Nat) : Fld := ⟨R.ETH_TC10 i, 0, 0⟩
/-- ETH_PREEMPT (R390). -/
def R.ETH_PREEMPT (i : Nat) : Nat := 0x42000068 + 0x10000 * i
def F.ETH_PREEMPT_EN (i : Nat) : Fld := ⟨R.ETH_PREEMPT i, 31, 31⟩
def F.ETH_PREEMPT_VERIFY_DIS (i : Nat) : Fld := ⟨R.ETH_PREEMPT i, 30, 30⟩
def F.ETH_PREEMPT_ADD_FRAG (i : Nat) : Fld := ⟨R.ETH_PREEMPT i, 9, 8⟩
def F.ETH_PREEMPT_STATUS (i : Nat) : Fld := ⟨R.ETH_PREEMPT i, 1, 0⟩
/-- ETH_EVT (R390). -/
def R.ETH_EVT (i : Nat) : Nat := 0x42000070 + 0x10000 * i
def F.ETH_EVT_EVT (i : Nat) : Fld := ⟨R.ETH_EVT i, 5, 0⟩
/-- ETH_IEN (R390). -/
def R.ETH_IEN (i : Nat) : Nat := 0x42000074 + 0x10000 * i
/-- MSEC_CTL (R391). -/
def R.MSEC_CTL (i : Nat) : Nat := 0x42001000 + 0x10000 * i
def F.MSEC_CTL_TX_EN (i : Nat) : Fld := ⟨R.MSEC_CTL i, 31, 31⟩
def F.MSEC_CTL_RX_EN (i : Nat) : Fld := ⟨R.MSEC_CTL i, 30, 30⟩
def F.MSEC_CTL_VALIDATE (i : Nat) : Fld := ⟨R.MSEC_CTL i, 29, 28⟩
def F.MSEC_CTL_REPLAY (i : Nat) : Fld := ⟨R.MSEC_CTL i, 27, 27⟩
def F.MSEC_CTL_OFFSET (i : Nat) : Fld := ⟨R.MSEC_CTL i, 25, 24⟩
def F.MSEC_CTL_TX_AN (i : Nat) : Fld := ⟨R.MSEC_CTL i, 17, 16⟩
def F.MSEC_CTL_REPLAY_WIN (i : Nat) : Fld := ⟨R.MSEC_CTL i, 15, 0⟩
/-- MSEC_SCI_LO (R391). -/
def R.MSEC_SCI_LO (i : Nat) : Nat := 0x42001008 + 0x10000 * i
/-- MSEC_SCI_HI (R391). -/
def R.MSEC_SCI_HI (i : Nat) : Nat := 0x4200100c + 0x10000 * i
/-- HP_STEER (R393). -/
def R.HP_STEER (i : Nat) (j : Nat) : Nat := 0x421a4000 + 0x10000 * i + 0x4 * j
def F.HP_STEER_TCBITS (i : Nat) (j : Nat) : Fld := ⟨R.HP_STEER i j, 9, 8⟩
def F.HP_STEER_BASE (i : Nat) (j : Nat) : Fld := ⟨R.HP_STEER i j, 5, 0⟩
/-- QP_CTL (R393). -/
def R.QP_CTL (q : Nat) : Nat := 0x421a8000 + 0x10000 * (q / 64) + 0x100 * (q % 64)
def F.QP_CTL_EN (q : Nat) : Fld := ⟨R.QP_CTL q, 31, 31⟩
def F.QP_CTL_TX_SIZE (q : Nat) : Fld := ⟨R.QP_CTL q, 27, 24⟩
def F.QP_CTL_RX_SIZE (q : Nat) : Fld := ⟨R.QP_CTL q, 23, 20⟩
def F.QP_CTL_WEIGHT (q : Nat) : Fld := ⟨R.QP_CTL q, 15, 8⟩
def F.QP_CTL_LT_LEAD (q : Nat) : Fld := ⟨R.QP_CTL q, 7, 0⟩
/-- QP_TX_BASE_LO (R393). -/
def R.QP_TX_BASE_LO (q : Nat) : Nat := 0x421a8004 + 0x10000 * (q / 64) + 0x100 * (q % 64)
/-- QP_TX_BASE_HI (R393). -/
def R.QP_TX_BASE_HI (q : Nat) : Nat := 0x421a8008 + 0x10000 * (q / 64) + 0x100 * (q % 64)
/-- QP_TX_HEAD (R393). -/
def R.QP_TX_HEAD (q : Nat) : Nat := 0x421a800c + 0x10000 * (q / 64) + 0x100 * (q % 64)
def F.QP_TX_HEAD_HEAD (q : Nat) : Fld := ⟨R.QP_TX_HEAD q, 11, 0⟩
/-- QP_TX_TAIL (R393). -/
def R.QP_TX_TAIL (q : Nat) : Nat := 0x421a8010 + 0x10000 * (q / 64) + 0x100 * (q % 64)
def F.QP_TX_TAIL_TAIL (q : Nat) : Fld := ⟨R.QP_TX_TAIL q, 11, 0⟩
/-- QP_RX_BASE_LO (R393). -/
def R.QP_RX_BASE_LO (q : Nat) : Nat := 0x421a8014 + 0x10000 * (q / 64) + 0x100 * (q % 64)
/-- QP_RX_BASE_HI (R393). -/
def R.QP_RX_BASE_HI (q : Nat) : Nat := 0x421a8018 + 0x10000 * (q / 64) + 0x100 * (q % 64)
/-- QP_RX_HEAD (R393). -/
def R.QP_RX_HEAD (q : Nat) : Nat := 0x421a801c + 0x10000 * (q / 64) + 0x100 * (q % 64)
def F.QP_RX_HEAD_HEAD (q : Nat) : Fld := ⟨R.QP_RX_HEAD q, 11, 0⟩
/-- QP_RX_TAIL (R393). -/
def R.QP_RX_TAIL (q : Nat) : Nat := 0x421a8020 + 0x10000 * (q / 64) + 0x100 * (q % 64)
def F.QP_RX_TAIL_TAIL (q : Nat) : Fld := ⟨R.QP_RX_TAIL q, 11, 0⟩
/-- QP_IRQ (R393). -/
def R.QP_IRQ (q : Nat) : Nat := 0x421a8024 + 0x10000 * (q / 64) + 0x100 * (q % 64)
def F.QP_IRQ_COAL_N (q : Nat) : Fld := ⟨R.QP_IRQ q, 31, 24⟩
def F.QP_IRQ_COAL_US (q : Nat) : Fld := ⟨R.QP_IRQ q, 23, 12⟩
def F.QP_IRQ_IDENT (q : Nat) : Fld := ⟨R.QP_IRQ q, 10, 0⟩
/-- QP_STAT (R393). -/
def R.QP_STAT (q : Nat) : Nat := 0x421a8028 + 0x10000 * (q / 64) + 0x100 * (q % 64)
def F.QP_STAT_FETCH_ERR (q : Nat) : Fld := ⟨R.QP_STAT q, 1, 1⟩
def F.QP_STAT_STALLED (q : Nat) : Fld := ⟨R.QP_STAT q, 0, 0⟩
/-- QP_RXDROP (R393). -/
def R.QP_RXDROP (q : Nat) : Nat := 0x421a802c + 0x10000 * (q / 64) + 0x100 * (q % 64)
def F.QP_RXDROP_RXDROP (q : Nat) : Fld := ⟨R.QP_RXDROP q, 31, 0⟩
/-- QP_TXCNT (R393). -/
def R.QP_TXCNT (q : Nat) : Nat := 0x421a8030 + 0x10000 * (q / 64) + 0x100 * (q % 64)
def F.QP_TXCNT_TXCNT (q : Nat) : Fld := ⟨R.QP_TXCNT q, 31, 0⟩
/-- CAN_CTL (R420). -/
def R.CAN_CTL (i : Nat) : Nat := 0x43000000 + 0x10000 * i
def F.CAN_CTL_EN (i : Nat) : Fld := ⟨R.CAN_CTL i, 31, 31⟩
def F.CAN_CTL_MODE (i : Nat) : Fld := ⟨R.CAN_CTL i, 30, 28⟩
def F.CAN_CTL_FD_EN (i : Nat) : Fld := ⟨R.CAN_CTL i, 27, 27⟩
def F.CAN_CTL_XL_EN (i : Nat) : Fld := ⟨R.CAN_CTL i, 26, 26⟩
def F.CAN_CTL_ONESHOT (i : Nat) : Fld := ⟨R.CAN_CTL i, 23, 23⟩
def F.CAN_CTL_AUTORATE (i : Nat) : Fld := ⟨R.CAN_CTL i, 22, 22⟩
/-- CAN_STAT (R420). -/
def R.CAN_STAT (i : Nat) : Nat := 0x43000004 + 0x10000 * i
def F.CAN_STAT_STATE (i : Nat) : Fld := ⟨R.CAN_STAT i, 31, 29⟩
def F.CAN_STAT_RATE_OK (i : Nat) : Fld := ⟨R.CAN_STAT i, 28, 28⟩
def F.CAN_STAT_RATE_IDX (i : Nat) : Fld := ⟨R.CAN_STAT i, 27, 25⟩
def F.CAN_STAT_CFG_ERR (i : Nat) : Fld := ⟨R.CAN_STAT i, 24, 24⟩
def F.CAN_STAT_WR_IGN (i : Nat) : Fld := ⟨R.CAN_STAT i, 23, 23⟩
def F.CAN_STAT_RESP_ACTIVE (i : Nat) : Fld := ⟨R.CAN_STAT i, 22, 22⟩
def F.CAN_STAT_REC (i : Nat) : Fld := ⟨R.CAN_STAT i, 15, 8⟩
def F.CAN_STAT_TEC (i : Nat) : Fld := ⟨R.CAN_STAT i, 7, 0⟩
/-- CAN_NBT (R420). -/
def R.CAN_NBT (i : Nat) : Nat := 0x43000008 + 0x10000 * i
/-- CAN_DBT (R420). -/
def R.CAN_DBT (i : Nat) : Nat := 0x4300000c + 0x10000 * i
/-- CAN_XBT (R420). -/
def R.CAN_XBT (i : Nat) : Nat := 0x43000010 + 0x10000 * i
/-- CAN_TDC (R420). -/
def R.CAN_TDC (i : Nat) : Nat := 0x43000014 + 0x10000 * i
def F.CAN_TDC_TDC_EN (i : Nat) : Fld := ⟨R.CAN_TDC i, 31, 31⟩
def F.CAN_TDC_TDCV (i : Nat) : Fld := ⟨R.CAN_TDC i, 22, 16⟩
/-- CAN_RATE_CFG (R420). -/
def R.CAN_RATE_CFG (i : Nat) : Nat := 0x43000018 + 0x10000 * i
def F.CAN_RATE_CFG_CYCLES (i : Nat) : Fld := ⟨R.CAN_RATE_CFG i, 23, 16⟩
def F.CAN_RATE_CFG_CONFIRM (i : Nat) : Fld := ⟨R.CAN_RATE_CFG i, 11, 8⟩
def F.CAN_RATE_CFG_EN (i : Nat) : Fld := ⟨R.CAN_RATE_CFG i, 7, 0⟩
/-- CAN_RATE_N (R420). -/
def R.CAN_RATE_N (i : Nat) (j : Nat) : Nat := 0x43000020 + 0x10000 * i + 0x8 * j
/-- CAN_RATE_D (R420). -/
def R.CAN_RATE_D (i : Nat) (j : Nat) : Nat := 0x43000024 + 0x10000 * i + 0x8 * j
/-- CAN_EVT (R420). -/
def R.CAN_EVT (i : Nat) : Nat := 0x43000060 + 0x10000 * i
def F.CAN_EVT_EVT (i : Nat) : Fld := ⟨R.CAN_EVT i, 10, 0⟩
/-- CAN_IEN (R420). -/
def R.CAN_IEN (i : Nat) : Nat := 0x43000064 + 0x10000 * i
/-- CAN_MB_FULL (R420). -/
def R.CAN_MB_FULL (i : Nat) (j : Nat) : Nat := 0x43000068 + 0x10000 * i + 0x4 * j
def F.CAN_MB_FULL_FULL (i : Nat) (j : Nat) : Fld := ⟨R.CAN_MB_FULL i j, 31, 0⟩
/-- CAN_MB_DONE (R420). -/
def R.CAN_MB_DONE (i : Nat) (j : Nat) : Nat := 0x43000070 + 0x10000 * i + 0x4 * j
def F.CAN_MB_DONE_DONE (i : Nat) (j : Nat) : Fld := ⟨R.CAN_MB_DONE i j, 31, 0⟩
/-- CAN_FF_ID (R422). -/
def R.CAN_FF_ID (i : Nat) (j : Nat) : Nat := 0x43000200 + 0x10000 * i + 0x8 * j
def F.CAN_FF_ID_EN (i : Nat) (j : Nat) : Fld := ⟨R.CAN_FF_ID i j, 31, 31⟩
def F.CAN_FF_ID_IDE (i : Nat) (j : Nat) : Fld := ⟨R.CAN_FF_ID i j, 30, 30⟩
def F.CAN_FF_ID_ID (i : Nat) (j : Nat) : Fld := ⟨R.CAN_FF_ID i j, 28, 0⟩
/-- CAN_FF_MASK (R422). -/
def R.CAN_FF_MASK (i : Nat) (j : Nat) : Nat := 0x43000204 + 0x10000 * i + 0x8 * j
def F.CAN_FF_MASK_MASK (i : Nat) (j : Nat) : Fld := ⟨R.CAN_FF_MASK i j, 28, 0⟩
/-- CAN_FIFO_STAT (R422). -/
def R.CAN_FIFO_STAT (i : Nat) : Nat := 0x43000240 + 0x10000 * i
def F.CAN_FIFO_STAT_ALL (i : Nat) : Fld := ⟨R.CAN_FIFO_STAT i, 31, 31⟩
def F.CAN_FIFO_STAT_COUNT (i : Nat) : Fld := ⟨R.CAN_FIFO_STAT i, 6, 0⟩
/-- CAN_FIFO_POP (R422). -/
def R.CAN_FIFO_POP (i : Nat) : Nat := 0x43000244 + 0x10000 * i
def F.CAN_FIFO_POP_POP (i : Nat) : Fld := ⟨R.CAN_FIFO_POP i, 0, 0⟩
/-- MB_CS (R422). -/
def R.MB_CS (i : Nat) (j : Nat) : Nat := 0x43001000 + 0x10000 * i + 0x80 * j
/-- MB_ID (R422). -/
def R.MB_ID (i : Nat) (j : Nat) : Nat := 0x43001004 + 0x10000 * i + 0x80 * j
def F.MB_ID_IDE (i : Nat) (j : Nat) : Fld := ⟨R.MB_ID i j, 30, 30⟩
def F.MB_ID_ID (i : Nat) (j : Nat) : Fld := ⟨R.MB_ID i j, 28, 0⟩
/-- MB_TS (R422). -/
def R.MB_TS (i : Nat) (j : Nat) : Nat := 0x43001008 + 0x10000 * i + 0x80 * j
/-- MB_FILT (R422). -/
def R.MB_FILT (i : Nat) (j : Nat) : Nat := 0x4300100c + 0x10000 * i + 0x80 * j
def F.MB_FILT_IDE (i : Nat) (j : Nat) : Fld := ⟨R.MB_FILT i j, 30, 30⟩
def F.MB_FILT_ID (i : Nat) (j : Nat) : Fld := ⟨R.MB_FILT i j, 28, 0⟩
/-- MB_MASK (R422). -/
def R.MB_MASK (i : Nat) (j : Nat) : Nat := 0x43001010 + 0x10000 * i + 0x80 * j
def F.MB_MASK_MASK (i : Nat) (j : Nat) : Fld := ⟨R.MB_MASK i j, 28, 0⟩
/-- MB_DATA (R422). -/
def R.MB_DATA (i : Nat) (j : Nat) (l : Nat) : Nat := 0x43001020 + 0x10000 * i + 0x80 * j + 0x4 * l
/-- XB_CS (R422). -/
def R.XB_CS (i : Nat) (j : Nat) : Nat := 0x43008000 + 0x10000 * i + 0x1000 * j
/-- XB_HDR (R422). -/
def R.XB_HDR (i : Nat) (j : Nat) : Nat := 0x43008004 + 0x10000 * i + 0x1000 * j
def F.XB_HDR_VCID (i : Nat) (j : Nat) : Fld := ⟨R.XB_HDR i j, 31, 24⟩
def F.XB_HDR_SDT (i : Nat) (j : Nat) : Fld := ⟨R.XB_HDR i j, 23, 16⟩
def F.XB_HDR_SEC (i : Nat) (j : Nat) : Fld := ⟨R.XB_HDR i j, 15, 15⟩
def F.XB_HDR_PRIO (i : Nat) (j : Nat) : Fld := ⟨R.XB_HDR i j, 10, 0⟩
/-- XB_AF (R422). -/
def R.XB_AF (i : Nat) (j : Nat) : Nat := 0x43008008 + 0x10000 * i + 0x1000 * j
/-- XB_TS (R422). -/
def R.XB_TS (i : Nat) (j : Nat) : Nat := 0x4300800c + 0x10000 * i + 0x1000 * j
/-- XB_FILT (R422). -/
def R.XB_FILT (i : Nat) (j : Nat) : Nat := 0x43008010 + 0x10000 * i + 0x1000 * j
def F.XB_FILT_PRIO (i : Nat) (j : Nat) : Fld := ⟨R.XB_FILT i j, 10, 0⟩
/-- XB_MASK (R422). -/
def R.XB_MASK (i : Nat) (j : Nat) : Nat := 0x43008014 + 0x10000 * i + 0x1000 * j
def F.XB_MASK_PRIO (i : Nat) (j : Nat) : Fld := ⟨R.XB_MASK i j, 10, 0⟩
/-- XB_DATA (R422). -/
def R.XB_DATA (i : Nat) (j : Nat) (l : Nat) : Nat := 0x43008020 + 0x10000 * i + 0x1000 * j + 0x4 * l
/-- XC_CTL (R423). -/
def R.XC_CTL (i : Nat) : Nat := 0x50061000 + 0x200 * i
def F.XC_CTL_FD_PASSIVE (i : Nat) : Fld := ⟨R.XC_CTL i, 8, 8⟩
def F.XC_CTL_SW_EN (i : Nat) : Fld := ⟨R.XC_CTL i, 5, 5⟩
def F.XC_CTL_WUP_EN (i : Nat) : Fld := ⟨R.XC_CTL i, 4, 4⟩
def F.XC_CTL_MODE (i : Nat) : Fld := ⟨R.XC_CTL i, 1, 0⟩
/-- XC_STAT (R423). -/
def R.XC_STAT (i : Nat) : Nat := 0x50061004 + 0x200 * i
def F.XC_STAT_SW_ERR (i : Nat) : Fld := ⟨R.XC_STAT i, 16, 16⟩
def F.XC_STAT_FEC (i : Nat) : Fld := ⟨R.XC_STAT i, 15, 8⟩
def F.XC_STAT_WSRC (i : Nat) : Fld := ⟨R.XC_STAT i, 5, 4⟩
def F.XC_STAT_WAKE (i : Nat) : Fld := ⟨R.XC_STAT i, 2, 2⟩
def F.XC_STAT_OT (i : Nat) : Fld := ⟨R.XC_STAT i, 1, 1⟩
def F.XC_STAT_TXD_TMO (i : Nat) : Fld := ⟨R.XC_STAT i, 0, 0⟩
/-- XF_ID (R423). -/
def R.XF_ID (i : Nat) (j : Nat) : Nat := 0x50061040 + 0x200 * i + 0x20 * j
def F.XF_ID_EN (i : Nat) (j : Nat) : Fld := ⟨R.XF_ID i j, 31, 31⟩
def F.XF_ID_IDE (i : Nat) (j : Nat) : Fld := ⟨R.XF_ID i j, 30, 30⟩
def F.XF_ID_ID (i : Nat) (j : Nat) : Fld := ⟨R.XF_ID i j, 28, 0⟩
/-- XF_MASK (R423). -/
def R.XF_MASK (i : Nat) (j : Nat) : Nat := 0x50061044 + 0x200 * i + 0x20 * j
def F.XF_MASK_MASK (i : Nat) (j : Nat) : Fld := ⟨R.XF_MASK i j, 28, 0⟩
/-- XF_DLC (R423). -/
def R.XF_DLC (i : Nat) (j : Nat) : Nat := 0x50061048 + 0x200 * i + 0x20 * j
def F.XF_DLC_DATA_EN (i : Nat) (j : Nat) : Fld := ⟨R.XF_DLC i j, 8, 8⟩
def F.XF_DLC_DLC (i : Nat) (j : Nat) : Fld := ⟨R.XF_DLC i j, 3, 0⟩
/-- XF_DM_LO (R423). -/
def R.XF_DM_LO (i : Nat) (j : Nat) : Nat := 0x5006104c + 0x200 * i + 0x20 * j
/-- XF_DM_HI (R423). -/
def R.XF_DM_HI (i : Nat) (j : Nat) : Nat := 0x50061050 + 0x200 * i + 0x20 * j
/-- XL_CTL (R423). -/
def R.XL_CTL (i : Nat) : Nat := 0x50063000 + 0x40 * i
def F.XL_CTL_WAKE_EN (i : Nat) : Fld := ⟨R.XL_CTL i, 2, 2⟩
def F.XL_CTL_MODE (i : Nat) : Fld := ⟨R.XL_CTL i, 1, 0⟩
/-- XL_STAT (R423). -/
def R.XL_STAT (i : Nat) : Nat := 0x50063004 + 0x40 * i
def F.XL_STAT_BUS_SHORT (i : Nat) : Fld := ⟨R.XL_STAT i, 2, 2⟩
def F.XL_STAT_WAKE (i : Nat) : Fld := ⟨R.XL_STAT i, 1, 1⟩
def F.XL_STAT_TXD_TMO (i : Nat) : Fld := ⟨R.XL_STAT i, 0, 0⟩
/-- LIN_CTL (R424). -/
def R.LIN_CTL (i : Nat) : Nat := 0x43100000 + 0x4000 * i
def F.LIN_CTL_EN (i : Nat) : Fld := ⟨R.LIN_CTL i, 31, 31⟩
def F.LIN_CTL_ROLE (i : Nat) : Fld := ⟨R.LIN_CTL i, 30, 30⟩
def F.LIN_CTL_AUTOSYNC (i : Nat) : Fld := ⟨R.LIN_CTL i, 29, 29⟩
def F.LIN_CTL_RUN (i : Nat) : Fld := ⟨R.LIN_CTL i, 26, 26⟩
def F.LIN_CTL_SLEN (i : Nat) : Fld := ⟨R.LIN_CTL i, 22, 16⟩
def F.LIN_CTL_DIV (i : Nat) : Fld := ⟨R.LIN_CTL i, 15, 0⟩
/-- LIN_STAT (R424). -/
def R.LIN_STAT (i : Nat) : Nat := 0x43100004 + 0x4000 * i
def F.LIN_STAT_STATE (i : Nat) : Fld := ⟨R.LIN_STAT i, 31, 29⟩
def F.LIN_STAT_LAST_ERR (i : Nat) : Fld := ⟨R.LIN_STAT i, 27, 24⟩
def F.LIN_STAT_CUR (i : Nat) : Fld := ⟨R.LIN_STAT i, 21, 16⟩
def F.LIN_STAT_MEAS (i : Nat) : Fld := ⟨R.LIN_STAT i, 15, 0⟩
/-- LIN_EVT (R424). -/
def R.LIN_EVT (i : Nat) : Nat := 0x43100008 + 0x4000 * i
def F.LIN_EVT_EVT (i : Nat) : Fld := ⟨R.LIN_EVT i, 5, 0⟩
/-- LIN_IEN (R424). -/
def R.LIN_IEN (i : Nat) : Nat := 0x4310000c + 0x4000 * i
/-- LIN_SCHED (R424). -/
def R.LIN_SCHED (i : Nat) (j : Nat) : Nat := 0x43100100 + 0x4000 * i + 0x4 * j
def F.LIN_SCHED_VALID (i : Nat) (j : Nat) : Fld := ⟨R.LIN_SCHED i j, 31, 31⟩
def F.LIN_SCHED_SLOT (i : Nat) (j : Nat) : Fld := ⟨R.LIN_SCHED i j, 23, 8⟩
def F.LIN_SCHED_ID (i : Nat) (j : Nat) : Fld := ⟨R.LIN_SCHED i j, 5, 0⟩
/-- LR_CFG (R424). -/
def R.LR_CFG (i : Nat) (j : Nat) : Nat := 0x43101000 + 0x4000 * i + 0x10 * j
def F.LR_CFG_LEN (i : Nat) (j : Nat) : Fld := ⟨R.LR_CFG i j, 11, 8⟩
def F.LR_CFG_CSUM (i : Nat) (j : Nat) : Fld := ⟨R.LR_CFG i j, 2, 2⟩
def F.LR_CFG_DIR (i : Nat) (j : Nat) : Fld := ⟨R.LR_CFG i j, 1, 0⟩
/-- LR_STAT (R424). -/
def R.LR_STAT (i : Nat) (j : Nat) : Nat := 0x4310100c + 0x4000 * i + 0x10 * j
def F.LR_STAT_FRESH (i : Nat) (j : Nat) : Fld := ⟨R.LR_STAT i j, 31, 31⟩
def F.LR_STAT_ERR (i : Nat) (j : Nat) : Fld := ⟨R.LR_STAT i j, 30, 28⟩
/-- TB_NS (R444). -/
def R.TB_NS (i : Nat) : Nat := 0x40600000 + 0x100 * i
/-- TB_WRAP (R444). -/
def R.TB_WRAP (i : Nat) : Nat := 0x40600004 + 0x100 * i
/-- TB_WRAP_LAT (R444). -/
def R.TB_WRAP_LAT (i : Nat) : Nat := 0x40600008 + 0x100 * i
def F.TB_WRAP_LAT_WRAP (i : Nat) : Fld := ⟨R.TB_WRAP_LAT i, 31, 0⟩
/-- TB_INC (R444). -/
def R.TB_INC (i : Nat) : Nat := 0x4060000c + 0x100 * i
def F.TB_INC_FRAC (i : Nat) : Fld := ⟨R.TB_INC i, 31, 0⟩
/-- TB_NOM (R444). -/
def R.TB_NOM (i : Nat) : Nat := 0x40600010 + 0x100 * i
def F.TB_NOM_NOM (i : Nat) : Fld := ⟨R.TB_NOM i, 20, 0⟩
/-- TB_SERVO (R444). -/
def R.TB_SERVO (i : Nat) : Nat := 0x40600014 + 0x100 * i
def F.TB_SERVO_EN (i : Nat) : Fld := ⟨R.TB_SERVO i, 31, 31⟩
def F.TB_SERVO_SRC (i : Nat) : Fld := ⟨R.TB_SERVO i, 30, 29⟩
def F.TB_SERVO_CAP (i : Nat) : Fld := ⟨R.TB_SERVO i, 27, 24⟩
def F.TB_SERVO_KP (i : Nat) : Fld := ⟨R.TB_SERVO i, 23, 12⟩
def F.TB_SERVO_KI (i : Nat) : Fld := ⟨R.TB_SERVO i, 11, 0⟩
/-- TB_THR (R444). -/
def R.TB_THR (i : Nat) : Nat := 0x40600018 + 0x100 * i
def F.TB_THR_STEP_THR (i : Nat) : Fld := ⟨R.TB_THR i, 31, 16⟩
def F.TB_THR_SYNC_THR (i : Nat) : Fld := ⟨R.TB_THR i, 15, 0⟩
/-- TB_OFFS (R444). -/
def R.TB_OFFS (i : Nat) : Nat := 0x4060001c + 0x100 * i
/-- TB_ADJ (R444). -/
def R.TB_ADJ (i : Nat) : Nat := 0x40600020 + 0x100 * i
def F.TB_ADJ_ADJ (i : Nat) : Fld := ⟨R.TB_ADJ i, 31, 0⟩
/-- TB_STAT (R444). -/
def R.TB_STAT (i : Nat) : Nat := 0x40600024 + 0x100 * i
def F.TB_STAT_INC_INT (i : Nat) : Fld := ⟨R.TB_STAT i, 25, 24⟩
def F.TB_STAT_STEP_REF (i : Nat) : Fld := ⟨R.TB_STAT i, 4, 4⟩
def F.TB_STAT_STEPPED (i : Nat) : Fld := ⟨R.TB_STAT i, 3, 3⟩
def F.TB_STAT_CLAMP (i : Nat) : Fld := ⟨R.TB_STAT i, 2, 2⟩
def F.TB_STAT_SYNC (i : Nat) : Fld := ⟨R.TB_STAT i, 1, 1⟩
/-- TB_STEP (R444). -/
def R.TB_STEP (i : Nat) : Nat := 0x40600028 + 0x100 * i
/-- TB_SET_LO (R444). -/
def R.TB_SET_LO (i : Nat) : Nat := 0x4060002c + 0x100 * i
def F.TB_SET_LO_SET (i : Nat) : Fld := ⟨R.TB_SET_LO i, 31, 0⟩
/-- TB_SET_HI (R444). -/
def R.TB_SET_HI (i : Nat) : Nat := 0x40600030 + 0x100 * i
def F.TB_SET_HI_SET (i : Nat) : Fld := ⟨R.TB_SET_HI i, 31, 0⟩
/-- TB_CMD (R444). -/
def R.TB_CMD (i : Nat) : Nat := 0x40600034 + 0x100 * i
def F.TB_CMD_SET (i : Nat) : Fld := ⟨R.TB_CMD i, 0, 0⟩
/-- PO_CTL (R445). -/
def R.PO_CTL (i : Nat) : Nat := 0x40600400 + 0x20 * i
def F.PO_CTL_EN (i : Nat) : Fld := ⟨R.PO_CTL i, 31, 31⟩
def F.PO_CTL_TB (i : Nat) : Fld := ⟨R.PO_CTL i, 30, 30⟩
def F.PO_CTL_POL (i : Nat) : Fld := ⟨R.PO_CTL i, 29, 29⟩
def F.PO_CTL_START_EP (i : Nat) : Fld := ⟨R.PO_CTL i, 28, 28⟩
def F.PO_CTL_LATE (i : Nat) : Fld := ⟨R.PO_CTL i, 1, 1⟩
def F.PO_CTL_CFG_ERR (i : Nat) : Fld := ⟨R.PO_CTL i, 0, 0⟩
/-- PO_START (R445). -/
def R.PO_START (i : Nat) : Nat := 0x40600404 + 0x20 * i
def F.PO_START_START (i : Nat) : Fld := ⟨R.PO_START i, 31, 0⟩
/-- PO_PERIOD (R445). -/
def R.PO_PERIOD (i : Nat) : Nat := 0x40600408 + 0x20 * i
def F.PO_PERIOD_PERIOD (i : Nat) : Fld := ⟨R.PO_PERIOD i, 31, 0⟩
/-- PO_WIDTH (R445). -/
def R.PO_WIDTH (i : Nat) : Nat := 0x4060040c + 0x20 * i
def F.PO_WIDTH_WIDTH (i : Nat) : Fld := ⟨R.PO_WIDTH i, 31, 0⟩
/-- CAP_CFG (R445). -/
def R.CAP_CFG (i : Nat) : Nat := 0x40600800 + 0x20 * i
def F.CAP_CFG_WIN_EN (i : Nat) : Fld := ⟨R.CAP_CFG i, 31, 31⟩
def F.CAP_CFG_OPEN_EP (i : Nat) : Fld := ⟨R.CAP_CFG i, 30, 30⟩
def F.CAP_CFG_CLOSE_EP (i : Nat) : Fld := ⟨R.CAP_CFG i, 29, 29⟩
def F.CAP_CFG_EDGE (i : Nat) : Fld := ⟨R.CAP_CFG i, 9, 8⟩
def F.CAP_CFG_SRC (i : Nat) : Fld := ⟨R.CAP_CFG i, 7, 0⟩
/-- CAP_TB0 (R445). -/
def R.CAP_TB0 (i : Nat) : Nat := 0x40600804 + 0x20 * i
def F.CAP_TB0_TS0 (i : Nat) : Fld := ⟨R.CAP_TB0 i, 31, 0⟩
/-- CAP_TB1 (R445). -/
def R.CAP_TB1 (i : Nat) : Nat := 0x40600808 + 0x20 * i
def F.CAP_TB1_TS1 (i : Nat) : Fld := ⟨R.CAP_TB1 i, 31, 0⟩
/-- CAP_FLAGS (R445). -/
def R.CAP_FLAGS (i : Nat) : Nat := 0x4060080c + 0x20 * i
def F.CAP_FLAGS_BOUNDARY (i : Nat) : Fld := ⟨R.CAP_FLAGS i, 5, 5⟩
def F.CAP_FLAGS_IN (i : Nat) : Fld := ⟨R.CAP_FLAGS i, 4, 4⟩
def F.CAP_FLAGS_EP1 (i : Nat) : Fld := ⟨R.CAP_FLAGS i, 3, 3⟩
def F.CAP_FLAGS_EP0 (i : Nat) : Fld := ⟨R.CAP_FLAGS i, 2, 2⟩
def F.CAP_FLAGS_OVR (i : Nat) : Fld := ⟨R.CAP_FLAGS i, 1, 1⟩
def F.CAP_FLAGS_VALID (i : Nat) : Fld := ⟨R.CAP_FLAGS i, 0, 0⟩
/-- WIN_OPEN (R445). -/
def R.WIN_OPEN (i : Nat) : Nat := 0x40600810 + 0x20 * i
def F.WIN_OPEN_T (i : Nat) : Fld := ⟨R.WIN_OPEN i, 31, 0⟩
/-- WIN_CLOSE (R445). -/
def R.WIN_CLOSE (i : Nat) : Nat := 0x40600814 + 0x20 * i
def F.WIN_CLOSE_T (i : Nat) : Fld := ⟨R.WIN_CLOSE i, 31, 0⟩
/-- PTS_TB0 (R446). -/
def R.PTS_TB0 (i : Nat) : Nat := 0x40604000 + 0x40 * i
def F.PTS_TB0_TS0 (i : Nat) : Fld := ⟨R.PTS_TB0 i, 31, 0⟩
/-- PTS_TB1 (R446). -/
def R.PTS_TB1 (i : Nat) : Nat := 0x40604004 + 0x40 * i
def F.PTS_TB1_TS1 (i : Nat) : Fld := ⟨R.PTS_TB1 i, 31, 0⟩
/-- PTS_INFO (R446). -/
def R.PTS_INFO (i : Nat) : Nat := 0x40604008 + 0x40 * i
def F.PTS_INFO_VALID (i : Nat) : Fld := ⟨R.PTS_INFO i, 31, 31⟩
def F.PTS_INFO_DIR (i : Nat) : Fld := ⟨R.PTS_INFO i, 30, 30⟩
def F.PTS_INFO_EP1 (i : Nat) : Fld := ⟨R.PTS_INFO i, 29, 29⟩
def F.PTS_INFO_EP0 (i : Nat) : Fld := ⟨R.PTS_INFO i, 28, 28⟩
def F.PTS_INFO_MSGTYPE (i : Nat) : Fld := ⟨R.PTS_INFO i, 27, 24⟩
def F.PTS_INFO_DOMAIN (i : Nat) : Fld := ⟨R.PTS_INFO i, 23, 16⟩
def F.PTS_INFO_SEQID (i : Nat) : Fld := ⟨R.PTS_INFO i, 15, 0⟩
/-- PTS_POP (R446). -/
def R.PTS_POP (i : Nat) : Nat := 0x4060400c + 0x40 * i
def F.PTS_POP_POP (i : Nat) : Fld := ⟨R.PTS_POP i, 0, 0⟩
/-- PTS_LOST (R446). -/
def R.PTS_LOST (i : Nat) : Nat := 0x40604010 + 0x40 * i
def F.PTS_LOST_LOST (i : Nat) : Fld := ⟨R.PTS_LOST i, 31, 0⟩
/-- TALLY_CTL (R447). -/
def R.TALLY_CTL : Nat := 0x40500000
def F.TALLY_CTL_ARM : Fld := ⟨R.TALLY_CTL, 31, 31⟩
def F.TALLY_CTL_ARM_STOP : Fld := ⟨R.TALLY_CTL, 30, 30⟩
def F.TALLY_CTL_EP : Fld := ⟨R.TALLY_CTL, 29, 29⟩
def F.TALLY_CTL_PERIOD : Fld := ⟨R.TALLY_CTL, 15, 0⟩
/-- TALLY_TIME (R447). -/
def R.TALLY_TIME : Nat := 0x40500004
def F.TALLY_TIME_TIME : Fld := ⟨R.TALLY_TIME, 31, 0⟩
/-- TALLY_SEQ (R447). -/
def R.TALLY_SEQ : Nat := 0x40500008
def F.TALLY_SEQ_SEQ : Fld := ⟨R.TALLY_SEQ, 31, 0⟩
/-- TALLY_STAT (R447). -/
def R.TALLY_STAT : Nat := 0x4050000c
def F.TALLY_STAT_BUSY_REF : Fld := ⟨R.TALLY_STAT, 3, 3⟩
def F.TALLY_STAT_LATE : Fld := ⟨R.TALLY_STAT, 2, 2⟩
def F.TALLY_STAT_DONE : Fld := ⟨R.TALLY_STAT, 1, 1⟩
def F.TALLY_STAT_ARMED : Fld := ⟨R.TALLY_STAT, 0, 0⟩
/-- TALLY_PART (R447). -/
def R.TALLY_PART : Nat := 0x40500010
def F.TALLY_PART_BF : Fld := ⟨R.TALLY_PART, 27, 16⟩
def F.TALLY_PART_KCG : Fld := ⟨R.TALLY_PART, 4, 0⟩
/-- TALLY_STALE (R447). -/
def R.TALLY_STALE : Nat := 0x40500014
def F.TALLY_STALE_STALE : Fld := ⟨R.TALLY_STALE, 27, 0⟩
/-- NM_GCFG (R466). -/
def R.NM_GCFG : Nat := 0x50020000
def F.NM_GCFG_FSS_TMO : Fld := ⟨R.NM_GCFG, 7, 0⟩
/-- NM_SB_BUS (R466). -/
def R.NM_SB_BUS : Nat := 0x50020004
def F.NM_SB_BUS_LIN : Fld := ⟨R.NM_SB_BUS, 27, 16⟩
def F.NM_SB_BUS_CAN : Fld := ⟨R.NM_SB_BUS, 15, 0⟩
/-- NM_SB_ETH (R466). -/
def R.NM_SB_ETH : Nat := 0x50020008
def F.NM_SB_ETH_PORTS : Fld := ⟨R.NM_SB_ETH, 25, 0⟩
/-- NM_CONSENT (R466). -/
def R.NM_CONSENT : Nat := 0x5002000c
def F.NM_CONSENT_CONSENT : Fld := ⟨R.NM_CONSENT, 15, 0⟩
/-- NM_STAT (R466). -/
def R.NM_STAT : Nat := 0x50020010
def F.NM_STAT_LEDGER_USED : Fld := ⟨R.NM_STAT, 22, 16⟩
def F.NM_STAT_LEDGER_OVF : Fld := ⟨R.NM_STAT, 15, 8⟩
def F.NM_STAT_FSS : Fld := ⟨R.NM_STAT, 2, 2⟩
def F.NM_STAT_FORCED : Fld := ⟨R.NM_STAT, 1, 1⟩
def F.NM_STAT_ALL_READY : Fld := ⟨R.NM_STAT, 0, 0⟩
/-- NM_LEDGER_CLR (R466). -/
def R.NM_LEDGER_CLR : Nat := 0x50020014
def F.NM_LEDGER_CLR_CLR : Fld := ⟨R.NM_LEDGER_CLR, 0, 0⟩
/-- NM_CFG (R466). -/
def R.NM_CFG (i : Nat) : Nat := 0x50020100 + 0x40 * i
def F.NM_CFG_EN (i : Nat) : Fld := ⟨R.NM_CFG i, 31, 31⟩
def F.NM_CFG_APP_ABORT (i : Nat) : Fld := ⟨R.NM_CFG i, 30, 30⟩
def F.NM_CFG_NODE (i : Nat) : Fld := ⟨R.NM_CFG i, 21, 16⟩
def F.NM_CFG_BASE (i : Nat) : Fld := ⟨R.NM_CFG i, 10, 0⟩
/-- NM_TIME (R466). -/
def R.NM_TIME (i : Nat) : Nat := 0x50020104 + 0x40 * i
def F.NM_TIME_T_WBS (i : Nat) : Fld := ⟨R.NM_TIME i, 31, 16⟩
def F.NM_TIME_T_MAX (i : Nat) : Fld := ⟨R.NM_TIME i, 15, 8⟩
def F.NM_TIME_T_TYP (i : Nat) : Fld := ⟨R.NM_TIME i, 7, 0⟩
/-- NM_BT (R466). -/
def R.NM_BT (i : Nat) : Nat := 0x50020108 + 0x40 * i
def F.NM_BT_TSEG2 (i : Nat) : Fld := ⟨R.NM_BT i, 22, 16⟩
def F.NM_BT_TSEG1 (i : Nat) : Fld := ⟨R.NM_BT i, 15, 8⟩
def F.NM_BT_BRP (i : Nat) : Fld := ⟨R.NM_BT i, 7, 0⟩
/-- NM_TX (R466). -/
def R.NM_TX (i : Nat) : Nat := 0x5002010c + 0x40 * i
def F.NM_TX_KA_REASON (i : Nat) : Fld := ⟨R.NM_TX i, 31, 24⟩

/-- NM_USER (R466). -/
def R.NM_USER (i : Nat) : Nat := 0x50020110 + 0x40 * i
/-- NM_CH_STAT (R466). -/
def R.NM_CH_STAT (i : Nat) : Nat := 0x50020114 + 0x40 * i
def F.NM_CH_STAT_LOSS (i : Nat) : Fld := ⟨R.NM_CH_STAT i, 31, 24⟩
def F.NM_CH_STAT_SUCC (i : Nat) : Fld := ⟨R.NM_CH_STAT i, 21, 16⟩
def F.NM_CH_STAT_CFG_ERR (i : Nat) : Fld := ⟨R.NM_CH_STAT i, 7, 7⟩
def F.NM_CH_STAT_BUSOFF (i : Nat) : Fld := ⟨R.NM_CH_STAT i, 6, 6⟩
def F.NM_CH_STAT_STATE (i : Nat) : Fld := ⟨R.NM_CH_STAT i, 2, 0⟩
/-- NM_PRESENT_LO (R466). -/
def R.NM_PRESENT_LO (i : Nat) : Nat := 0x50020118 + 0x40 * i
def F.NM_PRESENT_LO_PRESENT (i : Nat) : Fld := ⟨R.NM_PRESENT_LO i, 31, 0⟩
/-- NM_PRESENT_HI (R466). -/
def R.NM_PRESENT_HI (i : Nat) : Nat := 0x5002011c + 0x40 * i
def F.NM_PRESENT_HI_PRESENT (i : Nat) : Fld := ⟨R.NM_PRESENT_HI i, 31, 0⟩
/-- NM_LDG_A (R466). -/
def R.NM_LDG_A (i : Nat) : Nat := 0x50021000 + 0x8 * i
def F.NM_LDG_A_VALID (i : Nat) : Fld := ⟨R.NM_LDG_A i, 31, 31⟩
def F.NM_LDG_A_CH (i : Nat) : Fld := ⟨R.NM_LDG_A i, 27, 24⟩
def F.NM_LDG_A_NODE (i : Nat) : Fld := ⟨R.NM_LDG_A i, 21, 16⟩
def F.NM_LDG_A_REASON (i : Nat) : Fld := ⟨R.NM_LDG_A i, 15, 8⟩
def F.NM_LDG_A_COUNT (i : Nat) : Fld := ⟨R.NM_LDG_A i, 7, 0⟩
/-- NM_LDG_B (R466). -/
def R.NM_LDG_B (i : Nat) : Nat := 0x50021004 + 0x8 * i
def F.NM_LDG_B_SEC (i : Nat) : Fld := ⟨R.NM_LDG_B i, 31, 0⟩
/-- WK_LAST (R467). -/
def R.WK_LAST : Nat := 0x50010000
/-- WK_STAT (R467). -/
def R.WK_STAT : Nat := 0x50010004
def F.WK_STAT_LATE : Fld := ⟨R.WK_STAT, 17, 17⟩
def F.WK_STAT_ABORTED : Fld := ⟨R.WK_STAT, 16, 16⟩
def F.WK_STAT_OVF : Fld := ⟨R.WK_STAT, 15, 8⟩
def F.WK_STAT_COUNT : Fld := ⟨R.WK_STAT, 5, 0⟩
/-- WK_IEN (R467). -/
def R.WK_IEN : Nat := 0x50010008
def F.WK_IEN_EN : Fld := ⟨R.WK_IEN, 0, 0⟩
/-- WK_ALARM (R467). -/
def R.WK_ALARM : Nat := 0x5001000c
def F.WK_ALARM_SEC : Fld := ⟨R.WK_ALARM, 31, 0⟩
/-- WK_ALARM_CTL (R467). -/
def R.WK_ALARM_CTL : Nat := 0x50010010
def F.WK_ALARM_CTL_FIRED : Fld := ⟨R.WK_ALARM_CTL, 1, 1⟩
def F.WK_ALARM_CTL_EN : Fld := ⟨R.WK_ALARM_CTL, 0, 0⟩
/-- WK_PEND (R467). -/
def R.WK_PEND (i : Nat) : Nat := 0x50010020 + 0x4 * i
def F.WK_PEND_PEND (i : Nat) : Fld := ⟨R.WK_PEND i, 31, 0⟩
/-- WK_HEAD (R467). -/
def R.WK_HEAD : Nat := 0x50010040
/-- WK_HEAD_SEC (R467). -/
def R.WK_HEAD_SEC : Nat := 0x50010044
def F.WK_HEAD_SEC_SEC : Fld := ⟨R.WK_HEAD_SEC, 31, 0⟩
/-- WK_HEAD_SUB (R467). -/
def R.WK_HEAD_SUB : Nat := 0x50010048
def F.WK_HEAD_SUB_SUB : Fld := ⟨R.WK_HEAD_SUB, 14, 0⟩
/-- WK_POP (R467). -/
def R.WK_POP : Nat := 0x5001004c
def F.WK_POP_POP : Fld := ⟨R.WK_POP, 0, 0⟩
/-- SYSCTL_HART_CTL (R496). -/
def R.SYSCTL_HART_CTL (h : Nat) : Nat := 0x40000100 + 0x10 * h
def F.SYSCTL_HART_CTL_KEY (h : Nat) : Fld := ⟨R.SYSCTL_HART_CTL h, 31, 24⟩
def F.SYSCTL_HART_CTL_CMD (h : Nat) : Fld := ⟨R.SYSCTL_HART_CTL h, 1, 0⟩
/-- SYSCTL_HART_ENTRY_LO (R496). -/
def R.SYSCTL_HART_ENTRY_LO (h : Nat) : Nat := 0x40000104 + 0x10 * h
def F.SYSCTL_HART_ENTRY_LO_ADDR (h : Nat) : Fld := ⟨R.SYSCTL_HART_ENTRY_LO h, 31, 1⟩
/-- SYSCTL_HART_ENTRY_HI (R496). -/
def R.SYSCTL_HART_ENTRY_HI (h : Nat) : Nat := 0x40000108 + 0x10 * h
def F.SYSCTL_HART_ENTRY_HI_ADDR (h : Nat) : Fld := ⟨R.SYSCTL_HART_ENTRY_HI h, 7, 0⟩
/-- SYSCTL_HART_STAT (R496). -/
def R.SYSCTL_HART_STAT (h : Nat) : Nat := 0x4000010c + 0x10 * h
def F.SYSCTL_HART_STAT_DISP (h : Nat) : Fld := ⟨R.SYSCTL_HART_STAT h, 9, 9⟩
def F.SYSCTL_HART_STAT_REFUSED (h : Nat) : Fld := ⟨R.SYSCTL_HART_STAT h, 8, 8⟩
def F.SYSCTL_HART_STAT_STATE (h : Nat) : Fld := ⟨R.SYSCTL_HART_STAT h, 2, 0⟩
/-- SYSCTL_SCRUB (R497). -/
def R.SYSCTL_SCRUB : Nat := 0x40000040
def F.SYSCTL_SCRUB_SRAM_EN : Fld := ⟨R.SYSCTL_SCRUB, 31, 31⟩
def F.SYSCTL_SCRUB_DRAM_CLR : Fld := ⟨R.SYSCTL_SCRUB, 24, 24⟩
def F.SYSCTL_SCRUB_SRAM_PER : Fld := ⟨R.SYSCTL_SCRUB, 23, 16⟩
def F.SYSCTL_SCRUB_DRAM_EN : Fld := ⟨R.SYSCTL_SCRUB, 15, 15⟩
def F.SYSCTL_SCRUB_DRAM_PER : Fld := ⟨R.SYSCTL_SCRUB, 7, 0⟩
/-- SYSCTL_CE_THR (R497). -/
def R.SYSCTL_CE_THR : Nat := 0x40000044
def F.SYSCTL_CE_THR_THR : Fld := ⟨R.SYSCTL_CE_THR, 15, 0⟩
/-- SYSCTL_ECC_CNT (R497). -/
def R.SYSCTL_ECC_CNT (i : Nat) : Nat := 0x40000060 + 0x4 * i
def F.SYSCTL_ECC_CNT_UE (i : Nat) : Fld := ⟨R.SYSCTL_ECC_CNT i, 31, 16⟩
def F.SYSCTL_ECC_CNT_CE (i : Nat) : Fld := ⟨R.SYSCTL_ECC_CNT i, 15, 0⟩
/-- SYSCTL_ECC_ADDR (R497). -/
def R.SYSCTL_ECC_ADDR (i : Nat) : Nat := 0x40000080 + 0x4 * i
def F.SYSCTL_ECC_ADDR_ADDR (i : Nat) : Fld := ⟨R.SYSCTL_ECC_ADDR i, 31, 0⟩
/-- ICU_MSI_TGT (R498). -/
def R.ICU_MSI_TGT (i : Nat) : Nat := 0x44300000 + 0x4 * i
def F.ICU_MSI_TGT_EN (i : Nat) : Fld := ⟨R.ICU_MSI_TGT i, 31, 31⟩
def F.ICU_MSI_TGT_HART (i : Nat) : Fld := ⟨R.ICU_MSI_TGT i, 20, 16⟩
def F.ICU_MSI_TGT_FILE (i : Nat) : Fld := ⟨R.ICU_MSI_TGT i, 10, 8⟩
/-- ICU_DROP (R498). -/
def R.ICU_DROP : Nat := 0x44300400
def F.ICU_DROP_DROP : Fld := ⟨R.ICU_DROP, 31, 0⟩
/-- MTIMECMP_LO (R498). -/
def R.MTIMECMP_LO (h : Nat) : Nat := 0x44400000 + 0x8 * h
def F.MTIMECMP_LO_CMP (h : Nat) : Fld := ⟨R.MTIMECMP_LO h, 31, 0⟩
/-- MTIMECMP_HI (R498). -/
def R.MTIMECMP_HI (h : Nat) : Nat := 0x44400004 + 0x8 * h
def F.MTIMECMP_HI_CMP (h : Nat) : Fld := ⟨R.MTIMECMP_HI h, 31, 0⟩
/-- RCX_CTL (R520). -/
def R.RCX_CTL (i : Nat) : Nat := 0x40300000 + 0x100 * i
def F.RCX_CTL_INJ_EN (i : Nat) : Fld := ⟨R.RCX_CTL i, 0, 0⟩
/-- RCX_STAT (R520). -/
def R.RCX_STAT (i : Nat) : Nat := 0x40300004 + 0x100 * i
def F.RCX_STAT_PHASE (i : Nat) : Fld := ⟨R.RCX_STAT i, 10, 8⟩
def F.RCX_STAT_ST_FAIL (i : Nat) : Fld := ⟨R.RCX_STAT i, 5, 5⟩
def F.RCX_STAT_GROUP (i : Nat) : Fld := ⟨R.RCX_STAT i, 4, 4⟩
def F.RCX_STAT_DBG_BROKEN (i : Nat) : Fld := ⟨R.RCX_STAT i, 3, 3⟩
def F.RCX_STAT_SWITCHABLE (i : Nat) : Fld := ⟨R.RCX_STAT i, 2, 2⟩
def F.RCX_STAT_START_RECUT (i : Nat) : Fld := ⟨R.RCX_STAT i, 1, 1⟩
def F.RCX_STAT_MODE (i : Nat) : Fld := ⟨R.RCX_STAT i, 0, 0⟩
/-- RCX_SLICES (R520). -/
def R.RCX_SLICES (i : Nat) : Nat := 0x40300008 + 0x100 * i
def F.RCX_SLICES_SLICES (i : Nat) : Fld := ⟨R.RCX_SLICES i, 31, 0⟩
/-- RCX_RETRY (R520). -/
def R.RCX_RETRY (i : Nat) : Nat := 0x4030000c + 0x100 * i
def F.RCX_RETRY_SECOND (i : Nat) : Fld := ⟨R.RCX_RETRY i, 31, 16⟩
def F.RCX_RETRY_RETRIES (i : Nat) : Fld := ⟨R.RCX_RETRY i, 15, 0⟩
/-- RCX_MM_INFO (R520). -/
def R.RCX_MM_INFO (i : Nat) : Nat := 0x40300010 + 0x100 * i
def F.RCX_MM_INFO_ENTRY (i : Nat) : Fld := ⟨R.RCX_MM_INFO i, 31, 22⟩
def F.RCX_MM_INFO_KIND (i : Nat) : Fld := ⟨R.RCX_MM_INFO i, 19, 16⟩
def F.RCX_MM_INFO_LOG (i : Nat) : Fld := ⟨R.RCX_MM_INFO i, 3, 3⟩
def F.RCX_MM_INFO_TIMING (i : Nat) : Fld := ⟨R.RCX_MM_INFO i, 2, 2⟩
def F.RCX_MM_INFO_SIG (i : Nat) : Fld := ⟨R.RCX_MM_INFO i, 1, 1⟩
def F.RCX_MM_INFO_RAW (i : Nat) : Fld := ⟨R.RCX_MM_INFO i, 0, 0⟩
/-- RCX_MM_ADDR (R520). -/
def R.RCX_MM_ADDR (i : Nat) : Nat := 0x40300014 + 0x100 * i
def F.RCX_MM_ADDR_ADDR (i : Nat) : Fld := ⟨R.RCX_MM_ADDR i, 31, 0⟩
/-- RCX_ST_TIME (R520). -/
def R.RCX_ST_TIME (i : Nat) : Nat := 0x40300018 + 0x100 * i
def F.RCX_ST_TIME_TIME (i : Nat) : Fld := ⟨R.RCX_ST_TIME i, 31, 0⟩
/-- RCX_ST_CNT (R520). -/
def R.RCX_ST_CNT (i : Nat) : Nat := 0x4030001c + 0x100 * i
def F.RCX_ST_CNT_FAIL (i : Nat) : Fld := ⟨R.RCX_ST_CNT i, 31, 16⟩
def F.RCX_ST_CNT_DONE (i : Nat) : Fld := ⟨R.RCX_ST_CNT i, 15, 0⟩
/-- SEC_POT_BASE_LO (R547). -/
def R.SEC_POT_BASE_LO : Nat := 0x40700000
def F.SEC_POT_BASE_LO_BASE : Fld := ⟨R.SEC_POT_BASE_LO, 31, 16⟩
/-- SEC_POT_BASE_HI (R547). -/
def R.SEC_POT_BASE_HI : Nat := 0x40700004
def F.SEC_POT_BASE_HI_BASE : Fld := ⟨R.SEC_POT_BASE_HI, 7, 0⟩
/-- SEC_POT_CTL (R547). -/
def R.SEC_POT_CTL : Nat := 0x40700008
def F.SEC_POT_CTL_INV_IGN : Fld := ⟨R.SEC_POT_CTL, 1, 1⟩
def F.SEC_POT_CTL_EN : Fld := ⟨R.SEC_POT_CTL, 0, 0⟩
/-- SEC_POT_INV (R547). -/
def R.SEC_POT_INV : Nat := 0x4070000c
def F.SEC_POT_INV_BUSY : Fld := ⟨R.SEC_POT_INV, 31, 31⟩
def F.SEC_POT_INV_FIRST : Fld := ⟨R.SEC_POT_INV, 22, 0⟩
/-- SEC_POT_INV_CNT (R547). -/
def R.SEC_POT_INV_CNT : Nat := 0x40700010
def F.SEC_POT_INV_CNT_COUNT : Fld := ⟨R.SEC_POT_INV_CNT, 22, 0⟩
/-- SEC_POT_MISS (R547). -/
def R.SEC_POT_MISS : Nat := 0x40700014
def F.SEC_POT_MISS_MISS : Fld := ⟨R.SEC_POT_MISS, 31, 0⟩
/-- SEC_REF_LO (R547). -/
def R.SEC_REF_LO : Nat := 0x40700020
def F.SEC_REF_LO_ADDR : Fld := ⟨R.SEC_REF_LO, 31, 0⟩
/-- SEC_REF_HI (R547). -/
def R.SEC_REF_HI : Nat := 0x40700024
def F.SEC_REF_HI_CTX : Fld := ⟨R.SEC_REF_HI, 31, 24⟩
def F.SEC_REF_HI_SEC : Fld := ⟨R.SEC_REF_HI, 23, 23⟩
def F.SEC_REF_HI_KIND : Fld := ⟨R.SEC_REF_HI, 22, 20⟩
def F.SEC_REF_HI_REASON : Fld := ⟨R.SEC_REF_HI, 19, 16⟩
def F.SEC_REF_HI_ADDR : Fld := ⟨R.SEC_REF_HI, 7, 0⟩
/-- SEC_REF_CNT (R547). -/
def R.SEC_REF_CNT : Nat := 0x40700028
def F.SEC_REF_CNT_COUNT : Fld := ⟨R.SEC_REF_CNT, 31, 0⟩
/-- SEC_CTX (R547). -/
def R.SEC_CTX (i : Nat) : Nat := 0x40701000 + 0x4 * i
def F.SEC_CTX_EXISTS (i : Nat) : Fld := ⟨R.SEC_CTX i, 3, 3⟩
def F.SEC_CTX_WORLD (i : Nat) : Fld := ⟨R.SEC_CTX i, 2, 2⟩
def F.SEC_CTX_ROLE (i : Nat) : Fld := ⟨R.SEC_CTX i, 1, 0⟩
/-- SYSCTL_GATE (R548). -/
def R.SYSCTL_GATE (i : Nat) : Nat := 0x40001000 + 0x4 * i
def F.SYSCTL_GATE_PEND_CLK (i : Nat) : Fld := ⟨R.SYSCTL_GATE i, 31, 31⟩
def F.SYSCTL_GATE_PEND_PWR (i : Nat) : Fld := ⟨R.SYSCTL_GATE i, 30, 30⟩
def F.SYSCTL_GATE_CLK_ON (i : Nat) : Fld := ⟨R.SYSCTL_GATE i, 29, 29⟩
def F.SYSCTL_GATE_PWR_ON (i : Nat) : Fld := ⟨R.SYSCTL_GATE i, 28, 28⟩
def F.SYSCTL_GATE_WORLDS (i : Nat) : Fld := ⟨R.SYSCTL_GATE i, 27, 26⟩
def F.SYSCTL_GATE_PWR_OFF (i : Nat) : Fld := ⟨R.SYSCTL_GATE i, 1, 1⟩
def F.SYSCTL_GATE_CLK_OFF (i : Nat) : Fld := ⟨R.SYSCTL_GATE i, 0, 0⟩
/-- SYSCTL_GATE_REL (R548). -/
def R.SYSCTL_GATE_REL (i : Nat) : Nat := 0x40002000 + 0x4 * i
def F.SYSCTL_GATE_REL_REL_PWR (i : Nat) : Fld := ⟨R.SYSCTL_GATE_REL i, 1, 1⟩
def F.SYSCTL_GATE_REL_REL_CLK (i : Nat) : Fld := ⟨R.SYSCTL_GATE_REL i, 0, 0⟩
/-- ATU_INV (R568). -/
def R.ATU_INV : Nat := 0x40800000
def F.ATU_INV_BUSY : Fld := ⟨R.ATU_INV, 31, 31⟩
def F.ATU_INV_ALL : Fld := ⟨R.ATU_INV, 30, 30⟩
def F.ATU_INV_RANGE : Fld := ⟨R.ATU_INV, 29, 29⟩
def F.ATU_INV_CTX : Fld := ⟨R.ATU_INV, 7, 0⟩
/-- ATU_INV_VA_LO (R568). -/
def R.ATU_INV_VA_LO : Nat := 0x40800004
def F.ATU_INV_VA_LO_VA : Fld := ⟨R.ATU_INV_VA_LO, 31, 12⟩
/-- ATU_INV_VA_HI (R568). -/
def R.ATU_INV_VA_HI : Nat := 0x40800008
def F.ATU_INV_VA_HI_VA : Fld := ⟨R.ATU_INV_VA_HI, 6, 0⟩
/-- ATU_INV_CNT (R568). -/
def R.ATU_INV_CNT : Nat := 0x4080000c
def F.ATU_INV_CNT_CNT : Fld := ⟨R.ATU_INV_CNT, 19, 0⟩
/-- ATU_EVT (R568). -/
def R.ATU_EVT : Nat := 0x40800010
def F.ATU_EVT_EVT : Fld := ⟨R.ATU_EVT, 2, 0⟩
/-- ATU_IEN (R568). -/
def R.ATU_IEN : Nat := 0x40800014
/-- ATU_FLT_LOST (R568). -/
def R.ATU_FLT_LOST : Nat := 0x40800018
def F.ATU_FLT_LOST_LOST : Fld := ⟨R.ATU_FLT_LOST, 31, 0⟩
/-- ATU_FLT_VA_LO (R568). -/
def R.ATU_FLT_VA_LO (i : Nat) : Nat := 0x40800100 + 0x10 * i
def F.ATU_FLT_VA_LO_VA (i : Nat) : Fld := ⟨R.ATU_FLT_VA_LO i, 31, 0⟩
/-- ATU_FLT_VA_HI (R568). -/
def R.ATU_FLT_VA_HI (i : Nat) : Nat := 0x40800104 + 0x10 * i
def F.ATU_FLT_VA_HI_VA (i : Nat) : Fld := ⟨R.ATU_FLT_VA_HI i, 31, 0⟩
/-- ATU_FLT_INFO (R568). -/
def R.ATU_FLT_INFO (i : Nat) : Nat := 0x40800108 + 0x10 * i
def F.ATU_FLT_INFO_VALID (i : Nat) : Fld := ⟨R.ATU_FLT_INFO i, 31, 31⟩
def F.ATU_FLT_INFO_WRITE (i : Nat) : Fld := ⟨R.ATU_FLT_INFO i, 30, 30⟩
def F.ATU_FLT_INFO_SRC (i : Nat) : Fld := ⟨R.ATU_FLT_INFO i, 29, 27⟩
def F.ATU_FLT_INFO_UNIT (i : Nat) : Fld := ⟨R.ATU_FLT_INFO i, 26, 20⟩
def F.ATU_FLT_INFO_REASON (i : Nat) : Fld := ⟨R.ATU_FLT_INFO i, 19, 16⟩
def F.ATU_FLT_INFO_GEN (i : Nat) : Fld := ⟨R.ATU_FLT_INFO i, 15, 8⟩
def F.ATU_FLT_INFO_CTX (i : Nat) : Fld := ⟨R.ATU_FLT_INFO i, 7, 0⟩
/-- ATU_ROOT_LO (R568). -/
def R.ATU_ROOT_LO (i : Nat) : Nat := 0x40801000 + 0x40 * i
def F.ATU_ROOT_LO_ADDR (i : Nat) : Fld := ⟨R.ATU_ROOT_LO i, 31, 12⟩
def F.ATU_ROOT_LO_MODE (i : Nat) : Fld := ⟨R.ATU_ROOT_LO i, 3, 0⟩
/-- ATU_ROOT_HI (R568). -/
def R.ATU_ROOT_HI (i : Nat) : Nat := 0x40801004 + 0x40 * i
def F.ATU_ROOT_HI_TCTX (i : Nat) : Fld := ⟨R.ATU_ROOT_HI i, 23, 16⟩
def F.ATU_ROOT_HI_ADDR (i : Nat) : Fld := ⟨R.ATU_ROOT_HI i, 7, 0⟩
/-- ATU_CTX_CTL (R568). -/
def R.ATU_CTX_CTL (i : Nat) : Nat := 0x40801008 + 0x40 * i
def F.ATU_CTX_CTL_OP (i : Nat) : Fld := ⟨R.ATU_CTX_CTL i, 2, 0⟩
/-- ATU_CTX_STAT (R568). -/
def R.ATU_CTX_STAT (i : Nat) : Nat := 0x4080100c + 0x40 * i
def F.ATU_CTX_STAT_GEN (i : Nat) : Fld := ⟨R.ATU_CTX_STAT i, 31, 24⟩
def F.ATU_CTX_STAT_INFLIGHT (i : Nat) : Fld := ⟨R.ATU_CTX_STAT i, 23, 8⟩
def F.ATU_CTX_STAT_REMOVED (i : Nat) : Fld := ⟨R.ATU_CTX_STAT i, 3, 3⟩
def F.ATU_CTX_STAT_STOPPED (i : Nat) : Fld := ⟨R.ATU_CTX_STAT i, 2, 2⟩
def F.ATU_CTX_STAT_BUSY (i : Nat) : Fld := ⟨R.ATU_CTX_STAT i, 1, 1⟩
def F.ATU_CTX_STAT_REFUSED (i : Nat) : Fld := ⟨R.ATU_CTX_STAT i, 0, 0⟩
/-- ATU_DIRTY_BASE_LO (R568). -/
def R.ATU_DIRTY_BASE_LO (i : Nat) : Nat := 0x40801010 + 0x40 * i
def F.ATU_DIRTY_BASE_LO_ADDR (i : Nat) : Fld := ⟨R.ATU_DIRTY_BASE_LO i, 31, 12⟩
/-- ATU_DIRTY_BASE_HI (R568). -/
def R.ATU_DIRTY_BASE_HI (i : Nat) : Nat := 0x40801014 + 0x40 * i
def F.ATU_DIRTY_BASE_HI_ADDR (i : Nat) : Fld := ⟨R.ATU_DIRTY_BASE_HI i, 7, 0⟩
/-- ATU_DIRTY_FIRST (R568). -/
def R.ATU_DIRTY_FIRST (i : Nat) : Nat := 0x40801018 + 0x40 * i
def F.ATU_DIRTY_FIRST_FIRST (i : Nat) : Fld := ⟨R.ATU_DIRTY_FIRST i, 21, 0⟩
/-- ATU_DIRTY_COUNT (R568). -/
def R.ATU_DIRTY_COUNT (i : Nat) : Nat := 0x4080101c + 0x40 * i
def F.ATU_DIRTY_COUNT_COUNT (i : Nat) : Fld := ⟨R.ATU_DIRTY_COUNT i, 22, 0⟩
/-- ATU_DIRTY_CTL (R568). -/
def R.ATU_DIRTY_CTL (i : Nat) : Nat := 0x40801020 + 0x40 * i
def F.ATU_DIRTY_CTL_EN (i : Nat) : Fld := ⟨R.ATU_DIRTY_CTL i, 31, 31⟩
def F.ATU_DIRTY_CTL_SYNC (i : Nat) : Fld := ⟨R.ATU_DIRTY_CTL i, 30, 30⟩
def F.ATU_DIRTY_CTL_BUSY (i : Nat) : Fld := ⟨R.ATU_DIRTY_CTL i, 29, 29⟩
def F.ATU_DIRTY_CTL_OOR (i : Nat) : Fld := ⟨R.ATU_DIRTY_CTL i, 2, 2⟩
def F.ATU_DIRTY_CTL_ERR (i : Nat) : Fld := ⟨R.ATU_DIRTY_CTL i, 1, 1⟩
/-- ATU_STALE_REQ (R568). -/
def R.ATU_STALE_REQ (i : Nat) : Nat := 0x40801024 + 0x40 * i
def F.ATU_STALE_REQ_REQ (i : Nat) : Fld := ⟨R.ATU_STALE_REQ i, 31, 0⟩
/-- ATU_STALE_CPL (R568). -/
def R.ATU_STALE_CPL (i : Nat) : Nat := 0x40801028 + 0x40 * i
def F.ATU_STALE_CPL_CPL (i : Nat) : Fld := ⟨R.ATU_STALE_CPL i, 31, 0⟩
/-- ATU_TFLT (R568). -/
def R.ATU_TFLT (i : Nat) : Nat := 0x4080102c + 0x40 * i
def F.ATU_TFLT_TFLT (i : Nat) : Fld := ⟨R.ATU_TFLT i, 31, 0⟩
/-- MBG_LOG_CTL (R569). -/
def R.MBG_LOG_CTL (i : Nat) (j : Nat) : Nat := 0x43000400 + 0x10000 * i + 0x20 * j
def F.MBG_LOG_CTL_EN (i : Nat) (j : Nat) : Fld := ⟨R.MBG_LOG_CTL i j, 31, 31⟩
def F.MBG_LOG_CTL_ERR (i : Nat) (j : Nat) : Fld := ⟨R.MBG_LOG_CTL i j, 30, 30⟩
def F.MBG_LOG_CTL_SIZE (i : Nat) (j : Nat) : Fld := ⟨R.MBG_LOG_CTL i j, 27, 24⟩
def F.MBG_LOG_CTL_LOG_IRQ (i : Nat) (j : Nat) : Fld := ⟨R.MBG_LOG_CTL i j, 10, 0⟩
/-- MBG_LOG_BASE_LO (R569). -/
def R.MBG_LOG_BASE_LO (i : Nat) (j : Nat) : Nat := 0x43000404 + 0x10000 * i + 0x20 * j
def F.MBG_LOG_BASE_LO_BASE (i : Nat) (j : Nat) : Fld := ⟨R.MBG_LOG_BASE_LO i j, 31, 6⟩
/-- MBG_LOG_BASE_HI (R569). -/
def R.MBG_LOG_BASE_HI (i : Nat) (j : Nat) : Nat := 0x43000408 + 0x10000 * i + 0x20 * j
def F.MBG_LOG_BASE_HI_BASE (i : Nat) (j : Nat) : Fld := ⟨R.MBG_LOG_BASE_HI i j, 31, 0⟩
/-- MBG_LOG_HEAD (R569). -/
def R.MBG_LOG_HEAD (i : Nat) (j : Nat) : Nat := 0x4300040c + 0x10000 * i + 0x20 * j
def F.MBG_LOG_HEAD_HEAD (i : Nat) (j : Nat) : Fld := ⟨R.MBG_LOG_HEAD i j, 11, 0⟩
/-- MBG_LOG_TAIL (R569). -/
def R.MBG_LOG_TAIL (i : Nat) (j : Nat) : Nat := 0x43000410 + 0x10000 * i + 0x20 * j
def F.MBG_LOG_TAIL_TAIL (i : Nat) (j : Nat) : Fld := ⟨R.MBG_LOG_TAIL i j, 11, 0⟩
/-- MBG_LOG_DROP (R569). -/
def R.MBG_LOG_DROP (i : Nat) (j : Nat) : Nat := 0x43000414 + 0x10000 * i + 0x20 * j
def F.MBG_LOG_DROP_DROP (i : Nat) (j : Nat) : Fld := ⟨R.MBG_LOG_DROP i j, 31, 0⟩
/-- NM_EVT (R584). -/
def R.NM_EVT : Nat := 0x50020018
/-- NM_IEN (R584). -/
def R.NM_IEN : Nat := 0x5002001c
def F.NM_IEN_IEN : Fld := ⟨R.NM_IEN, 3, 0⟩
/-- KEEP_EVT (R584). -/
def R.KEEP_EVT : Nat := 0x50070014
/-- KEEP_IEN (R584). -/
def R.KEEP_IEN : Nat := 0x50070018
def F.KEEP_IEN_IEN : Fld := ⟨R.KEEP_IEN, 2, 0⟩
/-- AON_EVT (R584). -/
def R.AON_EVT : Nat := 0x5000000c
/-- AON_IEN (R584). -/
def R.AON_IEN : Nat := 0x50000010
def F.AON_IEN_IEN : Fld := ⟨R.AON_IEN, 1, 0⟩
/-- BRG_CTL (R591). -/
def R.BRG_CTL : Nat := 0x40c00000
def F.BRG_CTL_NP_ALL : Fld := ⟨R.BRG_CTL, 31, 31⟩
def F.BRG_CTL_CPL_TMO : Fld := ⟨R.BRG_CTL, 7, 0⟩
/-- BRG_STAT (R591). -/
def R.BRG_STAT : Nat := 0x40c00004
def F.BRG_STAT_TAGS : Fld := ⟨R.BRG_STAT, 21, 16⟩
def F.BRG_STAT_PQ : Fld := ⟨R.BRG_STAT, 15, 8⟩
def F.BRG_STAT_SEMS : Fld := ⟨R.BRG_STAT, 3, 0⟩
/-- BRG_EVT (R591). -/
def R.BRG_EVT : Nat := 0x40c00010
def F.BRG_EVT_EVT : Fld := ⟨R.BRG_EVT, 2, 0⟩
/-- BRG_IEN (R591). -/
def R.BRG_IEN : Nat := 0x40c00014
/-- BRG_RD_BASE (R591). -/
def R.BRG_RD_BASE (i : Nat) : Nat := 0x40c00100 + 0x10 * i
def F.BRG_RD_BASE_BASE (i : Nat) : Fld := ⟨R.BRG_RD_BASE i, 13, 0⟩
/-- BRG_RD_LIMIT (R591). -/
def R.BRG_RD_LIMIT (i : Nat) : Nat := 0x40c00104 + 0x10 * i
def F.BRG_RD_LIMIT_LIMIT (i : Nat) : Fld := ⟨R.BRG_RD_LIMIT i, 13, 0⟩
/-- BRG_RD_CTL (R591). -/
def R.BRG_RD_CTL (i : Nat) : Nat := 0x40c00108 + 0x10 * i
def F.BRG_RD_CTL_NP (i : Nat) : Fld := ⟨R.BRG_RD_CTL i, 1, 1⟩
def F.BRG_RD_CTL_EN (i : Nat) : Fld := ⟨R.BRG_RD_CTL i, 0, 0⟩
/-- BRG_LL_ADDR (R591). -/
def R.BRG_LL_ADDR (i : Nat) : Nat := 0x40c00200 + 0x10 * i
def F.BRG_LL_ADDR_ADDR (i : Nat) : Fld := ⟨R.BRG_LL_ADDR i, 25, 0⟩
/-- BRG_LL_INFO (R591). -/
def R.BRG_LL_INFO (i : Nat) : Nat := 0x40c00204 + 0x10 * i
def F.BRG_LL_INFO_VALID (i : Nat) : Fld := ⟨R.BRG_LL_INFO i, 31, 31⟩
def F.BRG_LL_INFO_REASON (i : Nat) : Fld := ⟨R.BRG_LL_INFO i, 27, 24⟩
def F.BRG_LL_INFO_GEN (i : Nat) : Fld := ⟨R.BRG_LL_INFO i, 23, 16⟩
def F.BRG_LL_INFO_CTX (i : Nat) : Fld := ⟨R.BRG_LL_INFO i, 15, 8⟩
/-- BRG_LL_SEQ (R591). -/
def R.BRG_LL_SEQ (i : Nat) : Nat := 0x40c00208 + 0x10 * i
def F.BRG_LL_SEQ_BSEQ (i : Nat) : Fld := ⟨R.BRG_LL_SEQ i, 15, 0⟩
/-- BRG_LL_DATA (R591). -/
def R.BRG_LL_DATA (i : Nat) : Nat := 0x40c0020c + 0x10 * i
def F.BRG_LL_DATA_DATA (i : Nat) : Fld := ⟨R.BRG_LL_DATA i, 31, 0⟩
/-- BRG_LATE_LOST (R591). -/
def R.BRG_LATE_LOST : Nat := 0x40c00300
def F.BRG_LATE_LOST_LOST : Fld := ⟨R.BRG_LATE_LOST, 31, 0⟩
/-- BRG_LATE_ERR (R591). -/
def R.BRG_LATE_ERR (i : Nat) : Nat := 0x40c00310 + 0x4 * i
def F.BRG_LATE_ERR_LATE_ERR (i : Nat) : Fld := ⟨R.BRG_LATE_ERR i, 31, 0⟩
/-- BRG_LINK (R591). -/
def R.BRG_LINK (i : Nat) : Nat := 0x40c00400 + 0x4 * i
def F.BRG_LINK_UP (i : Nat) : Fld := ⟨R.BRG_LINK i, 31, 31⟩
def F.BRG_LINK_FAIL (i : Nat) : Fld := ⟨R.BRG_LINK i, 23, 16⟩
def F.BRG_LINK_RESENT (i : Nat) : Fld := ⟨R.BRG_LINK i, 15, 0⟩
/-- BRG_SEM (R591). -/
def R.BRG_SEM (i : Nat) : Nat := 0x40c00500 + 0x4 * i
def F.BRG_SEM_HELD (i : Nat) : Fld := ⟨R.BRG_SEM i, 31, 31⟩
def F.BRG_SEM_AMO (i : Nat) : Fld := ⟨R.BRG_SEM i, 30, 30⟩
def F.BRG_SEM_HART (i : Nat) : Fld := ⟨R.BRG_SEM i, 28, 24⟩
def F.BRG_SEM_WORD (i : Nat) : Fld := ⟨R.BRG_SEM i, 23, 0⟩
/-- BRG_MID (R591). -/
def R.BRG_MID (i : Nat) : Nat := 0x40c01000 + 0x4 * i
def F.BRG_MID_IDENT (i : Nat) : Fld := ⟨R.BRG_MID i, 10, 0⟩
/-- CVU_PROF_POLY (R605). -/
def R.CVU_PROF_POLY (i : Nat) : Nat := 0x40b00040 + 0x10 * i
def F.CVU_PROF_POLY_POLY (i : Nat) : Fld := ⟨R.CVU_PROF_POLY i, 31, 0⟩
/-- CVU_PROF_INIT (R605). -/
def R.CVU_PROF_INIT (i : Nat) : Nat := 0x40b00044 + 0x10 * i
def F.CVU_PROF_INIT_INIT (i : Nat) : Fld := ⟨R.CVU_PROF_INIT i, 31, 0⟩
/-- CVU_PROF_XOR (R605). -/
def R.CVU_PROF_XOR (i : Nat) : Nat := 0x40b00048 + 0x10 * i
def F.CVU_PROF_XOR_XOROUT (i : Nat) : Fld := ⟨R.CVU_PROF_XOR i, 31, 0⟩
/-- CVU_PROF_CFG (R605). -/
def R.CVU_PROF_CFG (i : Nat) : Nat := 0x40b0004c + 0x10 * i
def F.CVU_PROF_CFG_ORDER (i : Nat) : Fld := ⟨R.CVU_PROF_CFG i, 10, 10⟩
def F.CVU_PROF_CFG_REFOUT (i : Nat) : Fld := ⟨R.CVU_PROF_CFG i, 9, 9⟩
def F.CVU_PROF_CFG_REFIN (i : Nat) : Fld := ⟨R.CVU_PROF_CFG i, 8, 8⟩
def F.CVU_PROF_CFG_WIDTH (i : Nat) : Fld := ⟨R.CVU_PROF_CFG i, 5, 0⟩
/-- RING_CTL (R606). -/
def R.RING_CTL (i : Nat) : Nat := 0x40b01000 + 0x100 * i
def F.RING_CTL_EN (i : Nat) : Fld := ⟨R.RING_CTL i, 31, 31⟩
def F.RING_CTL_MM_FS (i : Nat) : Fld := ⟨R.RING_CTL i, 30, 30⟩
def F.RING_CTL_SIZE (i : Nat) : Fld := ⟨R.RING_CTL i, 27, 24⟩
/-- RING_BASE_LO (R606). -/
def R.RING_BASE_LO (i : Nat) : Nat := 0x40b01004 + 0x100 * i
def F.RING_BASE_LO_BASE (i : Nat) : Fld := ⟨R.RING_BASE_LO i, 31, 6⟩
/-- RING_BASE_HI (R606). -/
def R.RING_BASE_HI (i : Nat) : Nat := 0x40b01008 + 0x100 * i
def F.RING_BASE_HI_BASE (i : Nat) : Fld := ⟨R.RING_BASE_HI i, 31, 0⟩
/-- RING_HEAD (R606). -/
def R.RING_HEAD (i : Nat) : Nat := 0x40b0100c + 0x100 * i
def F.RING_HEAD_HEAD (i : Nat) : Fld := ⟨R.RING_HEAD i, 11, 0⟩
/-- RING_TAIL (R606). -/
def R.RING_TAIL (i : Nat) : Nat := 0x40b01010 + 0x100 * i
def F.RING_TAIL_TAIL (i : Nat) : Fld := ⟨R.RING_TAIL i, 11, 0⟩
/-- RING_STAT (R606). -/
def R.RING_STAT (i : Nat) : Nat := 0x40b01014 + 0x100 * i
def F.RING_STAT_FETCH_ERR (i : Nat) : Fld := ⟨R.RING_STAT i, 1, 1⟩
def F.RING_STAT_BUSY (i : Nat) : Fld := ⟨R.RING_STAT i, 0, 0⟩
/-- RING_EVT (R606). -/
def R.RING_EVT (i : Nat) : Nat := 0x40b01018 + 0x100 * i
def F.RING_EVT_EVT (i : Nat) : Fld := ⟨R.RING_EVT i, 2, 0⟩
/-- RING_IEN (R606). -/
def R.RING_IEN (i : Nat) : Nat := 0x40b0101c + 0x100 * i
/-- RING_DONE (R606). -/
def R.RING_DONE (i : Nat) : Nat := 0x40b01020 + 0x100 * i
def F.RING_DONE_DONE (i : Nat) : Fld := ⟨R.RING_DONE i, 31, 0⟩
/-- RING_FAILS (R606). -/
def R.RING_FAILS (i : Nat) : Nat := 0x40b01024 + 0x100 * i
def F.RING_FAILS_FAILS (i : Nat) : Fld := ⟨R.RING_FAILS i, 31, 0⟩
/-- KV_CMD (R634). -/
def R.KV_CMD : Nat := 0x40900000
def F.KV_CMD_BUSY : Fld := ⟨R.KV_CMD, 31, 31⟩
def F.KV_CMD_OP : Fld := ⟨R.KV_CMD, 27, 24⟩
def F.KV_CMD_SLOT : Fld := ⟨R.KV_CMD, 21, 16⟩
def F.KV_CMD_SRC_DS : Fld := ⟨R.KV_CMD, 14, 14⟩
def F.KV_CMD_SRC : Fld := ⟨R.KV_CMD, 13, 8⟩
def F.KV_CMD_ARG : Fld := ⟨R.KV_CMD, 7, 0⟩
/-- KV_RESULT (R634). -/
def R.KV_RESULT : Nat := 0x40900004
def F.KV_RESULT_CODE : Fld := ⟨R.KV_RESULT, 3, 0⟩
/-- KV_ATTR_STAGE (R634). -/
def R.KV_ATTR_STAGE : Nat := 0x40900008
def F.KV_ATTR_STAGE_ATTR : Fld := ⟨R.KV_ATTR_STAGE, 27, 8⟩
/-- KV_STAT (R634). -/
def R.KV_STAT : Nat := 0x4090000c
def F.KV_STAT_DS_OFF : Fld := ⟨R.KV_STAT, 31, 31⟩
def F.KV_STAT_TAMPERED : Fld := ⟨R.KV_STAT, 30, 30⟩
def F.KV_STAT_AK_VALID : Fld := ⟨R.KV_STAT, 29, 29⟩
def F.KV_STAT_SK_VALID : Fld := ⟨R.KV_STAT, 28, 28⟩
def F.KV_STAT_HK_VALID : Fld := ⟨R.KV_STAT, 27, 27⟩
def F.KV_STAT_DBG_LEVEL : Fld := ⟨R.KV_STAT, 25, 24⟩
/-- KV_DERIVE (R634). -/
def R.KV_DERIVE : Nat := 0x40900018
def F.KV_DERIVE_LLEN : Fld := ⟨R.KV_DERIVE, 13, 8⟩
def F.KV_DERIVE_MA_SEL : Fld := ⟨R.KV_DERIVE, 7, 0⟩
/-- KV_EVT (R634). -/
def R.KV_EVT : Nat := 0x40900010
def F.KV_EVT_EVT : Fld := ⟨R.KV_EVT, 1, 0⟩
/-- KV_IEN (R634). -/
def R.KV_IEN : Nat := 0x40900014
/-- KV_DATA (R634). -/
def R.KV_DATA (i : Nat) : Nat := 0x40900100 + 0x4 * i
def F.KV_DATA_DATA (i : Nat) : Fld := ⟨R.KV_DATA i, 31, 0⟩
/-- KV_SLOT (R634). -/
def R.KV_SLOT (i : Nat) : Nat := 0x40900200 + 0x4 * i
def F.KV_SLOT_FULL (i : Nat) : Fld := ⟨R.KV_SLOT i, 31, 31⟩
def F.KV_SLOT_PERSIST (i : Nat) : Fld := ⟨R.KV_SLOT i, 30, 30⟩
def F.KV_SLOT_TYPE (i : Nat) : Fld := ⟨R.KV_SLOT i, 27, 24⟩
def F.KV_SLOT_MSEC_PORT (i : Nat) : Fld := ⟨R.KV_SLOT i, 23, 19⟩
def F.KV_SLOT_HUB (i : Nat) : Fld := ⟨R.KV_SLOT i, 18, 18⟩
def F.KV_SLOT_DERIVE (i : Nat) : Fld := ⟨R.KV_SLOT i, 17, 17⟩
def F.KV_SLOT_ENG (i : Nat) : Fld := ⟨R.KV_SLOT i, 11, 8⟩
/-- KV_MA (R634). -/
def R.KV_MA (i : Nat) (j : Nat) : Nat := 0x40900400 + 0x40 * i + 0x4 * j
def F.KV_MA_MA (i : Nat) (j : Nat) : Fld := ⟨R.KV_MA i j, 31, 0⟩
/-- KV_ATT (R634). -/
def R.KV_ATT (i : Nat) : Nat := 0x40901000 + 0x4 * i
def F.KV_ATT_ATT (i : Nat) : Fld := ⟨R.KV_ATT i, 31, 0⟩
/-- CRY_PWR (R634). -/
def R.CRY_PWR (i : Nat) : Nat := 0x40a00000 + 0x4 * i
def F.CRY_PWR_PWR (i : Nat) : Fld := ⟨R.CRY_PWR i, 15, 0⟩
/-- CRY_BULK (R634). -/
def R.CRY_BULK : Nat := 0x40a00010
def F.CRY_BULK_KB : Fld := ⟨R.CRY_BULK, 15, 0⟩
/-- TAMPER_CFG (R634). -/
def R.TAMPER_CFG : Nat := 0x50040000
/-- TAMPER_STAT (R634). -/
def R.TAMPER_STAT : Nat := 0x50040004
def F.TAMPER_STAT_PENDING : Fld := ⟨R.TAMPER_STAT, 31, 31⟩
def F.TAMPER_STAT_HARD : Fld := ⟨R.TAMPER_STAT, 30, 30⟩
def F.TAMPER_STAT_ACK : Fld := ⟨R.TAMPER_STAT, 22, 16⟩
def F.TAMPER_STAT_COUNT : Fld := ⟨R.TAMPER_STAT, 14, 8⟩
def F.TAMPER_STAT_LIVE : Fld := ⟨R.TAMPER_STAT, 7, 0⟩
/-- TAMPER_EVT (R634). -/
def R.TAMPER_EVT : Nat := 0x50040008
def F.TAMPER_EVT_EVT : Fld := ⟨R.TAMPER_EVT, 7, 0⟩
/-- TAMPER_IEN (R634). -/
def R.TAMPER_IEN : Nat := 0x5004000c
def F.TAMPER_IEN_IEN : Fld := ⟨R.TAMPER_IEN, 7, 0⟩
/-- TAMPER_LOG_LO (R634). -/
def R.TAMPER_LOG_LO (i : Nat) : Nat := 0x50040100 + 0x8 * i
def F.TAMPER_LOG_LO_STATE (i : Nat) : Fld := ⟨R.TAMPER_LOG_LO i, 23, 16⟩
def F.TAMPER_LOG_LO_SOURCE (i : Nat) : Fld := ⟨R.TAMPER_LOG_LO i, 15, 8⟩
def F.TAMPER_LOG_LO_LEVEL (i : Nat) : Fld := ⟨R.TAMPER_LOG_LO i, 1, 0⟩
/-- TAMPER_LOG_HI (R634). -/
def R.TAMPER_LOG_HI (i : Nat) : Nat := 0x50040104 + 0x8 * i
def F.TAMPER_LOG_HI_SEC (i : Nat) : Fld := ⟨R.TAMPER_LOG_HI i, 31, 0⟩
/-- FCU_CFG (R654). -/
def R.FCU_CFG : Nat := 0x40400000
def F.FCU_CFG_HO_IDENT : Fld := ⟨R.FCU_CFG, 30, 20⟩
def F.FCU_CFG_RST_LINE : Fld := ⟨R.FCU_CFG, 19, 16⟩
def F.FCU_CFG_RST_TMO : Fld := ⟨R.FCU_CFG, 15, 8⟩
def F.FCU_CFG_SV4_ACT : Fld := ⟨R.FCU_CFG, 0, 0⟩
/-- FCU_STAT (R654). -/
def R.FCU_STAT : Nat := 0x40400004
def F.FCU_STAT_LOG_OVF : Fld := ⟨R.FCU_STAT, 31, 16⟩
def F.FCU_STAT_LOG_COUNT : Fld := ⟨R.FCU_STAT, 14, 8⟩
def F.FCU_STAT_FAULT : Fld := ⟨R.FCU_STAT, 3, 3⟩
def F.FCU_STAT_SV_MAX : Fld := ⟨R.FCU_STAT, 2, 0⟩
/-- FCU_TEST (R654). -/
def R.FCU_TEST : Nat := 0x40400010
def F.FCU_TEST_KEY : Fld := ⟨R.FCU_TEST, 31, 24⟩
def F.FCU_TEST_SRC : Fld := ⟨R.FCU_TEST, 8, 0⟩
/-- FCU_ACTIVE (R654). -/
def R.FCU_ACTIVE (i : Nat) : Nat := 0x40400100 + 0x4 * i
def F.FCU_ACTIVE_ACTIVE (i : Nat) : Fld := ⟨R.FCU_ACTIVE i, 31, 0⟩
/-- FCU_PEND (R654). -/
def R.FCU_PEND (i : Nat) : Nat := 0x40400140 + 0x4 * i
def F.FCU_PEND_PEND (i : Nat) : Fld := ⟨R.FCU_PEND i, 31, 0⟩
/-- FCU_RST_PEND (R654). -/
def R.FCU_RST_PEND (i : Nat) : Nat := 0x40400180 + 0x4 * i
def F.FCU_RST_PEND_RST (i : Nat) : Fld := ⟨R.FCU_RST_PEND i, 31, 0⟩
/-- FCU_CLASS (R654). -/
def R.FCU_CLASS (i : Nat) : Nat := 0x40400200 + 0x4 * i
def F.FCU_CLASS_LINE (i : Nat) : Fld := ⟨R.FCU_CLASS i, 27, 24⟩
def F.FCU_CLASS_ACK_WIN (i : Nat) : Fld := ⟨R.FCU_CLASS i, 23, 16⟩
def F.FCU_CLASS_RLIM (i : Nat) : Fld := ⟨R.FCU_CLASS i, 15, 8⟩
def F.FCU_CLASS_QUIET (i : Nat) : Fld := ⟨R.FCU_CLASS i, 7, 0⟩
/-- FCU_LOG (R654). -/
def R.FCU_LOG : Nat := 0x40400400
/-- FCU_LOG_TS (R654). -/
def R.FCU_LOG_TS : Nat := 0x40400404
def F.FCU_LOG_TS_TS : Fld := ⟨R.FCU_LOG_TS, 31, 0⟩
/-- FCU_LOG_DET (R654). -/
def R.FCU_LOG_DET : Nat := 0x40400408
def F.FCU_LOG_DET_DET : Fld := ⟨R.FCU_LOG_DET, 31, 0⟩
/-- FCU_LOG_POP (R654). -/
def R.FCU_LOG_POP : Nat := 0x4040040c
def F.FCU_LOG_POP_POP : Fld := ⟨R.FCU_LOG_POP, 0, 0⟩
/-- FCU_SRC (R654). -/
def R.FCU_SRC (i : Nat) : Nat := 0x40401000 + 0x4 * i
def F.FCU_SRC_ACTIVE (i : Nat) : Fld := ⟨R.FCU_SRC i, 30, 30⟩
def F.FCU_SRC_PEND (i : Nat) : Fld := ⟨R.FCU_SRC i, 29, 29⟩
def F.FCU_SRC_REVERTED (i : Nat) : Fld := ⟨R.FCU_SRC i, 28, 28⟩
def F.FCU_SRC_RCNT (i : Nat) : Fld := ⟨R.FCU_SRC i, 27, 20⟩
def F.FCU_SRC_RCLR (i : Nat) : Fld := ⟨R.FCU_SRC i, 18, 18⟩
def F.FCU_SRC_ACK (i : Nat) : Fld := ⟨R.FCU_SRC i, 17, 17⟩
def F.FCU_SRC_CLR (i : Nat) : Fld := ⟨R.FCU_SRC i, 16, 16⟩
def F.FCU_SRC_ESC (i : Nat) : Fld := ⟨R.FCU_SRC i, 12, 12⟩
def F.FCU_SRC_HO (i : Nat) : Fld := ⟨R.FCU_SRC i, 10, 8⟩
def F.FCU_SRC_MODE (i : Nat) : Fld := ⟨R.FCU_SRC i, 5, 4⟩
def F.FCU_SRC_SEV (i : Nat) : Fld := ⟨R.FCU_SRC i, 2, 0⟩
/-- FCU_CNT (R654). -/
def R.FCU_CNT (i : Nat) : Nat := 0x40402000 + 0x4 * i
def F.FCU_CNT_RAISED (i : Nat) : Fld := ⟨R.FCU_CNT i, 15, 0⟩
/-- KEEP_PINS (R655). -/
def R.KEEP_PINS : Nat := 0x50070008
def F.KEEP_PINS_FAULT_N : Fld := ⟨R.KEEP_PINS, 31, 31⟩
def F.KEEP_PINS_ALIVE_RUN : Fld := ⟨R.KEEP_PINS, 30, 30⟩
def F.KEEP_PINS_WHY : Fld := ⟨R.KEEP_PINS, 3, 0⟩
/-- KEEP_SV4 (R655). -/
def R.KEEP_SV4 : Nat := 0x5007000c
def F.KEEP_SV4_VALID : Fld := ⟨R.KEEP_SV4, 31, 31⟩
def F.KEEP_SV4_SRC : Fld := ⟨R.KEEP_SV4, 8, 0⟩
/-- KEEP_SV4_SEC (R655). -/
def R.KEEP_SV4_SEC : Nat := 0x50070010
def F.KEEP_SV4_SEC_SEC : Fld := ⟨R.KEEP_SV4_SEC, 31, 0⟩
/-- RESP_CTL (R655). -/
def R.RESP_CTL : Nat := 0x50050000
def F.RESP_CTL_EN : Fld := ⟨R.RESP_CTL, 31, 31⟩
/-- RESP_FRESH_LO (R655). -/
def R.RESP_FRESH_LO : Nat := 0x50050008
def F.RESP_FRESH_LO_FRESH : Fld := ⟨R.RESP_FRESH_LO, 31, 0⟩
/-- RESP_FRESH_HI (R655). -/
def R.RESP_FRESH_HI : Nat := 0x5005000c
def F.RESP_FRESH_HI_FRESH : Fld := ⟨R.RESP_FRESH_HI, 31, 0⟩
/-- RESP_STAT (R655). -/
def R.RESP_STAT : Nat := 0x50050010
def F.RESP_STAT_ACTIVE : Fld := ⟨R.RESP_STAT, 31, 31⟩
def F.RESP_STAT_BLOCKED : Fld := ⟨R.RESP_STAT, 30, 30⟩
def F.RESP_STAT_AUTH_FAIL : Fld := ⟨R.RESP_STAT, 15, 0⟩
/-- RESP_CNT (R655). -/
def R.RESP_CNT : Nat := 0x50050014
def F.RESP_CNT_ACCEPTED : Fld := ⟨R.RESP_CNT, 31, 0⟩
/-- LR_DATA_LO (R424). -/
def R.LR_DATA_LO (i : Nat) (j : Nat) : Nat := 0x43101004 + 0x4000 * i + 0x10 * j
/-- LR_DATA_HI (R424). -/
def R.LR_DATA_HI (i : Nat) (j : Nat) : Nat := 0x43101008 + 0x4000 * i + 0x10 * j
/-- ETH_CNT (R392). -/
def R.ETH_CNT (i : Nat) (j : Nat) : Nat := 0x42000100 + 0x10000 * i + 0x4 * j
def F.ETH_CNT_CNT (i : Nat) (j : Nat) : Fld := ⟨R.ETH_CNT i j, 31, 0⟩
/-- ETH_CNT_SH (R392). -/
def R.ETH_CNT_SH (i : Nat) (j : Nat) : Nat := 0x42000180 + 0x10000 * i + 0x4 * j
/-- ETH_TALLY (R392). -/
def R.ETH_TALLY (i : Nat) : Nat := 0x420001fc + 0x10000 * i
def F.ETH_TALLY_STALE (i : Nat) : Fld := ⟨R.ETH_TALLY i, 31, 31⟩
def F.ETH_TALLY_SEQ (i : Nat) : Fld := ⟨R.ETH_TALLY i, 15, 0⟩
/-- CAN_CNT (R421). -/
def R.CAN_CNT (i : Nat) (j : Nat) : Nat := 0x43000100 + 0x10000 * i + 0x4 * j
def F.CAN_CNT_CNT (i : Nat) (j : Nat) : Fld := ⟨R.CAN_CNT i j, 31, 0⟩
/-- CAN_CNT_SH (R421). -/
def R.CAN_CNT_SH (i : Nat) (j : Nat) : Nat := 0x43000180 + 0x10000 * i + 0x4 * j
/-- CAN_TALLY (R421). -/
def R.CAN_TALLY (i : Nat) : Nat := 0x430001fc + 0x10000 * i
def F.CAN_TALLY_STALE (i : Nat) : Fld := ⟨R.CAN_TALLY i, 31, 31⟩
def F.CAN_TALLY_SEQ (i : Nat) : Fld := ⟨R.CAN_TALLY i, 15, 0⟩
/-- LIN_CNT (R424). -/
def R.LIN_CNT (i : Nat) (j : Nat) : Nat := 0x43100080 + 0x4000 * i + 0x4 * j
def F.LIN_CNT_CNT (i : Nat) (j : Nat) : Fld := ⟨R.LIN_CNT i j, 31, 0⟩
/-- LIN_CNT_SH (R424). -/
def R.LIN_CNT_SH (i : Nat) (j : Nat) : Nat := 0x431000c0 + 0x4000 * i + 0x4 * j
/-- LIN_TALLY (R424). -/
def R.LIN_TALLY (i : Nat) : Nat := 0x431000fc + 0x4000 * i
def F.LIN_TALLY_STALE (i : Nat) : Fld := ⟨R.LIN_TALLY i, 31, 31⟩
def F.LIN_TALLY_SEQ (i : Nat) : Fld := ⟨R.LIN_TALLY i, 15, 0⟩
/-- FIFO_CS (R422). -/
def R.FIFO_CS (i : Nat) : Nat := 0x43000300 + 0x10000 * i
/-- FIFO_ID (R422). -/
def R.FIFO_ID (i : Nat) : Nat := 0x43000304 + 0x10000 * i
/-- FIFO_TS (R422). -/
def R.FIFO_TS (i : Nat) : Nat := 0x43000308 + 0x10000 * i
/-- FIFO_DATA (R422). -/
def R.FIFO_DATA (i : Nat) (j : Nat) : Nat := 0x43000320 + 0x10000 * i + 0x4 * j
/-- SA_MEM (R391). -/
def R.SA_MEM (i : Nat) (j : Nat) : Nat := 0x42001100 + 0x10000 * i + 0x4 * j
/-- VLAN_MEMBER (R329). -/
def R.VLAN_MEMBER (i : Nat) : Nat := 0x41110000 + 0x10 * i
def F.VLAN_MEMBER_MEMBER (i : Nat) : Fld := ⟨R.VLAN_MEMBER i, 28, 0⟩
/-- VLAN_UNTAG (R329). -/
def R.VLAN_UNTAG (i : Nat) : Nat := 0x41110004 + 0x10 * i
def F.VLAN_UNTAG_UNTAG (i : Nat) : Fld := ⟨R.VLAN_UNTAG i, 28, 0⟩
/-- VLAN_CFG (R329). -/
def R.VLAN_CFG (i : Nat) : Nat := 0x41110008 + 0x10 * i
def F.VLAN_CFG_VALID (i : Nat) : Fld := ⟨R.VLAN_CFG i, 31, 31⟩
def F.VLAN_CFG_UNK_MC_DROP (i : Nat) : Fld := ⟨R.VLAN_CFG i, 30, 30⟩
def F.VLAN_CFG_UNK_UC_DROP (i : Nat) : Fld := ⟨R.VLAN_CFG i, 29, 29⟩
def F.VLAN_CFG_LEARN_DIS (i : Nat) : Fld := ⟨R.VLAN_CFG i, 28, 28⟩
def F.VLAN_CFG_FLOOD_MCG (i : Nat) : Fld := ⟨R.VLAN_CFG i, 25, 16⟩
def F.VLAN_CFG_FID (i : Nat) : Fld := ⟨R.VLAN_CFG i, 11, 0⟩
/-- MCG (R334). -/
def R.MCG (i : Nat) : Nat := 0x41120000 + 0x4 * i
def F.MCG_MASK (i : Nat) : Fld := ⟨R.MCG i, 28, 0⟩
/-- SID (R335). -/
def R.SID (i : Nat) (j : Nat) : Nat := 0x41130000 + 0x10 * i + 0x4 * j
/-- SFILT0 (R336). -/
def R.SFILT0 (i : Nat) : Nat := 0x41140000 + 0x10 * i
def F.SFILT0_EN (i : Nat) : Fld := ⟨R.SFILT0 i, 31, 31⟩
def F.SFILT0_METER_EN (i : Nat) : Fld := ⟨R.SFILT0 i, 26, 26⟩
def F.SFILT0_METER (i : Nat) : Fld := ⟨R.SFILT0 i, 25, 16⟩
def F.SFILT0_GATE_EN (i : Nat) : Fld := ⟨R.SFILT0 i, 8, 8⟩
def F.SFILT0_GATE (i : Nat) : Fld := ⟨R.SFILT0 i, 7, 0⟩
/-- SFILT1 (R336). -/
def R.SFILT1 (i : Nat) : Nat := 0x41140004 + 0x10 * i
def F.SFILT1_BLOCKED (i : Nat) : Fld := ⟨R.SFILT1 i, 17, 17⟩
def F.SFILT1_BLOCK_EN (i : Nat) : Fld := ⟨R.SFILT1 i, 16, 16⟩
def F.SFILT1_MAX_SDU (i : Nat) : Fld := ⟨R.SFILT1 i, 13, 0⟩
/-- SFILT2 (R336). -/
def R.SFILT2 (i : Nat) : Nat := 0x41140008 + 0x10 * i
def F.SFILT2_SGF_EN (i : Nat) : Fld := ⟨R.SFILT2 i, 31, 31⟩
def F.SFILT2_SGF (i : Nat) : Fld := ⟨R.SFILT2 i, 23, 16⟩
def F.SFILT2_SRF_EN (i : Nat) : Fld := ⟨R.SFILT2 i, 15, 15⟩
def F.SFILT2_SRF (i : Nat) : Fld := ⟨R.SFILT2 i, 8, 0⟩
/-- SGATE (R338). -/
def R.SGATE (i : Nat) (j : Nat) : Nat := 0x41150000 + 0x100 * i + 0x4 * j
/-- METER0 (R340). -/
def R.METER0 (i : Nat) : Nat := 0x41160000 + 0x10 * i
def F.METER0_MARK_RED (i : Nat) : Fld := ⟨R.METER0 i, 28, 28⟩
def F.METER0_MARK_RED_EN (i : Nat) : Fld := ⟨R.METER0 i, 27, 27⟩
def F.METER0_DROP_YELLOW (i : Nat) : Fld := ⟨R.METER0 i, 26, 26⟩
def F.METER0_CM (i : Nat) : Fld := ⟨R.METER0 i, 25, 25⟩
def F.METER0_CF (i : Nat) : Fld := ⟨R.METER0 i, 24, 24⟩
def F.METER0_CIR (i : Nat) : Fld := ⟨R.METER0 i, 23, 0⟩
/-- METER_EIR (R340). -/
def R.METER_EIR (i : Nat) : Nat := 0x41160004 + 0x10 * i
def F.METER_EIR_EIR (i : Nat) : Fld := ⟨R.METER_EIR i, 23, 0⟩
/-- METER_CBS (R340). -/
def R.METER_CBS (i : Nat) : Nat := 0x41160008 + 0x10 * i
def F.METER_CBS_CBS (i : Nat) : Fld := ⟨R.METER_CBS i, 23, 0⟩
/-- METER_EBS (R340). -/
def R.METER_EBS (i : Nat) : Nat := 0x4116000c + 0x10 * i
def F.METER_EBS_EBS (i : Nat) : Fld := ⟨R.METER_EBS i, 23, 0⟩
/-- SGF0 (R341). -/
def R.SGF0 (i : Nat) : Nat := 0x41170000 + 0x8 * i
def F.SGF0_EN (i : Nat) : Fld := ⟨R.SGF0 i, 31, 31⟩
def F.SGF0_GEN_SEQ (i : Nat) : Fld := ⟨R.SGF0 i, 15, 0⟩
/-- SRF_CFG (R342). -/
def R.SRF_CFG (i : Nat) : Nat := 0x41180000 + 0x40 * i
def F.SRF_CFG_EN (i : Nat) : Fld := ⟨R.SRF_CFG i, 31, 31⟩
def F.SRF_CFG_ALG (i : Nat) : Fld := ⟨R.SRF_CFG i, 30, 30⟩
def F.SRF_CFG_TAKE_NO_SEQ (i : Nat) : Fld := ⟨R.SRF_CFG i, 29, 29⟩
def F.SRF_CFG_STRIP (i : Nat) : Fld := ⟨R.SRF_CFG i, 28, 28⟩
def F.SRF_CFG_HIST (i : Nat) : Fld := ⟨R.SRF_CFG i, 20, 16⟩
def F.SRF_CFG_RESET_MS (i : Nat) : Fld := ⟨R.SRF_CFG i, 15, 0⟩
/-- SRF_STATE (R343). -/
def R.SRF_STATE (i : Nat) : Nat := 0x41180004 + 0x40 * i
def F.SRF_STATE_RECOV_SEQ (i : Nat) : Fld := ⟨R.SRF_STATE i, 15, 0⟩
/-- SRF_CNT (R357). -/
def R.SRF_CNT (i : Nat) (j : Nat) : Nat := 0x41180008 + 0x40 * i + 0x4 * j
def F.SRF_CNT_CNT (i : Nat) (j : Nat) : Fld := ⟨R.SRF_CNT i j, 31, 0⟩
/-- FLT_CNT (R357). -/
def R.FLT_CNT (i : Nat) (j : Nat) : Nat := 0x41300000 + 0x20 * i + 0x4 * j
def F.FLT_CNT_CNT (i : Nat) (j : Nat) : Fld := ⟨R.FLT_CNT i j, 31, 0⟩
/-- QBV_ADM (R364). -/
def R.QBV_ADM (i : Nat) (j : Nat) : Nat := 0x411a0010 + 0x2000 * i + 0x4 * j
/-- QBV_ADM_E (R364). -/
def R.QBV_ADM_E (i : Nat) (j : Nat) : Nat := 0x411a0800 + 0x2000 * i + 0x4 * j
/-- QBV_OPR (R364). -/
def R.QBV_OPR (i : Nat) (j : Nat) : Nat := 0x411a1000 + 0x2000 * i + 0x4 * j
/-- QBV_OPR_E (R364). -/
def R.QBV_OPR_E (i : Nat) (j : Nat) : Nat := 0x411a1800 + 0x2000 * i + 0x4 * j
/-- ROUTE (R351). -/
def R.ROUTE (i : Nat) (j : Nat) : Nat := 0x411f0000 + 0x20 * i + 0x4 * j
/-- TUN (R354). -/
def R.TUN (i : Nat) (j : Nat) : Nat := 0x41200000 + 0x20 * i + 0x4 * j
/-- TUN4 (R354). -/
def R.TUN4 (i : Nat) : Nat := 0x41200010 + 0x20 * i
def F.TUN4_RX_SEQ (i : Nat) : Fld := ⟨R.TUN4 i, 23, 16⟩
def F.TUN4_TX_SEQ (i : Nat) : Fld := ⟨R.TUN4 i, 15, 8⟩
def F.TUN4_TFLAGS (i : Nat) : Fld := ⟨R.TUN4 i, 2, 0⟩
/-- TUN_CNT (R354). -/
def R.TUN_CNT (i : Nat) (j : Nat) : Nat := 0x41200014 + 0x20 * i + 0x4 * j
def F.TUN_CNT_CNT (i : Nat) (j : Nat) : Fld := ⟨R.TUN_CNT i j, 31, 0⟩
/-- ACF_SKIP (R356). -/
def R.ACF_SKIP : Nat := 0x41100124
def F.ACF_SKIP_CNT : Fld := ⟨R.ACF_SKIP, 31, 0⟩
/-- DISP_ENT (R244). -/
def R.DISP_ENT (i : Nat) (j : Nat) (l : Nat) : Nat := 0x40210000 + 0x4000 * i + 0x10 * j + 0x4 * l
/-- CQ_CTL (R634). -/
def R.CQ_CTL (i : Nat) : Nat := 0x40a01000 + 0x100 * i
def F.CQ_CTL_EN (i : Nat) : Fld := ⟨R.CQ_CTL i, 31, 31⟩
def F.CQ_CTL_SIZE (i : Nat) : Fld := ⟨R.CQ_CTL i, 27, 24⟩
/-- CQ_BASE_LO (R634). -/
def R.CQ_BASE_LO (i : Nat) : Nat := 0x40a01004 + 0x100 * i
def F.CQ_BASE_LO_BASE (i : Nat) : Fld := ⟨R.CQ_BASE_LO i, 31, 6⟩
/-- CQ_BASE_HI (R634). -/
def R.CQ_BASE_HI (i : Nat) : Nat := 0x40a01008 + 0x100 * i
def F.CQ_BASE_HI_BASE (i : Nat) : Fld := ⟨R.CQ_BASE_HI i, 31, 0⟩
/-- CQ_HEAD (R634). -/
def R.CQ_HEAD (i : Nat) : Nat := 0x40a0100c + 0x100 * i
def F.CQ_HEAD_HEAD (i : Nat) : Fld := ⟨R.CQ_HEAD i, 11, 0⟩
/-- CQ_TAIL (R634). -/
def R.CQ_TAIL (i : Nat) : Nat := 0x40a01010 + 0x100 * i
def F.CQ_TAIL_TAIL (i : Nat) : Fld := ⟨R.CQ_TAIL i, 11, 0⟩
/-- CQ_STAT (R634). -/
def R.CQ_STAT (i : Nat) : Nat := 0x40a01014 + 0x100 * i
def F.CQ_STAT_PAUSED (i : Nat) : Fld := ⟨R.CQ_STAT i, 2, 2⟩
def F.CQ_STAT_FETCH_ERR (i : Nat) : Fld := ⟨R.CQ_STAT i, 1, 1⟩
def F.CQ_STAT_BUSY (i : Nat) : Fld := ⟨R.CQ_STAT i, 0, 0⟩
/-- CQ_EVT (R634). -/
def R.CQ_EVT (i : Nat) : Nat := 0x40a01018 + 0x100 * i
def F.CQ_EVT_EVT (i : Nat) : Fld := ⟨R.CQ_EVT i, 2, 0⟩
/-- CQ_IEN (R634). -/
def R.CQ_IEN (i : Nat) : Nat := 0x40a0101c + 0x100 * i
/-- CQ_DONE (R634). -/
def R.CQ_DONE (i : Nat) : Nat := 0x40a01020 + 0x100 * i
def F.CQ_DONE_DONE (i : Nat) : Fld := ⟨R.CQ_DONE i, 31, 0⟩
/-- CQ_FAILS (R634). -/
def R.CQ_FAILS (i : Nat) : Nat := 0x40a01024 + 0x100 * i
def F.CQ_FAILS_FAILS (i : Nat) : Fld := ⟨R.CQ_FAILS i, 31, 0⟩
/-- APLIC_M (R490). -/
def R.APLIC_M (i : Nat) : Nat := 0x44000000 + 0x4 * i
/-- APLIC_S (R490). -/
def R.APLIC_S (i : Nat) : Nat := 0x44010000 + 0x4 * i
/-- FCU_CNT_SH (R654). -/
def R.FCU_CNT_SH (i : Nat) : Nat := 0x4040a000 + 0x4 * i
/-- FCU_TALLY (R654). -/
def R.FCU_TALLY : Nat := 0x404000fc
def F.FCU_TALLY_STALE : Fld := ⟨R.FCU_TALLY, 31, 31⟩
def F.FCU_TALLY_SEQ : Fld := ⟨R.FCU_TALLY, 15, 0⟩

end Sys2Proof.Machine
end

