-- ==== Sys2Proof/Machine/RegReset.lean ====
section
/-!
DEFINITION. Machine/RegReset.lean: the word each register holds at reset (R10): the Reset columns of
the spec's tables, and the rows whose reset value depends on the register's index.
-/

namespace Sys2Proof.Machine

/-- Default severity and recovery mode (0 SW_CLEAR, 1 AUTO_QUIET, 2 HYBRID) of the fault sources, as
rows (first, last, SEV, MODE), from the fault-source tables of the chapters (R637). -/
def faultDefaults : List (Nat × Nat × Nat × Nat) := [
  (0, 0, 3, 0), (1, 1, 2, 0), (2, 3, 3, 0), (4, 4, 1, 0), (5, 5, 2, 0), (6, 6, 0, 1),
  (7, 7, 1, 1), (8, 8, 3, 0), (9, 9, 0, 1), (10, 11, 1, 0), (12, 12, 3, 0), (13, 13, 1, 0),
  (14, 14, 1, 1), (15, 15, 4, 0), (64, 65, 1, 1), (66, 66, 1, 0), (67, 67, 2, 0), (68, 69, 1, 1),
  (70, 70, 0, 1), (71, 71, 1, 0), (72, 72, 0, 1), (73, 73, 1, 0), (74, 74, 1, 1), (75, 75, 1, 0),
  (76, 76, 1, 1), (77, 77, 0, 1), (78, 78, 1, 1), (79, 81, 0, 1), (82, 82, 1, 0), (83, 83, 2, 0),
  (84, 84, 0, 1), (85, 85, 1, 1), (86, 86, 1, 0), (128, 143, 1, 0), (144, 145, 0, 1), (146, 146, 1, 0),
  (147, 147, 1, 1), (148, 148, 0, 1), (149, 149, 1, 1), (150, 150, 1, 0), (160, 161, 1, 1), (162, 162, 1, 0),
  (163, 163, 0, 1), (164, 164, 1, 0), (165, 165, 1, 1), (166, 166, 0, 1), (167, 167, 1, 0), (170, 170, 1, 0),
  (172, 173, 1, 1), (174, 174, 0, 1), (175, 175, 1, 1), (176, 176, 2, 0), (192, 192, 2, 0), (193, 194, 1, 1),
  (195, 197, 1, 0), (198, 199, 1, 1), (200, 200, 1, 0), (201, 201, 4, 0), (202, 203, 1, 0), (204, 204, 4, 0),
  (205, 206, 1, 0), (207, 207, 0, 1), (208, 208, 2, 0), (209, 210, 3, 0), (211, 211, 0, 1), (212, 213, 1, 0),
  (214, 214, 1, 1), (215, 218, 1, 0), (219, 219, 4, 0), (224, 227, 1, 1), (228, 228, 1, 0), (229, 229, 1, 1),
  (230, 230, 3, 2), (231, 231, 0, 0), (232, 234, 1, 0), (235, 235, 1, 1), (240, 241, 1, 0), (242, 242, 0, 1),
  (243, 243, 1, 0), (244, 245, 0, 1), (246, 247, 1, 0), (248, 249, 0, 1), (250, 250, 1, 0), (251, 251, 1, 1),
  (252, 252, 0, 1), (253, 253, 1, 1), (254, 254, 4, 0)]

/-- Default severities and recovery modes of the ten sources of a field die (R167). -/
def dieDefaults : List (Nat × Nat) := [(1, 0), (1, 0), (1, 0), (1, 0), (1, 0), (0, 1), (1, 1), (1, 0), (3, 0), (1, 0)]

/-- Is FS`k` a source that a chapter names (R636)? -/
def faultNamed (k : Nat) : Bool :=
  (256 ≤ k && k < 376) || faultDefaults.any (fun r => r.1 ≤ k && k ≤ r.2.1)

/-- Default severity and recovery mode of FS`k`; a reserved source reads 0 (R636). -/
def faultDefault (k : Nat) : Nat × Nat :=
  if 256 ≤ k && k < 376 then (dieDefaults.getD ((k - 256) % 10) (0, 0))
  else match faultDefaults.find? (fun r => r.1 ≤ k && k ≤ r.2.1) with
    | some r => r.2.2
    | none => (0, 0)

/-- Default hand-over code of FS`k` (R644): 1 LIMP, 2 CORE. -/
def handOverDefault (k : Nat) : Nat :=
  if k = 0 then 1 else if k = 2 ∨ k = 3 ∨ k = 8 ∨ k = 12 then 2 else 0

/-- Reset words that depend on the indices `ix` of the register based at `base`:
SYSCTL_HART_STAT of SC0 (R496), FCU_CLASS and FCU_SRC (R654), the weighbridge's energy classes
(R252), the queue reserves (R313), the check-value profiles 4 to 7 (R595), the engine powers of the
crypto block (R634), VLAN 1 and multicast group 0 (R326); SYSCTL_ID.ES of the device (R3). -/
def resetSpecial (base : Nat) (ix : List Nat) : Option Nat :=
  let i := ix.headD 0
  if base = R.SYSCTL_HART_STAT 0 then (if ix = [1, 0] then some 1 else none)
  else if base = R.FCU_CLASS 0 then some (0x0064080A + (i / 2) * 2 ^ 24)
  else if base = R.FCU_SRC 0 then
    let d := faultDefault i
    some (handOverDefault i * 256 + d.2 * 16 + d.1)
  else if base = R.WBG_ECLASS 0 then some (if i = 0 then 0x0A050200 else 0x503C2814)
  else if base = R.CRY_PWR 0 then some (if i < 2 then 0x96 else if i = 2 then 0x64 else 0x32)
  else if base = R.Q_CFG 0 0 then
    some (if ix.getD 1 0 < 5 then 0x2710 * 256 + 0x14 else 0xC8 * 256)
  else if base = R.CVU_PROF_POLY 0 then
    some (if i = 0 then 0x1D else if i = 1 then 0xF4ACFB13 else 0x1EDC6F41)
  else if base = R.CVU_PROF_INIT 0 ∨ base = R.CVU_PROF_XOR 0 then
    some (if i = 0 then 0xFF else 0xFFFFFFFF)
  else if base = R.CVU_PROF_CFG 0 then some (if i = 0 then 8 else 0x320)
  else if base = R.VLAN_MEMBER 0 ∨ base = R.VLAN_UNTAG 0 ∨ base = R.VLAN_CFG 0 then
    (if i = 1 then some (if base = R.VLAN_CFG 0 then 2 ^ 31 else 0x1FFFFFFF) else none)
  else if base = R.SYSCTL_ID then some (0x5443C010 + 8 * Config.engineering.toNat)
  else if base = R.MCG 0 then (if i = 0 then some 0x1FFFFFFF else none)
  else none

/-- The word that the Reset columns of a register's fields give. -/
def specWord (fs : List FieldSpec) : Nat := fs.foldl (fun n f => n + f.rst * 2 ^ f.lo) 0

/-- What the register at address `a` holds at reset (R10). -/
def regReset (a : Nat) : W32 :=
  match locate a with
  | none => 0
  | some (r, ix) => BitVec.ofNat 32 ((resetSpecial r.base ix).getD (specWord r.fields))

end Sys2Proof.Machine
end

