-- ==== Sys2Proof/Machine/State.lean ====
section
/-!
DEFINITION. Machine/State.lean: the state of the block as plain data, the stop reasons, and the state
after reset. `Blk` is everything but memory and the queue of waiting commands: a meaning that works on
`Blk` alone cannot touch either.
-/

namespace Sys2Proof.Machine

/-- Everything the spec gives the module except its addressed memories. -/
structure Blk where
  /-- The registers, by physical address; an unlisted register holds its reset value. -/
  regs : Sparse W32 := []
  /-- The locked bits of the RWL fields of a register (R8, R49), by address. -/
  locks : Sparse W32 := []
  /-- Ticks of 2 ns since VKEEP power-up. -/
  clk : Nat := 0
  /-- TB0 in units of 2^-32 ns; bits 63 and up are never masked (R426). -/
  tb0 : Nat := 0
  /-- How the last access or instruction ended. -/
  resp : Resp := .idle
  /-- The model's own counter of free values drawn (assumption 4). -/
  nfree : Nat := 0
  /-- Whether the compute die is present. -/
  kc : Kc := .down
  /-- The boot ROM's accesses carry the mark of R528. -/
  mark : Bool := false
  /-- Ownership of resources on KC, keyed by TYPE * 65536 + index (R46). -/
  own : Sparse Own := []
  /-- Ownership copies on UH and the field dies (R28), keyed as `own`. -/
  ownF : Sparse OwnCopy := []
  /-- Raisings on their way to the FCU, oldest first. -/
  fcuIn : List Raise := []
  /-- Raisings held by UH and the field dies while KC is absent (R645). -/
  held : List Raise := []
  /-- Interrupt messages of UH and the field dies not yet delivered, oldest first: the source (R583) and the tick at
which it was sent. -/
  msgOut : List (Nat × Nat) := []
  /-- Hidden state of the harts, by mhartid. -/
  hart : Sparse Hart := []
  /-- Hidden state of the load channels and the field dies. -/
  chan : Sparse Chan := []
  die : Sparse Die := []
  /-- The next leave request's number. -/
  nreq : Nat := 0
  /-- Leave requests on their way to the weighbridge, and to UH. -/
  reqWbg : List Leave := []
  reqUh : List Leave := []
  /-- Answers on their way to the dies. -/
  answers : List Answer := []
  /-- Requests that wait at UH, in order of arrival; the requests that hold a bank, with
  the bank (R31). -/
  uhWait : List Leave := []
  uhHold : List (Nat × Nat) := []
  /-- The weighbridge's deferral queue in order of arrival, and the grants in force (R233, R237). -/
  wbgQueue : List Ask := []
  wbgGrants : List Ask := []
  /-- A KC start has begun the period in which UH grants leave, and WBG_STAT.STARTED has not ended it
  (R31). -/
  uhStart : Bool := false
  /-- Hidden state of the general inputs. -/
  input : Sparse Input := []
  /-- Hidden state of the keeper supervisor. -/
  keeper : Keeper := {}
  /-- Hidden state of the ring engines, CAN0 to CAN15. -/
  ring : Sparse Ring := []
  /-- The wake recorder's FIFO, oldest first; VKEEP power-up leaves one entry (R468). -/
  wkFifo : List WkEntry := [⟨0x80000001, 0, 0⟩]
  /-- Wakes that UH has not yet taken, oldest first. -/
  wakeDue : List Due := []
  /-- SLEEP entry, its wake and the buses put to sleep (R455 to R459). -/
  slp : Sleep := {}
  /-- Supplies, clocks and power transitions (R19 to R21, R80 to R98). -/
  pwr : Power := {}
  /-- The part of the block that every KC reset clears (R38). -/
  k : KcPart := {}
  /-- The increments of all channel energy accumulators since VKEEP power-up, in 2^-35 µJ (R241). -/
  eTotal : Nat := 0
  /-- The Tally strobes that the field dies hold, oldest first; while TALLY_STAT.ARMED is 1 the newest is TIME's
  (R439, R442). -/
  strobe : List Strobe := []
  /-- A TAMPER_HARD alarm whose blowing of DS_OFF is still to come (R622). -/
  dsOffDue : Bool := false
  /-- Draws of the random source made. -/
  nrand : Nat := 0
  /-- The memory words marked poisoned (R478), by address of the word. -/
  poison : List Nat := []
  /-- The STORE or UNSTORE that was in progress when KC stopped, whose first words are in MRAM (R631): memory shows them
from the next start of KC on, and nothing reads it before. -/
  torn : Option Torn := none
  /-- The key in HK0 (R616), none if it holds none. -/
  hk0 : Option (List Byte) := none
  /-- The 32.768 kHz count within the second, and the fraction of a count in 2^-15 × 1/15625 units:
  1 count is 500,000,000 / 32,768 ticks (R100). -/
  rtcSub : Nat := 0
  rtcFrac : Nat := 0
  /-- The sub-second count becomes 0 on the next always-on tick: AON_RTC_SEC has been written (R100). -/
  rtcZero : Bool := false
  /-- The RTC seconds have become WK_ALARM.SEC on this always-on tick (R672). -/
  alarmDue : Bool := false
  /-- The module is in SLEEP: TB0 is held and the 25 MHz oscillator stands (R93). -/
  asleep : Bool := false
deriving DecidableEq, Repr

/-- The state: the block, the memories of R22 as bytes by physical address, and the commands that
wait, first in, first out. An unlisted byte of memory reads 0 (assumption 5). -/
structure State where
  blk : Blk
  mem : List Host.Cell
  pending : List Instr
deriving DecidableEq, Repr

/-- Why a step stops with a fault. -/
inductive Fault where
  /-- Raised by a command that names a unit the spec says does not exist (a channel above CH191, a
  port above 28). Safe: the hardware has no such command. -/
  | noSuchUnit
deriving DecidableEq, Repr

/-- Why a command has no meaning. -/
inductive Refusal where
  /-- Raised by an arm of `exec` whose command has no meaning yet. Safe. -/
  | notModelled (mnemonic : String)
deriving DecidableEq, Repr

/-- The module right after VKEEP power-up has reset everything it resets and before UH is ready:
every register at its reset value, memory with nothing listed, no command waiting. -/
def State.reset : State := { blk := {}, mem := [], pending := [] }

end Sys2Proof.Machine
end

