-- ==== Sys2Proof/Machine/Base.lean ====
section
/-!
DEFINITION. Machine/Base.lean: the plainest operations that the meanings share: reading and writing
registers and their fields, memory bytes, free values, fault raisings, interrupt messages, contexts and owners.
-/

namespace Sys2Proof.Machine

/-! ## Registers and fields -/

/-- Number of bits of a field. -/
def Fld.width (f : Fld) : Nat := f.hi - f.lo + 1

/-- The field's value in a register word. -/
def Fld.get (f : Fld) (w : W32) : Nat := (w.extractLsb' f.lo f.width).toNat

/-- The word whose bits of the field are 1. -/
def Fld.mask (f : Fld) : W32 := BitVec.ofNat 32 (2 ^ f.width - 1) <<< f.lo

/-- The register word with the field set to `v`, taken modulo the field's width. -/
def Fld.ins (f : Fld) (w : W32) (v : Nat) : W32 :=
  (w &&& ~~~ f.mask) ||| ((BitVec.ofNat 32 v <<< f.lo) &&& f.mask)

/-- The word that has `v` in the field and 0 elsewhere. -/
def Fld.word (f : Fld) (v : Nat) : W32 := f.ins 0 v

/-- The register at address `a`. -/
def Blk.reg (b : Blk) (a : Nat) : W32 := b.regs.get regReset a

/-- The block with the register at `a` holding `w`. -/
def Blk.setReg (b : Blk) (a : Nat) (w : W32) : Blk := { b with regs := b.regs.set regReset a w }

/-- The value of a field. -/
def Blk.fld (b : Blk) (f : Fld) : Nat := f.get (b.reg f.a)

/-- Is a field nonzero? -/
def Blk.on (b : Blk) (f : Fld) : Bool := b.fld f != 0

/-- The block with a field at `v`. -/
def Blk.put (b : Blk) (f : Fld) (v : Nat) : Blk := b.setReg f.a (f.ins (b.reg f.a) v)

/-- The block with a one-bit field at `v`. -/
def Blk.putB (b : Blk) (f : Fld) (v : Bool) : Blk := b.put f v.toNat

/-- The field counted up by `n`, saturating at its largest value. -/
def Blk.incSat (b : Blk) (f : Fld) (n : Nat := 1) : Blk :=
  b.put f (min (b.fld f + n) (2 ^ f.width - 1))

/-- The field counted up by `n`, wrapping. -/
def Blk.incWrap (b : Blk) (f : Fld) (n : Nat := 1) : Blk := b.put f (b.fld f + n)

/-- Bit `k` of a field set. -/
def Blk.setBit (b : Blk) (f : Fld) (k : Nat) : Blk := b.put f (b.fld f ||| 2 ^ k)

/-- Bit `k` of a field cleared. -/
def Blk.clrBit (b : Blk) (f : Fld) (k : Nat) : Blk :=
  if (b.fld f).testBit k then b.put f (b.fld f - 2 ^ k) else b

/-- The registers for which `p` holds keep their contents; the others return to reset. The same for
their locks. -/
def Blk.keepRegs (b : Blk) (p : Nat → Bool) : Blk :=
  { b with regs := b.regs.keep p, locks := b.locks.keep p }

/-! ## Typed register writes -/

/-- The word that a write of `v` leaves in one field (R7): `lock` holds the locked bits (R8). -/
def FieldSpec.write (f : FieldSpec) (lock old v : W32) : W32 :=
  let m := Fld.mask ⟨0, f.hi, f.lo⟩
  match f.ty with
  | .rw => (old &&& ~~~ m) ||| (v &&& m)
  | .ro => old
  | .wo => old
  | .w1c => old &&& ~~~ (v &&& m)
  | .w1s => old ||| (v &&& m)
  | .rwl => (old &&& ~~~ (m &&& ~~~ lock)) ||| (v &&& (m &&& ~~~ lock))

/-- The word that a write of `v` leaves in a register; reserved bits ignore it (R9). -/
def typedWord (fs : List FieldSpec) (lock old v : W32) : W32 :=
  fs.foldl (fun w f => f.write lock w v) old

/-- The locked bits of the register at `a`. -/
def Blk.lockOf (b : Blk) (a : Nat) : W32 := b.locks.get (fun _ => 0) a

/-- A write of the register at `a` with `v`: each field by its type (R8). -/
def Blk.writeReg (b : Blk) (a : Nat) (v : W32) : Blk :=
  match locate a with
  | none => b
  | some (r, _) => b.setReg a (typedWord r.fields (b.lockOf a) (b.reg a) v)

/-- A halted die applies writes of 1 to W1C bits and ignores every other write (R166). -/
def Blk.writeHalted (b : Blk) (a : Nat) (v : W32) : Blk :=
  match locate a with
  | none => b
  | some (r, _) =>
    b.setReg a (typedWord (r.fields.filter (fun f => f.ty == .w1c)) (b.lockOf a) (b.reg a) v)

/-! ## Hidden records -/

def Blk.chanOf (b : Blk) (k : Nat) : Chan := b.chan.get (fun _ => {}) k
def Blk.setChan (b : Blk) (k : Nat) (c : Chan) : Blk := { b with chan := b.chan.set (fun _ => {}) k c }
def Blk.dieOf (b : Blk) (n : Nat) : Die := b.die.get (fun _ => {}) n
def Blk.setDie (b : Blk) (n : Nat) (d : Die) : Blk := { b with die := b.die.set (fun _ => {}) n d }
def Blk.inputOf (b : Blk) (n : Nat) : Input := b.input.get (fun _ => {}) n
def Blk.setInput (b : Blk) (n : Nat) (x : Input) : Blk := { b with input := b.input.set (fun _ => {}) n x }
def Blk.hartOf (b : Blk) (h : Nat) : Hart := b.hart.get (fun _ => {}) h
def Blk.setHart (b : Blk) (h : Nat) (x : Hart) : Blk := { b with hart := b.hart.set (fun _ => {}) h x }

/-! ## Memory -/

/-- What an unlisted byte reads as (assumption 5). -/
def memDefault (_ : Nat) : Byte := 0

/-- The byte at address `a`. -/
def memByte (m : List Host.Cell) (a : Nat) : Byte := Sparse.get memDefault m a

/-- The memory with byte `v` at `a`. -/
def memSet (m : List Host.Cell) (a : Nat) (v : Byte) : List Host.Cell := Sparse.set memDefault m a v

/-- `n` bytes from address `a`. -/
def memBytes (m : List Host.Cell) (a : Nat) : Nat → List Byte
  | 0 => []
  | n + 1 => memByte m a :: memBytes m (a + 1) n

/-- The memory with the bytes `bs` from address `a` on. -/
def memWrite (m : List Host.Cell) (a : Nat) : List Byte → List Host.Cell
  | [] => m
  | v :: bs => memWrite (memSet m a v) (a + 1) bs

/-- Bytes as a number, least significant first. -/
def leNat : List Byte → Nat
  | [] => 0
  | v :: bs => v.toNat + 256 * leNat bs

/-- `n` bytes of a number, least significant first. -/
def leBytes : Nat → Nat → List Byte
  | 0, _ => []
  | n + 1, v => BitVec.ofNat 8 v :: leBytes n (v / 256)

/-- The `n`-byte little-endian number at address `a`. -/
def memLe (m : List Host.Cell) (a n : Nat) : Nat := leNat (memBytes m a n)

/-- The canonical form of memory: addresses strictly rising, no entry equal to an unlisted byte. -/
abbrev Memory.wf (m : List Host.Cell) : Prop := Sparse.Wf memDefault m

/-! ## Time and free values -/

/-- TB0 in whole nanoseconds (R426). -/
def Blk.now (b : Blk) : Nat := b.tb0 / 2 ^ 32

/-- A free value: the next one of the opaque sequence. -/
def Blk.draw (b : Blk) : Nat × Blk := (Config.freeNat b.nfree, { b with nfree := b.nfree + 1 })

/-- The low `n` bits of a number as a signed value. -/
def toSigned (n v : Nat) : Int := if v % 2 ^ n < 2 ^ (n - 1) then (v % 2 ^ n : Nat) else (v % 2 ^ n : Nat) - (2 ^ n : Nat)

/-- A signed value in `n` bits, two's complement. -/
def ofSigned (n : Nat) (v : Int) : Nat := (v % (2 ^ n : Nat)).toNat

/-- Quotient rounded to the nearest, halves away from zero (R671). -/
def roundDiv (a : Int) (d : Nat) : Int :=
  if a < 0 then -((((-a) * 2 + d) / (2 * d) : Int)) else (a * 2 + d) / (2 * d)

/-! ## Raisings and messages -/

/-- Largest `r` below 2^`n` with `r * r ≤ x`, by bits from the highest. -/
def isqrt : Nat → Nat → Nat → Nat
  | 0, r, _ => r
  | n + 1, r, x => if (r + 2 ^ n) * (r + 2 ^ n) ≤ x then isqrt n (r + 2 ^ n) x else isqrt n r x

/-- A value saturated at the limits of a signed field of `n` bits, in two's complement (R671). -/
def satSigned (n : Nat) (v : Int) : Nat :=
  ofSigned n (max (-(2 ^ (n - 1) : Nat)) (min v ((2 ^ (n - 1) : Nat) - 1)))

/-- KC is present and runs. -/
def Blk.kcRun (b : Blk) : Bool := b.kc == .run

/-- A source of KC is raised: the raising travels to the FCU, which is there while KC is. -/
def Blk.raise (b : Blk) (src : Nat) (det : Nat := 0) (ctx : Option Nat := none)
    (core : Option Nat := none) : Blk :=
  if b.kc = .down then b else { b with fcuIn := b.fcuIn ++ [⟨src, ctx, core, det⟩] }

/-- A source of UH or of a field die is raised: it travels to the FCU, or is held once while KC is
absent (R167, R645). -/
def Blk.raiseF (b : Blk) (src : Nat) (det : Nat := 0) : Blk :=
  if b.kcRun then b.raise src det
  else if b.held.any (fun r => r.src == src) then b
  else { b with held := b.held ++ [⟨src, none, none, det⟩] }

/-- Message source `s` sends its message; it is merged with an undelivered one (R585). -/
def Blk.msg (b : Blk) (s : Nat) : Blk :=
  if b.kcRun && !b.msgOut.any (fun x => x.1 == s) then { b with msgOut := b.msgOut ++ [(s, b.clk)] } else b

/-- Event bit `k` of register `evt` becomes set; message source `s` sends if bit `k` of `ien` is 1 and
the bit was 0 (R585). -/
def Blk.event (b : Blk) (evt ien : Fld) (k s : Nat) : Blk :=
  let b' := b.setBit evt k
  if !(b.fld evt).testBit k && (b.fld ien).testBit k then b'.msg s else b'

/-! ## Contexts and ownership -/

/-- Does context `c` exist (R523)? CTX000 and CTX001 always do (R47). -/
def Blk.ctxExists (b : Blk) (c : Nat) : Bool :=
  c == 0 || c == 1 || (c < 256 && b.on (F.SEC_CTX_EXISTS c))

/-- Is context `c` in the secure world? -/
def Blk.ctxSecure (b : Blk) (c : Nat) : Bool :=
  c == 0 || (c != 1 && b.on (F.SEC_CTX_WORLD c))

/-- Is context `c` a partition of the normal world? -/
def Blk.ctxNormalPart (b : Blk) (c : Nat) : Bool := 2 ≤ c && b.ctxExists c && !b.ctxSecure c

/-- The key of a resource of R46. -/
def resKey (ty ix : Nat) : Nat := ty * 65536 + ix

/-- The owner of a resource on KC; CTX000 if none is named (R47). -/
def Blk.ownOf (b : Blk) (ty ix : Nat) : Own := b.own.get (fun _ => {}) (resKey ty ix)

/-- The copy of it on UH or the field die. -/
def Blk.copyOf (b : Blk) (ty ix : Nat) : OwnCopy := b.ownF.get (fun _ => {}) (resKey ty ix)

/-- The smallest unit of R46 that contains the register at `a` (R528), as TYPE and index. -/
def unitOf (a : Nat) : Nat × Nat :=
  if 0x42000000 ≤ a ∧ a < 0x421d0000 then
    let p := (a - 0x42000000) / 0x10000
    let o := (a - 0x42000000) % 0x10000
    if (p = 26 ∨ p = 27) ∧ 0x8000 ≤ o ∧ o < 0xc000 then (0x05, (p - 26) * 64 + (o - 0x8000) / 0x100)
    else (0x02, p)
  else if 0x43000000 ≤ a ∧ a < 0x43100000 then
    let n := (a - 0x43000000) / 0x10000
    let o := (a - 0x43000000) % 0x10000
    if 0x1000 ≤ o ∧ o < 0x3000 then (0x06, n * 8 + (o - 0x1000) / 0x400)
    else if 0x400 ≤ o ∧ o < 0x500 then (0x06, n * 8 + (o - 0x400) / 0x20)
    else (0x03, n)
  else if 0x43100000 ≤ a ∧ a < 0x43130000 then (0x04, (a - 0x43100000) / 0x4000)
  else if 0x40b01000 ≤ a ∧ a < 0x40b02000 then (0x09, (a - 0x40b01000) / 0x100)
  else if 0x40a01000 ≤ a ∧ a < 0x40a02000 then (0x0a, (a - 0x40a01000) / 0x100)
  else if 0x50030100 ≤ a ∧ a < 0x50030700 then (0x0c, (a - 0x50030100) / 0x20)
  else if 0x50000000 ≤ a ∧ a < 0x50080000 then (0x0b, (a - 0x50000000) / 0x10000)
  else if 0x51000000 ≤ a ∧ a < 0x51c00000 then
    let n := (a - 0x51000000) / 0x100000
    let o := (a - 0x51000000) % 0x100000
    if 0x1000 ≤ o ∧ o < 0x2000 then (0x07, n * 16 + (o - 0x1000) / 0x100)
    else (0x0b, 0x10 + n)
  else if 0x41000000 ≤ a ∧ a < 0x42000000 then (0x01, 0x10)
  else (0x01, (a - 0x40000000) / 0x100000)

/-- The context that owns the register at `a`. -/
def Blk.ownerOf (b : Blk) (a : Nat) : Own := b.ownOf (unitOf a).1 (unitOf a).2

/-- R528: does the owner rule accept context `c`? -/
def Blk.ownerAccepts (b : Blk) (o : Own) (c : Nat) : Bool :=
  c == o.ctx || (c == 0 && (b.ctxSecure o.ctx || o.shared)) || (c == 1 && b.ctxNormalPart o.ctx)

/-- R28: does the ownership copy accept context `c`? -/
def copyAccepts (o : OwnCopy) (c : Nat) : Bool :=
  c == o.ctx || (c == 0 && (o.world || o.shared)) || (c == 1 && o.part)

/-! ## Harts -/

/-- Application harts AC0 to AC7, safety harts SC0 to SC7 (R469). -/
def isApp (h : Nat) : Bool := h < 8
def isSafety (h : Nat) : Bool := 16 ≤ h && h < 24
def isHart (h : Nat) : Bool := isApp h || isSafety h

/-- The mhartids of the sixteen harts (R469). -/
def harts : List Nat := [0, 1, 2, 3, 4, 5, 6, 7, 16, 17, 18, 19, 20, 21, 22, 23]

/-- The page of the M-level interrupt file of hart `h` (R488). -/
def mFile (h : Nat) : Nat := 0x44100 + h

/-- The STATE of hart `h` (R496): 0 RESET, 1 RUN, 2 WFI, 3 HALTED, 4 OFF. -/
def Blk.hartState (b : Blk) (h : Nat) : Nat := b.fld (F.SYSCTL_HART_STAT_STATE h)

/-- Does hart `h` execute instructions? One whose CMD RESET waits does not (R472). -/
def Blk.runs (b : Blk) (h : Nat) : Bool := b.kcRun && b.hartState h == 1 && !(b.hartOf h).rstWait

end Sys2Proof.Machine
end

