-- ==== Sys2Proof/Machine/Crc.lean ====
section
/-!
DEFINITION. Machine/Crc.lean: the CRC of R594 for a profile, and the profiles of R595.
-/

namespace Sys2Proof.Machine

/-- A CRC profile (R594). -/
structure Crc where
  width : Nat
  poly : Nat
  init : Nat
  refin : Bool
  refout : Bool
  xorout : Nat
  msb : Bool
deriving DecidableEq, Repr

/-- The low `n` bits of a number in reverse. -/
def revBits : Nat → Nat → Nat
  | 0, _ => 0
  | n + 1, v => (v % 2) * 2 ^ n + revBits n (v / 2)

/-- One shift of the register, `k` times. -/
def crcShift (w poly : Nat) : Nat → Nat → Nat
  | 0, r => r
  | k + 1, r =>
    crcShift w poly k (if r.testBit (w - 1) then (2 * r % 2 ^ w) ^^^ poly else 2 * r % 2 ^ w)

/-- The register after the bytes. -/
def crcBytes (c : Crc) : List Byte → Nat → Nat
  | [], r => r
  | x :: l, r =>
    let v := if c.refin then revBits 8 x.toNat else x.toNat
    crcBytes c l (crcShift c.width (c.poly % 2 ^ c.width) 8 (r ^^^ (v * 2 ^ (c.width - 8))))

/-- The CRC of some bytes under a profile (R594). -/
def Crc.of (c : Crc) (l : List Byte) : Nat :=
  let r := crcBytes c l (c.init % 2 ^ c.width)
  (if c.refout then revBits c.width r else r) ^^^ (c.xorout % 2 ^ c.width)

/-- Profile 0, CRC-32C, profile 1, profile 2 and profile 3 (R595). -/
def crc32c : Crc := ⟨32, 0x1edc6f41, 0xffffffff, true, true, 0xffffffff, false⟩
def crc32 : Crc := ⟨32, 0x04c11db7, 0xffffffff, true, true, 0xffffffff, false⟩
def crc16 : Crc := ⟨16, 0x1021, 0xffff, false, false, 0, true⟩
def crc8 : Crc := ⟨8, 0x07, 0, false, false, 0, false⟩

end Sys2Proof.Machine
end

