-- ==== Sys2Proof/Machine/Transform.lean ====
section
/-!
DEFINITION. Machine/Transform.lean: the register files of a safety core and the two ways of computing on them
(R500, R503): pass one on true values, pass two on complemented values at indices XOR 0x10, through datapaths of
its own; and the comparison of what the two passes leave (R505).
-/

namespace Sys2Proof.Machine

/-! ## The pass-one files -/

/-- Registers xi and fi; x0 reads 0. -/
def Files.getX (r : Files) (i : Nat) : W32 := if i = 0 then 0 else r.x.get (fun _ => 0) i
def Files.getF (r : Files) (i : Nat) : W32 := r.f.get (fun _ => 0) i

/-- A write of xi (one of x0 is discarded) and of fi. -/
def Files.setX (r : Files) (i : Nat) (v : W32) : Files :=
  if i = 0 then r else { r with x := r.x.set (fun _ => 0) i v }
def Files.setF (r : Files) (i : Nat) (v : W32) : Files := { r with f := r.f.set (fun _ => 0) i v }

/-! ## The pass-two files -/

/-- The physical index of architectural register `i` in a pass-two file (R503). -/
def phys (i : Nat) : Nat := i ^^^ 0x10

/-- What physical index `p` of the pass-two integer file reads: index 0x10 holds x0 and reads 0xFFFF_FFFF (R503).
An index that nothing has written reads as the complement of 0. -/
def Files.readPhys (r : Files) (p : Nat) : W32 := if p = phys 0 then 0xffffffff else r.x.get (fun _ => 0xffffffff) p

/-- The complemented values of xi and fi in pass two. -/
def Files.getX2 (r : Files) (i : Nat) : W32 := r.readPhys (phys i)
def Files.getF2 (r : Files) (i : Nat) : W32 := r.f.get (fun _ => 0xffffffff) (phys i)

/-- A write of a complemented value to xi and to fi in pass two. -/
def Files.setX2 (r : Files) (i : Nat) (v : W32) : Files :=
  if phys i = phys 0 then r else { r with x := r.x.set (fun _ => 0xffffffff) (phys i) v }
def Files.setF2 (r : Files) (i : Nat) (v : W32) : Files :=
  { r with f := r.f.set (fun _ => 0xffffffff) (phys i) v }

/-- A file in transformed form: every index XOR 0x10, every value complemented (R500, R503). -/
def transform (m : Sparse W32) : Sparse W32 :=
  (List.range 32).foldl (fun t i => t.set (fun _ => 0xffffffff) (phys i) (~~~m.get (fun _ => 0) i)) []

/-- The files in transformed form, as the start phase copies them (R500). -/
def Files.transform (r : Files) : Files :=
  { r with
    x := Machine.transform r.x
    f := Machine.transform r.f }

/-! ## Datapaths -/

/-- The integer adder, logic unit and shifter of pass one. -/
def alu (op : AluOp) (a b : W32) : W32 :=
  match op with
  | .add => a + b
  | .sub => a - b
  | .and => a &&& b
  | .or => a ||| b
  | .xor => a ^^^ b
  | .sll => a <<< (b.toNat % 32)
  | .srl => a >>> (b.toNat % 32)
  | .sra => a.sshiftRight (b.toNat % 32)
  | .slt => if a.slt b then 1 else 0
  | .sltu => if a.ult b then 1 else 0

/-- Those of pass two: they take complemented operands and give the complemented result (R503). A shift fills
with the complement of what pass one fills with. -/
def alu2 (op : AluOp) (a b : W32) : W32 :=
  let n := 31 - b.toNat % 32
  match op with
  | .add => a + b + 1
  | .sub => a - b - 1
  | .and => a ||| b
  | .or => a &&& b
  | .xor => ~~~(a ^^^ b)
  | .sll => (a <<< n) ||| ~~~(0xffffffff#32 <<< n)
  | .srl => (a >>> n) ||| ~~~(0xffffffff#32 >>> n)
  | .sra => a.sshiftRight n
  | .slt => if b.slt a then 0xfffffffe else 0xffffffff
  | .sltu => if b.ult a then 0xfffffffe else 0xffffffff

/-- The branch comparator of pass one, and that of pass two on complemented operands: the complement turns both
orders round. -/
def cmp (op : CmpOp) (a b : W32) : Bool :=
  match op with
  | .eq => a == b
  | .ne => a != b
  | .lt => a.slt b
  | .ge => !a.slt b
  | .ltu => a.ult b
  | .geu => !a.ult b

def cmp2 (op : CmpOp) (a b : W32) : Bool :=
  match op with
  | .eq => a == b
  | .ne => a != b
  | .lt => b.slt a
  | .ge => !b.slt a
  | .ltu => b.ult a
  | .geu => !b.ult a

/-- Multiply and divide (RV32M, R469). -/
def mulDiv (op : MulOp) (a b : W32) : W32 :=
  match op with
  | .mul => a * b
  | .mulh => BitVec.ofInt 32 (a.toInt * b.toInt / 2 ^ 32)
  | .mulhsu => BitVec.ofInt 32 (a.toInt * b.toNat / 2 ^ 32)
  | .mulhu => BitVec.ofNat 32 (a.toNat * b.toNat / 2 ^ 32)
  | .div => if b = 0 then 0xffffffff else BitVec.ofInt 32 (a.toInt.tdiv b.toInt)
  | .divu => if b = 0 then 0xffffffff else a / b
  | .rem => if b = 0 then a else BitVec.ofInt 32 (a.toInt.tmod b.toInt)
  | .remu => if b = 0 then a else a % b

/-- Those of pass two: operands complemented back, rs1 and rs2 of a multiplication in swapped order, the result
complemented (R503). -/
def mulDiv2 (op : MulOp) (a b : W32) : W32 :=
  let x := ~~~a
  let y := ~~~b
  ~~~(match op with
    | .mul => y * x
    | .mulh => BitVec.ofInt 32 (y.toInt * x.toInt / 2 ^ 32)
    | .mulhsu => BitVec.ofInt 32 (y.toNat * x.toInt / 2 ^ 32)
    | .mulhu => BitVec.ofNat 32 (y.toNat * x.toNat / 2 ^ 32)
    | op => mulDiv op x y)

/-- The load/store boundary of pass two: what leaves the core is complemented back before comparison, what
enters it is complemented (R503). -/
def boundary (v : W32) : W32 := ~~~v

/-! ## The two passes -/

/-- A pass: its files and the outputs it has formed, the last first. -/
structure Pass where
  r : Files
  outs : List Echo
deriving DecidableEq, Repr

def Pass.setX (p : Pass) (i : Nat) (v : W32) : Pass := { p with r := p.r.setX i v }
def Pass.setX2 (p : Pass) (i : Nat) (v : W32) : Pass := { p with r := p.r.setX2 i v }
def Pass.setF (p : Pass) (i : Nat) (v : W32) : Pass := { p with r := p.r.setF i v }
def Pass.setF2 (p : Pass) (i : Nat) (v : W32) : Pass := { p with r := p.r.setF2 i v }
def Pass.setFcsr (p : Pass) (v : W32) : Pass := { p with r := { p.r with fcsr := v } }
def Pass.out (p : Pass) (e : Echo) : Pass := { p with outs := e :: p.outs }

/-- The pc after instruction `o`; a trap leaves it. -/
def Pass.next (p : Pass) (o : RegOp) (taken : Bool) : Pass :=
  { p with r := { p.r with pc :=
      match o with
      | .branch _ _ _ off => p.r.pc + (if taken then off else Config.opLen o)
      | .trap _ _ => p.r.pc
      | _ => p.r.pc + Config.opLen o } }

/-- One instruction in pass one; `ret` is the value that a CSR read returns. What another output returns is written
to its register when it comes (`Hart.retLast`). -/
def Pass.one (ret : W32) (p : Pass) (o : RegOp) : Pass :=
  let x (i : Fin 32) : W32 := p.r.getX i
  let f (i : Fin 32) : W32 := p.r.getF i
  match o with
  | .alu op rd rs1 rs2 => (p.setX rd (alu op (x rs1) (x rs2))).next o false
  | .alui op rd rs1 imm => (p.setX rd (alu op (x rs1) imm)).next o false
  | .mul op rd rs1 rs2 => (p.setX rd (mulDiv op (x rs1) (x rs2))).next o false
  | .set rd v => (p.setX rd v).next o false
  | .fp op toX rd rs1 rs2 rs3 =>
    let v := Config.fpu op (f rs1) (f rs2) (f rs3) p.r.fcsr
    ((if toX then p.setX rd v.1 else p.setF rd v.1).setFcsr v.2).next o false
  | .fromX op rd rs1 =>
    let v := Config.fpu op (x rs1) 0 0 p.r.fcsr
    ((p.setF rd v.1).setFcsr v.2).next o false
  | .branch op rs1 rs2 _ => p.next o (cmp op (x rs1) (x rs2))
  | .cmd _ => p.next o false
  | .access kind mask hi base src _ _ => (p.out ⟨kind, mask, hi * 2 ^ 32 + (x base).toNat, (x src).toNat⟩).next o false
  | .csrr rd n => ((p.out ⟨2, 0, n, 0⟩).setX rd ret).next o false
  | .trap cause tval => (p.out ⟨4, 0, tval, cause⟩).next o false

/-- One instruction in pass one whose output has returned what the log serves: the `n`-th output, `rets n`. -/
def Pass.served (rets : Nat → W32) (p : Pass) (o : RegOp) : Pass :=
  let v := rets p.outs.length
  let q := p.one v o
  match o with
  | .access kind _ _ _ _ rd float => if kind = 0 then (if float then q.setF rd v else q.setX rd v) else q
  | _ => q

/-- The same instruction in pass two (R503): complemented values throughout; the floating-point unit complements
its operands back on entry and its result on exit; the boundary complements what enters and leaves. The `n`-th output
is served from the `n`-th entry of the log, whose values are `rets` (R504); a serialising request gets no result. -/
def Pass.two (rets : Nat → W32) (p : Pass) (o : RegOp) : Pass :=
  let x (i : Fin 32) : W32 := p.r.getX2 i
  let f (i : Fin 32) : W32 := p.r.getF2 i
  let ret := boundary (rets p.outs.length)
  match o with
  | .alu op rd rs1 rs2 => (p.setX2 rd (alu2 op (x rs1) (x rs2))).next o false
  | .alui op rd rs1 imm => (p.setX2 rd (alu2 op (x rs1) (~~~imm))).next o false
  | .mul op rd rs1 rs2 => (p.setX2 rd (mulDiv2 op (x rs1) (x rs2))).next o false
  | .set rd v => (p.setX2 rd (~~~v)).next o false
  | .fp op toX rd rs1 rs2 rs3 =>
    let v := Config.fpu op (~~~f rs1) (~~~f rs2) (~~~f rs3) p.r.fcsr
    ((if toX then p.setX2 rd (~~~v.1) else p.setF2 rd (~~~v.1)).setFcsr v.2).next o false
  | .fromX op rd rs1 =>
    let v := Config.fpu op (~~~x rs1) 0 0 p.r.fcsr
    ((p.setF2 rd (~~~v.1)).setFcsr v.2).next o false
  | .branch op rs1 rs2 _ => p.next o (cmp2 op (x rs1) (x rs2))
  | .cmd _ => p.next o false
  | .access kind mask hi base src rd float =>
    let q := p.out ⟨kind, mask, hi * 2 ^ 32 + (boundary (x base)).toNat, (boundary (x src)).toNat⟩
    (if kind = 0 then (if float then q.setF2 rd ret else q.setX2 rd ret) else q).next o false
  | .csrr rd n => ((p.out ⟨2, 0, n, 0⟩).setX2 rd ret).next o false
  | .trap cause tval => (p.out ⟨4, 0, tval, cause⟩).next o false

/-! ## The comparison of the final states -/

/-- The registers of pass one, and those of pass two transformed back (R505): x0 to x31, f0 to f31, fcsr, pc. -/
def Files.words (r : Files) : List W32 :=
  (List.range 32).map r.getX ++ (List.range 32).map r.getF ++ [r.fcsr, r.pc]

def Files.words2 (r : Files) : List W32 :=
  (List.range 32).map (fun i => ~~~r.getX2 i) ++ (List.range 32).map (fun i => ~~~r.getF2 i) ++ [r.fcsr, r.pc]

/-- The CSRs as words, for the signature. -/
def Csrs.words (c : Csrs) : List W32 := c.reg.flatMap (fun e => [BitVec.ofNat 32 e.1, BitVec.ofNat 32 e.2])

/-- The most significant byte first. -/
def bytesBe : Nat → Nat → List Byte
  | 0, _ => []
  | n + 1, v => BitVec.ofNat 8 (v / 256 ^ n) :: bytesBe n v

/-- The signature of some words (R505). -/
def sigOf (l : List W32) : Nat := crc16.of (l.flatMap (fun w => bytesBe 4 w.toNat))

/-- The signature of an entry of the echo log (R504, R505): CRC-16 over its 80 bits, bit 79 first. -/
def Echo.sig (e : Echo) : Nat :=
  crc16.of (bytesBe 10 ((e.kind % 16 * 16 + e.mask % 16) * 2 ^ 72 + e.addr % 2 ^ 40 * 2 ^ 32 + e.data % 2 ^ 32))

/-! ## The files of a hart -/

/-- Register xi in the pass-one file, the pass-two file and the checkpoint (R502). -/
def Hart.setX (x : Hart) (i v : Nat) : Hart :=
  let w := BitVec.ofNat 32 v
  { x with
    cp := x.cp.setX i w
    p1 := x.p1.setX i w
    p2 := x.p2.setX2 i (~~~w) }

/-- The value that the `k`-th entry of the log returns. -/
def Hart.retAt (x : Hart) (k : Nat) : W32 := BitVec.ofNat 32 (x.rets.get (fun _ => 0) k)

/-- The rd of the last instruction of the slice. -/
def Hart.lastRd (x : Hart) : Nat :=
  match x.prog.getLast? with
  | some (.access _ _ _ _ _ rd _) | some (.cmd rd) => rd
  | _ => 0

/-- What the last output of pass one returns: it is stored with the entry and written to its register. -/
def Hart.retLast (x : Hart) (v : Nat) : Hart :=
  let w := BitVec.ofNat 32 v
  let r := match x.prog.getLast? with
    | some (.access 0 _ _ _ _ rd true) => x.p1.setF rd w
    | _ => x.p1.setX x.lastRd w
  { x with
    rets := x.rets.set (fun _ => 0) (x.echo.length - 1) v
    p1 := r }

/-- What pass two of hart state `x` leaves: the instructions that pass one ran, on the transformed values, the loads
and CSR reads served from the log (R503, R504). -/
def Hart.passTwo (x : Hart) : Pass := x.prog.foldl (Pass.two x.retAt) ⟨x.p2, []⟩

/-- The outputs of pass two, in order. -/
def Hart.outs2 (x : Hart) : List Echo := x.passTwo.outs.reverse

/-- Do the raw comparator and the signature comparator flag output `k` of pass two against entry `k` of the log (R505)?
An output without an entry, and an entry without an output, are a mismatch of the timing. -/
def Hart.rawAt (x : Hart) (k : Nat) : Bool :=
  match x.outs2[k]?, x.echo[k]? with
  | some o, some e => o != e
  | _, _ => false
def Hart.sigAt (x : Hart) (k : Nat) : Bool :=
  match x.outs2[k]?, x.echo[k]? with
  | some o, some _ => o.sig != x.sigs.get (fun _ => 0) k
  | _, _ => false
def Hart.lost (x : Hart) (k : Nat) : Bool := x.outs2[k]?.isSome != x.echo[k]?.isSome

/-- The first output or entry that a comparator flags. -/
def Hart.badAt (x : Hart) : Option Nat :=
  (List.range (max x.outs2.length x.echo.length)).find? (fun k => x.rawAt k || x.sigAt k || x.lost k)

/-- Do the comparators flag the final states (R505)? No instruction but a serialising one writes a CSR besides fcsr, so
the CSRs of pass two are those of the checkpoint. -/
def Hart.rawEnd (x : Hart) : Bool := x.passTwo.r.words2 != x.p1.words || x.c != x.cpC
def Hart.sigEnd (x : Hart) : Bool :=
  sigOf (x.passTwo.r.words2 ++ x.cpC.words) != sigOf (x.p1.words ++ x.c.words)

/-- A new slice begins at the present state (R500): the checkpoint is copied to both passes. -/
def Hart.startSlice (x : Hart) : Hart :=
  { x with
    cp := x.p1
    cpC := x.c
    p2 := x.p1.transform
    prog := []
    echo := []
    held := []
    rets := []
    sigs := []
    offs := []
    act := none
    ending := false
    counted := false }

/-- The slice begins again at its checkpoint and is to repeat its instructions (R508). -/
def Hart.restore (x : Hart) : Hart :=
  ({ x with
    p1 := x.cp
    c := x.cpC
    rerun := true
    redo := x.prog
    redoEnd := true
    split := x.split0 } : Hart).startSlice

end Sys2Proof.Machine
end

