-- ==== Sys2Proof/Machine/Csr.lean ====
section
/-!
DEFINITION. Machine/Csr.lean: the CSRs of a hart and what rests on them (R469, R470, R489, R525 to R527): physical
memory protection, the interrupts pending and the one to be taken, taking a trap and returning from one, CSR reads and
writes. What R469 takes over from the RISC-V specifications follows those documents (assumption 106).
-/

namespace Sys2Proof.Machine

/-- XLEN of hart `h` (R469). -/
def xlen (h : Nat) : Nat := if isApp h then 64 else 32

/-- A CSR by its number. -/
def Csrs.get (c : Csrs) (n : Nat) : Nat := c.reg.get (fun _ => 0) n
def Csrs.set (c : Csrs) (n v : Nat) : Csrs := { c with reg := c.reg.set (fun _ => 0) n v }

/-- A one-bit field at bit `k`. -/
def bitAt (v : Bool) (k : Nat) : Nat := if v then 2 ^ k else 0

/-! ## Physical memory protection -/

/-- pmpcfg of entry `i` (16 entries, R469). -/
def Csrs.pmpCfg (c : Csrs) (app : Bool) (i : Nat) : Nat :=
  if app then c.get (0x3a0 + i / 8 * 2) / 256 ^ (i % 8) % 256 else c.get (0x3a0 + i / 4) / 256 ^ (i % 4) % 256

/-- The trailing ones of a number, at most `n`. -/
def trailingOnes : Nat → Nat → Nat
  | 0, _ => 0
  | n + 1, v => if v % 2 = 1 then trailingOnes n (v / 2) + 1 else 0

/-- The addresses that entry `i` matches: the first and the one after the last; none while it is off. -/
def Csrs.pmpRange (c : Csrs) (app : Bool) (i : Nat) : Option (Nat × Nat) :=
  let a := c.get (0x3b0 + i)
  match c.pmpCfg app i / 8 % 4 with
  | 0 => none
  | 1 => some (if i = 0 then 0 else 4 * c.get (0x3b0 + i - 1), 4 * a)
  | 2 => some (4 * a, 4 * a + 4)
  | _ =>
    let k := trailingOnes 54 a
    some (4 * (a / 2 ^ (k + 1) * 2 ^ (k + 1)), 4 * (a / 2 ^ (k + 1) * 2 ^ (k + 1)) + 2 ^ (k + 3))

/-- Do the PMP entries let privilege `prv` access `n` bytes at `a`; `need` 1 read, 2 write, 4 fetch, 3 both? The
lowest-numbered entry that matches a byte decides; it must match them all. -/
def Csrs.pmpOk (c : Csrs) (app : Bool) (prv a n need : Nat) : Bool :=
  match (List.range 16).find? (fun i => (c.pmpRange app i).any (fun r => r.1 < a + n && a < r.2)) with
  | none => prv == 3
  | some i =>
    let g := c.pmpCfg app i
    (c.pmpRange app i).any (fun r => r.1 ≤ a && a + n ≤ r.2) &&
      ((prv == 3 && !g.testBit 7) || g % 8 &&& need == need)

/-- What an access needs of the PMP. -/
def accNeed (k : Acc) : Nat :=
  match k with
  | .fetch => 4
  | .write | .devWrite => 2
  | .atomic => 3
  | _ => 1

/-- The privilege at which hart state `x` makes an access: mstatus.MPRV lends loads and stores that of MPP. -/
def Hart.accPrv (x : Hart) (k : Acc) : Nat :=
  if x.prv = 3 ∧ k ≠ .fetch ∧ (x.c.get 0x300).testBit 17 then x.c.mpp else x.prv

/-- Does the PMP of the initiator let it access `n` bytes at `a` (R469, R507)? Only harts have one. -/
def Blk.pmpOk (b : Blk) (i : Init) (k : Acc) (a n : Nat) : Bool :=
  match i with
  | .hart h => (b.hartOf h).c.pmpOk (isApp h) ((b.hartOf h).accPrv k) a n (accNeed k)
  | _ => true

/-! ## Interrupts -/

def Blk.ifileOf (b : Blk) (p : Nat) : IFile := b.k.ifile.get (fun _ => {}) p
def Blk.setIfile (b : Blk) (p : Nat) (f : IFile) : Blk :=
  { b with k := { b.k with ifile := b.k.ifile.set (fun _ => {}) p f } }

/-- The pending identities of the file at page `p`. -/
def Blk.filePend (b : Blk) (p : Nat) : Nat := b.k.files.get (fun _ => 0) p
def Blk.setFilePend (b : Blk) (p v : Nat) : Blk := { b with k := { b.k with files := b.k.files.set (fun _ => 0) p v } }

/-- The identity that the file at page `p` signals: the lowest that is pending and enabled and, with a threshold,
below it; 0 for none (R489). -/
def Blk.topei (b : Blk) (p : Nat) : Nat :=
  let f := b.ifileOf p
  let w := b.filePend p &&& f.en
  if f.del ≠ 1 ∨ w = 0 then 0
  else ((List.range 2048).find? (fun i => i != 0 && w.testBit i && (f.thr == 0 || i < f.thr))).getD 0

/-- The page of the S-level file of application hart `h`, and that of the guest file that VGEIN selects (R488). -/
def sFile (h : Nat) : Nat := 0x44200 + 8 * h
def Hart.vgein (x : Hart) : Nat := x.c.get 0x600 / 2 ^ 12 % 64
def Blk.gFile (b : Blk) (h : Nat) : Option Nat :=
  let g := (b.hartOf h).vgein
  if 1 ≤ g ∧ g ≤ 4 then some (sFile h + g) else none

/-- mip of hart `h`: the external interrupts from its files, the timers, and the bits that software sets. -/
def Blk.mip (b : Blk) (h : Nat) : Nat :=
  let x := b.hartOf h
  let m := bitAt (b.topei (mFile h) != 0) 11 ||| bitAt x.mtip 7
  if isApp h then
    m ||| (x.c.get 0x344 &&& 0x202) ||| (x.c.get 0x645 &&& 0x444) ||| bitAt (b.topei (sFile h) != 0) 9 |||
      bitAt x.stip 5 ||| bitAt x.vstip 6 ||| bitAt ((b.gFile h).any (fun p => b.topei p != 0)) 10 |||
      bitAt ([1, 2, 3, 4].any (fun g => b.topei (sFile h + g) != 0 && (x.c.get 0x607).testBit g)) 12
  else m

/-- The interrupts that hart state `x` of an application hart delegates: to HS-mode, of those to VS-mode. While W is
0 every one that can be (R525). -/
def Hart.mideleg (x : Hart) (app : Bool) : Nat :=
  if app then (if x.w then (x.c.get 0x303 &&& 0x222) ||| 0x1444 else 0x1666) else 0
def Hart.hideleg (x : Hart) : Nat := x.c.get 0x603 &&& 0x444

/-- The interrupts of set `p` in the order in which they are taken. -/
def topCause (p : Nat) : Option Nat := [11, 3, 7, 9, 1, 5, 12, 10, 2, 6].find? (fun k => p.testBit k)

/-- The interrupt that hart `h` takes next, with the mode that takes it: 3 M, 1 HS, 2 VS. A machine-level one stays
pending in the normal world of an application hart (R525). -/
def Blk.irq (b : Blk) (h : Nat) : Option (Nat × Nat) :=
  let x := b.hartOf h
  let app := isApp h
  let p := b.mip h &&& x.c.get 0x304
  if p = 0 then none
  else
    let d := x.mideleg app
    let m := p &&& (p ^^^ (p &&& d))
    let s := (p &&& d) ^^^ (p &&& d &&& x.hideleg)
    let v := p &&& d &&& x.hideleg
    let inM := (x.prv < 3 || x.mie) && (!app || x.w)
    let inS := x.prv != 3 && (x.v || x.prv == 0 || x.c.sie)
    let inV := x.v && (x.prv == 0 || x.c.vsie)
    match (if inM then topCause m else none), (if inS then topCause s else none),
      (if inV then topCause v else none) with
    | some k, _, _ => some (3, k)
    | none, some k, _ => some (1, k)
    | none, none, some k => some (2, k)
    | none, none, none => none

/-! ## Traps -/

/-- The mode that takes an exception with cause `cause` (R525). -/
def Hart.trapMode (x : Hart) (app : Bool) (cause : Nat) : Nat :=
  if !app || x.prv == 3 || (if x.w then !(x.c.get 0x302).testBit cause else false) || cause == 11 then 3
  else if x.v && (x.c.get 0x602).testBit cause && !(9 ≤ cause && cause ≤ 11) && !(20 ≤ cause && cause ≤ 23) then 2
  else 1

/-- The handler's address that xtvec `t` gives. -/
def tvecPc (t cause : Nat) (intr : Bool) : Nat := t / 4 * 4 + (if intr && t % 4 == 1 then 4 * cause else 0)

/-- The hart goes on at `pc`. -/
def Hart.goTo (x : Hart) (pc : Nat) : Hart :=
  { x with
    pc := pc
    p1 := { x.p1 with pc := BitVec.ofNat 32 pc } }

/-- A hart of `w` bits takes a trap in mode `mode`: the pc, the cause and the trap value are saved, the status is
saved and changed, and the pc is that of the handler. World and context stay (R524). -/
def Hart.trapIn (x : Hart) (w mode : Nat) (intr : Bool) (cause epc tval : Nat) : Hart :=
  let code := cause + (if intr then 2 ^ (w - 1) else 0)
  let save (n : Nat) (code : Nat) : Csrs :=
    ((x.c.set n (epc / 2 * 2 % 2 ^ w)).set (n + 1) code).set (n + 2) (tval % 2 ^ w)
  if mode = 3 then
    let c := save 0x341 code
    ({ x with
      c := { c with mpie := x.mie, mpp := x.prv, mpv := x.v }
      mie := false
      prv := 3
      v := false } : Hart).goTo (tvecPc (x.c.get 0x305) cause intr)
  else if mode = 1 then
    let c := save 0x141 code
    ({ x with
      c := { c with spie := x.c.sie, sie := false, spp := x.prv, spv := x.v }
      prv := 1
      v := false } : Hart).goTo (tvecPc (x.c.get 0x105) cause intr)
  else
    let cause := if intr then cause - 1 else cause
    let c := save 0x241 (cause + (if intr then 2 ^ (w - 1) else 0))
    ({ x with
      c := { c with vspie := x.c.vsie, vsie := false, vspp := x.prv }
      prv := 1 } : Hart).goTo (tvecPc (x.c.get 0x205) cause intr)

/-- Hart `h` takes the exception `cause` at `epc` with trap value `tval`; a FENCE.FIELD that waits is abandoned. -/
def Blk.trapAt (b : Blk) (h epc cause tval : Nat) : Blk :=
  let x := b.hartOf h
  b.setHart h { x.trapIn (xlen h) (x.trapMode (isApp h) cause) false cause epc tval with ffWait := none }

/-- The same where no command names the pc of the instruction: a free value (assumption 106). -/
def Blk.trap (b : Blk) (h cause tval : Nat) : Blk := b.draw.2.trapAt h b.draw.1 cause tval

/-- Hart `h` takes its interrupt, if one is to be taken, with `epc`; a FENCE.FIELD that waits is abandoned (R485). -/
def Blk.takeIrqAt (b : Blk) (h epc : Nat) : Blk :=
  match b.irq h with
  | none => b
  | some (mode, cause) =>
    b.setHart h { (b.hartOf h).trapIn (xlen h) mode true cause epc 0 with ffWait := none }

/-- MRET of hart state `x`. -/
def Hart.mret (x : Hart) : Hart :=
  ({ x with
    prv := x.c.mpp
    v := x.c.mpv && x.c.mpp != 3
    mie := x.c.mpie
    c := { (if x.c.mpp = 3 then x.c else x.c.set 0x300 (x.c.get 0x300 - (x.c.get 0x300 &&& 0x20000))) with
      mpie := true, mpp := 0, mpv := false } } : Hart).goTo (x.c.get 0x341)

/-- SRET of hart state `x`, in HS-mode or in VS-mode. -/
def Hart.sret (x : Hart) : Hart :=
  if x.v then
    ({ x with
      prv := x.c.vspp
      c := { x.c with vsie := x.c.vspie, vspie := true, vspp := 0 } } : Hart).goTo (x.c.get 0x241)
  else
    ({ x with
      prv := x.c.spp
      v := x.c.spv
      c := { x.c with sie := x.c.spie, spie := true, spp := 0, spv := false } } : Hart).goTo (x.c.get 0x141)

/-! ## CSRs by number -/

/-- The CSRs with a plain value, first those of every hart, then those of application harts. -/
def plainCsrs : List Nat := [0x305, 0x306, 0x30a, 0x320, 0x340, 0x341, 0x342, 0x343]
def appCsrs : List Nat :=
  [0x302, 0x303, 0x34a, 0x34b, 0x105, 0x106, 0x10a, 0x140, 0x141, 0x142, 0x143, 0x180, 0x602, 0x603, 0x605, 0x606,
    0x607, 0x60a, 0x643, 0x645, 0x64a, 0x680, 0x205, 0x240, 0x241, 0x242, 0x243, 0x280]

/-- Has hart `h` CSR `n` (R469, R527)? -/
def csrExists (h n : Nat) : Bool :=
  let app := isApp h
  plainCsrs.contains n || [1, 2, 3, 0x300, 0x301, 0x304, 0x344, 0x350, 0x351, 0x35c, 0x7c0, 0x7c1, 0xb00, 0xb02, 0xc01,
    0xf11, 0xf12, 0xf13, 0xf14, 0xf15, 0xfc0].contains n || (0x3b0 ≤ n && n < 0x3c0) ||
    (0x3a0 ≤ n && n < 0x3a4 && (!app || n % 2 == 0)) || (0xb03 ≤ n && n < 0xb20) || (0x323 ≤ n && n < 0x340) ||
    (if app then appCsrs.contains n || [0x100, 0x104, 0x144, 0x14d, 0x150, 0x151, 0x15c, 0x200, 0x204, 0x244, 0x24d,
      0x250, 0x251, 0x25c, 0x600, 0x604, 0x644, 0x6c0, 0xe12].contains n
    else [0x310, 0x31a, 0xb80, 0xb82, 0xc81].contains n || (0xb83 ≤ n && n < 0xba0))

/-- The CSR that number `n` names to hart state `x`: in VS-mode a supervisor CSR is the VS one. -/
def Hart.csrNum (x : Hart) (n : Nat) : Nat :=
  if x.v && [0x100, 0x104, 0x105, 0x140, 0x141, 0x142, 0x143, 0x144, 0x14d, 0x150, 0x151, 0x15c, 0x180].contains n then
    n + 0x100
  else n

/-- The exception that an access to CSR `n` of hart `h` raises: 2 illegal instruction, 22 virtual instruction. mgret
and mgretpc are the secure world's (R527). -/
def Hart.csrBar (x : Hart) (h n : Nat) (wr : Bool) : Option Nat :=
  let lv := n / 256 % 4
  let counter := n = 0xc01 ∨ n = 0xc81
  let off (k : Nat) : Bool := !(x.c.get k).testBit 1
  if csrExists h n = false ∨ (wr = true ∧ 0xc00 ≤ n) then some 2
  else if x.v = true ∧ (lv = 2 ∨ (lv = 1 ∧ x.prv = 0)) then some 22
  else if lv = 3 then (if x.prv = 3 ∧ ((n ≠ 0x7c0 ∧ n ≠ 0x7c1) ∨ x.w = true) then none else some 2)
  else if lv = 2 then
    (if x.prv = 0 ∨ (n = 0x680 ∧ x.prv = 1 ∧ (x.c.get 0x300).testBit 20) then some 2 else none)
  else if lv = 1 then
    (if x.prv = 0 then some 2
     else if n = 0x180 ∧ x.prv = 1 ∧ x.v = false ∧ (x.c.get 0x300).testBit 20 then some 2
     else if n = 0x180 ∧ x.v = true ∧ (x.c.get 0x600).testBit 20 then some 22
     else none)
  else if counter ∧ x.prv ≠ 3 ∧ off 0x306 then some 2
  else if counter ∧ x.v = true ∧ off 0x606 then some 22
  else if counter ∧ x.prv = 0 ∧ isApp h ∧ off 0x106 then some (if x.v then 22 else 2)
  else none

/-- misa (R469): MXL, and exactly the extensions named with the modes M, S, U. -/
def misa (h : Nat) : Nat := if isApp h then 2 ^ 63 + 0x1411ad else 2 ^ 30 + 0x101125

/-- mstatus, and the parts of it that sstatus shows. -/
def Hart.mstatus (x : Hart) (app : Bool) : Nat :=
  bitAt x.c.sie 1 + bitAt x.mie 3 + bitAt x.c.spie 5 + bitAt x.c.mpie 7 + x.c.spp % 2 * 2 ^ 8 + x.c.mpp % 4 * 2 ^ 11 +
    x.c.get 0x300 + (if app then bitAt x.c.mpv 39 + 0xa00000000 else 0)
def Hart.sstatus (x : Hart) : Nat := x.mstatus true &&& 0x2000c6122
def Hart.vsstatus (x : Hart) : Nat :=
  bitAt x.c.vsie 1 + bitAt x.c.vspie 5 + x.c.vspp % 2 * 2 ^ 8 + x.c.get 0x200 + 0x200000000

/-- The interrupt file that the indirect CSRs of a level reach: M, S, VS. -/
def Blk.levelFile (b : Blk) (h n : Nat) : Option Nat :=
  if n / 256 = 3 then some (mFile h) else if n / 256 = 1 then some (sFile h) else b.gFile h

/-- Words of XLEN bits in which an array of identities shows: the low bit of the word that register `s` is. -/
def ipLow (h s base : Nat) : Nat := (s - base) / (xlen h / 32) * xlen h

/-- A register of the interrupt file at page `p` that xiselect `s` selects (R489). -/
def Blk.iregGet (b : Blk) (h p s : Nat) : Nat :=
  let w := 2 ^ xlen h
  if s = 0x70 then (b.ifileOf p).del
  else if s = 0x72 then (b.ifileOf p).thr
  else if 0x80 ≤ s ∧ s < 0xc0 then b.filePend p / 2 ^ ipLow h s 0x80 % w
  else if 0xc0 ≤ s ∧ s < 0x100 then (b.ifileOf p).en / 2 ^ ipLow h s 0xc0 % w
  else 0

/-- A number with the `w` bits from bit `lo` on replaced; identity 0 stays 0. -/
def spliceBits (old lo w v : Nat) : Nat :=
  let n := old % 2 ^ lo + v % 2 ^ w * 2 ^ lo + old / 2 ^ (lo + w) * 2 ^ (lo + w)
  n / 2 * 2

def Blk.iregSet (b : Blk) (h p s v : Nat) : Blk :=
  let f := b.ifileOf p
  let w := xlen h
  if s = 0x70 then b.setIfile p { f with del := v % 2 }
  else if s = 0x72 then b.setIfile p { f with thr := v % 2048 }
  else if 0x80 ≤ s ∧ s < 0xc0 then b.setFilePend p (spliceBits (b.filePend p) (ipLow h s 0x80) w v)
  else if 0xc0 ≤ s ∧ s < 0x100 then b.setIfile p { f with en := spliceBits f.en (ipLow h s 0xc0) w v }
  else b

/-- The sixteen harts' time: the extended TB0 time (R470). -/
def Blk.time (b : Blk) : Nat := b.now % 2 ^ 64

/-- mcycle of hart `h`: a safety core runs at 1 GHz, two clocks a tick, in every phase of a slice (R506); an application
core at the frequency of its cluster, which makes it a free value (assumption 106). -/
def Blk.mcycle (b : Blk) (h : Nat) : Nat :=
  let x := b.hartOf h
  if isApp h then Config.freeNat b.nfree % 2 ^ 64 else (x.c.get 0xb00 + 2 * (b.clk - x.cycAt)) % 2 ^ 64

/-- minstret of hart `h`: in Recut mode the commits count it (R506); elsewhere the instructions that a hart runs are no
commands, which makes it a free value (assumption 106). -/
def Blk.minstret (b : Blk) (h : Nat) : Nat :=
  if isSafety h && b.on (F.RCX_STAT_MODE (h - 16)) then (b.hartOf h).c.get 0xb02 else Config.freeNat b.nfree % 2 ^ 64

/-- What CSR `n` of hart `h` reads. -/
def Blk.csrGet (b : Blk) (h n : Nat) : Nat :=
  let x := b.hartOf h
  let app := isApp h
  if n = 1 then x.p1.fcsr.toNat % 32
  else if n = 2 then x.p1.fcsr.toNat / 32 % 8
  else if n = 3 then x.p1.fcsr.toNat % 256
  else if n = 0x300 then x.mstatus app
  else if n = 0x301 then misa h
  else if n = 0x303 then (x.c.get 0x303 &&& 0x222) ||| 0x1444
  else if n = 0x304 then x.c.get 0x304
  else if n = 0x344 then b.mip h
  else if n = 0x100 then x.sstatus
  else if n = 0x104 then x.c.get 0x304 &&& x.mideleg app &&& 0x222
  else if n = 0x144 then b.mip h &&& x.mideleg app &&& 0x222
  else if n = 0x14d then x.stimecmp
  else if n = 0x24d then x.vstimecmp
  else if n = 0x200 then x.vsstatus
  else if n = 0x204 then (x.c.get 0x304 &&& x.hideleg) / 2
  else if n = 0x244 then (b.mip h &&& x.hideleg) / 2
  else if n = 0x600 then x.c.get 0x600 + bitAt x.c.spv 7
  else if n = 0x604 then x.c.get 0x304 &&& 0x1444
  else if n = 0x644 then b.mip h &&& 0x1444
  else if n = 0xe12 then [1, 2, 3, 4].foldl (fun m g => m + bitAt (b.topei (sFile h + g) != 0) g) 0
  else if n = 0x351 ∨ n = 0x151 ∨ n = 0x251 then ((b.levelFile h n).map (fun p => b.iregGet h p (x.c.get (n - 1)))).getD 0
  else if n = 0x35c ∨ n = 0x15c ∨ n = 0x25c then
    ((b.levelFile h n).map (fun p => b.topei p * 0x10001)).getD 0
  else if n = 0x7c0 then
    bitAt x.retPie 12 + bitAt x.retV 11 + x.retPrv % 4 * 2 ^ 9 + bitAt x.retW 8 + x.retCtx % 256
  else if n = 0x7c1 then x.retPc % 2 ^ xlen h
  else if n = 0xfc0 then bitAt x.gated 9 + bitAt x.w 8 + x.ctx % 256
  else if n = 0x6c0 then x.hvctx
  else if n = 0xc01 then b.time % 2 ^ xlen h
  else if n = 0xc81 then b.time / 2 ^ 32
  else if n = 0xb00 then b.mcycle h % 2 ^ xlen h
  else if n = 0xb80 then b.mcycle h / 2 ^ 32
  else if n = 0xb02 then b.minstret h % 2 ^ xlen h
  else if n = 0xb82 then b.minstret h / 2 ^ 32
  else if n = 0xf14 then h
  else if (0xb03 ≤ n ∧ n < 0xba0) ∨ (0x323 ≤ n ∧ n < 0x340) ∨ (0xf11 ≤ n ∧ n < 0xf16) then 0
  else x.c.get n

/-- What M-mode software in the secure world writes to mgret and mgretpc (R527); reserved bits are ignored. -/
def Hart.setGret (x : Hart) (g : Nat) : Hart :=
  { x with
    retPie := g.testBit 12
    retV := g.testBit 11
    retPrv := g / 2 ^ 9 % 4
    retW := g.testBit 8
    retCtx := g % 256 }
def Hart.setRet (x : Hart) (g pc : Nat) : Hart := { x.setGret g with retPc := pc / 2 * 2 }

/-- A write of mstatus, of its part sstatus, of vsstatus. -/
def Hart.setMstatus (x : Hart) (app : Bool) (v : Nat) : Hart :=
  let pp := v / 2 ^ 11 % 4
  let ok := pp = 0 ∨ pp = 3 ∨ (pp = 1 ∧ app = true)
  { x with
    mie := v.testBit 3
    c := { x.c.set 0x300 (v &&& (if app then 0x7e6000 else 0x226000)) with
      mpie := v.testBit 7
      mpp := if ok then pp else x.c.mpp
      mpv := app && v.testBit 39
      sie := app && v.testBit 1
      spie := app && v.testBit 5
      spp := if app then v / 2 ^ 8 % 2 else 0 } }
def Hart.setSstatus (x : Hart) (v : Nat) : Hart :=
  let old := x.c.get 0x300
  { x with c := { x.c.set 0x300 ((old - (old &&& 0xc6000)) ||| (v &&& 0xc6000)) with
    sie := v.testBit 1
    spie := v.testBit 5
    spp := v / 2 ^ 8 % 2 } }
def Hart.setVsstatus (x : Hart) (v : Nat) : Hart :=
  { x with c := { x.c.set 0x200 (v &&& 0xc6000) with
    vsie := v.testBit 1
    vspie := v.testBit 5
    vspp := v / 2 ^ 8 % 2 } }

/-- Bits `mask` of mie become those of `v`. -/
def Hart.setIe (x : Hart) (mask v : Nat) : Hart :=
  let old := x.c.get 0x304
  { x with c := x.c.set 0x304 ((old - (old &&& mask)) ||| (v &&& mask)) }

/-- A write of pmpcfg or pmpaddr: a locked entry, and the address below a locked range, stay. -/
def Hart.setPmp (x : Hart) (app : Bool) (n v : Nat) : Hart :=
  let locked (i : Nat) : Bool := (x.c.pmpCfg app i).testBit 7
  if n < 0x3b0 then
    let per := if app then 8 else 4
    let first := if app then (n - 0x3a0) / 2 * 8 else (n - 0x3a0) * 4
    let w := (List.range per).foldl (fun m j =>
      m + (if locked (first + j) then x.c.pmpCfg app (first + j) else v / 256 ^ j % 256 &&& 0x9f) * 256 ^ j) 0
    { x with c := x.c.set n w }
  else
    let i := n - 0x3b0
    if locked i || (locked (i + 1) && i < 15 && x.c.pmpCfg app (i + 1) / 8 % 4 == 1) then x
    else { x with c := x.c.set n (v % 2 ^ (if app then 54 else 32)) }

/-- A write of hvctx (R526): any but one of the hypervisor's that names an existing partition of the normal world
leaves it unchanged and raises FS197. -/
def Blk.hvctxSet (b : Blk) (h v : Nat) : Blk :=
  let x := b.hartOf h
  if !x.w && x.ctx == 1 && b.ctxNormalPart (v % 256) then b.setHart h { x with hvctx := v % 256 }
  else b.raise 197 0 (some x.ctx)

/-- CSR `n` of hart `h` becomes `v`. -/
def Blk.csrSet (b : Blk) (h n v0 : Nat) : Blk :=
  let x := b.hartOf h
  let app := isApp h
  let v := v0 % 2 ^ xlen h
  let upd (y : Hart) : Blk := b.setHart h y
  let plain (v : Nat) : Blk := upd { x with c := x.c.set n v }
  if n = 1 then upd { x with p1 := { x.p1 with fcsr := BitVec.ofNat 32 (x.p1.fcsr.toNat / 32 * 32 + v % 32) } }
  else if n = 2 then
    upd { x with p1 := { x.p1 with fcsr := BitVec.ofNat 32 (v % 8 * 32 + x.p1.fcsr.toNat % 32) } }
  else if n = 3 then upd { x with p1 := { x.p1 with fcsr := BitVec.ofNat 32 (v % 256) } }
  else if n = 0x300 then upd (x.setMstatus app v)
  else if n = 0x304 then upd (x.setIe (if app then 0x1eee else 0x888) v)
  else if n = 0x100 then upd (x.setSstatus v)
  else if n = 0x200 then upd (x.setVsstatus v)
  else if n = 0x104 then upd (x.setIe (x.mideleg app &&& 0x222) v)
  else if n = 0x604 then upd (x.setIe 0x1444 v)
  else if n = 0x204 then upd (x.setIe x.hideleg (2 * v))
  else if n = 0x144 then upd { x with c := x.c.set 0x344 (x.c.get 0x344 &&& 0x200 ||| v &&& 2) }
  else if n = 0x244 then upd { x with c := x.c.set 0x645 (x.c.get 0x645 &&& 0x440 ||| 2 * v &&& 4) }
  else if n = 0x14d then upd { x with stimecmp := v, stip := v ≤ b.time }
  else if n = 0x24d then upd { x with vstimecmp := v, vstip := v ≤ b.time }
  else if n = 0x600 then
    upd { x with c := { x.c.set 0x600 (v &&& 0x7ff360) with spv := v.testBit 7 } }
  else if n = 0x351 ∨ n = 0x151 ∨ n = 0x251 then
    match b.levelFile h n with
    | some p => b.iregSet h p (x.c.get (n - 1)) v
    | none => b
  else if n = 0x35c ∨ n = 0x15c ∨ n = 0x25c then
    match b.levelFile h n with
    | some p => let id := b.topei p
                if id = 0 then b else b.setFilePend p (b.filePend p - 2 ^ id)
    | none => b
  else if n = 0x7c0 then upd (x.setGret v)
  else if n = 0x7c1 then upd { x with retPc := v / 2 * 2 }
  else if n = 0x6c0 then b.hvctxSet h v
  else if 0x3a0 ≤ n ∧ n < 0x3c0 then upd (x.setPmp app n v)
  else if n = 0xb00 then
    upd { x with c := x.c.set 0xb00 (b.mcycle h / 2 ^ xlen h * 2 ^ xlen h + v), cycAt := b.clk }
  else if n = 0xb80 then upd { x with c := x.c.set 0xb00 (v * 2 ^ 32 + b.mcycle h % 2 ^ 32), cycAt := b.clk }
  else if n = 0xb02 then plain (x.c.get 0xb02 / 2 ^ xlen h * 2 ^ xlen h + v)
  else if n = 0xb82 then upd { x with c := x.c.set 0xb02 (v * 2 ^ 32 + x.c.get 0xb02 % 2 ^ 32) }
  else if n = 0x341 ∨ n = 0x141 ∨ n = 0x241 then plain (v / 2 * 2)
  else if n = 0x302 then plain (v &&& 0xf0b7ff)
  else if n = 0x303 then plain (v &&& 0x222)
  else if n = 0x603 then plain (v &&& 0x444)
  else if n = 0x644 then upd { x with c := x.c.set 0x645 (x.c.get 0x645 &&& 0x440 ||| v &&& 4) }
  else if n = 0x301 ∨ (0xb03 ≤ n ∧ n < 0xba0) ∨ (0x323 ≤ n ∧ n < 0x340) then b
  else plain v

/-! ## Timers -/

/-- MTIMECMP of hart `h` (R498). -/
def Blk.mtimecmp (b : Blk) (h : Nat) : Nat :=
  b.fld (F.MTIMECMP_HI_CMP h) * 2 ^ 32 + b.fld (F.MTIMECMP_LO_CMP h)

/-- The timer interrupts of hart `h` follow time, which is TB0's extended time (R470). -/
def Blk.timerSync (b : Blk) (h : Nat) : Blk :=
  let x := b.hartOf h
  let t := b.time
  b.setHart h
    { x with
      mtip := b.mtimecmp h ≤ t
      stip := isApp h && x.stimecmp ≤ t
      vstip := isApp h && x.vstimecmp ≤ t }

/-- Can a compare of hart `h` be below its greatest value? Only one that software has written. -/
def Blk.timed (b : Blk) (h : Nat) : Bool :=
  let x := b.hartOf h
  b.regs.any (fun e => e.1 == R.MTIMECMP_LO h || e.1 == R.MTIMECMP_HI h) ||
    x.stimecmp != 2 ^ 64 - 1 || x.vstimecmp != 2 ^ 64 - 1 || b.time == 2 ^ 64 - 1

/-- On every tick, and on that of a step of TB0, the timer interrupts follow time (R470). -/
def Blk.timers (b : Blk) : Blk :=
  if b.kcRun then harts.foldl (fun x h => if x.timed h then x.timerSync h else x) b else b

end Sys2Proof.Machine
end

