-- ==== Sys2Proof/Machine/Slice.lean ====
section
/-!
DEFINITION. Machine/Slice.lean: what an instruction of a hart leaves in its slice in Recut mode (R500 to R510): the echo
log, the held writes, the end of pass one; and the exception that an instruction takes (R481, R510).
-/

namespace Sys2Proof.Machine

/-! ## Modes and phases -/

/-- Core n of hart `h` is in Recut mode, and its phase. -/
def Blk.recut (b : Blk) (h : Nat) : Bool := isSafety h && b.on (F.RCX_STAT_MODE (h - 16))
def Blk.phase (b : Blk) (h : Nat) : Nat := b.fld (F.RCX_STAT_PHASE (h - 16))

/-- Is hart `h` in pass one, or in the start phase, after which its next instruction is the first of pass one (R500)?
Other phases execute no instruction. -/
def Blk.passOne (b : Blk) (h : Nat) : Bool :=
  b.runs h && b.recut h && (b.phase h == 1 || b.phase h == 2) && !(b.hartOf h).ending

/-- The Recut hart that makes an access, if it is one. -/
def Blk.recutInit (b : Blk) (i : Init) : Option Nat :=
  match i with
  | .hart h => if b.runs h && b.recut h then some h else none
  | _ => none

/-- The status of R517, but for REFUSED, SPLIT and RETRIED. -/
def Blk.recutStatus (b : Blk) (h : Nat) (refused split retried : Bool) : Nat :=
  let n := h - 16
  let m := b.fld (F.RCX_STAT_MODE n)
  (if m = 1 then b.fld (F.RCX_SLICES_SLICES n) % 2 ^ 16 * 2 ^ 16 else 0) + 16 * refused.toNat +
    8 * b.fld (F.RCX_STAT_DBG_BROKEN n) + 4 * split.toNat + 2 * retried.toNat + m

/-- Is a non-posted access of hart `h` still to be performed? -/
def Blk.npOut (b : Blk) (h : Nat) : Bool :=
  b.k.brg.tx.any (fun x => !x.posted && !x.dead && x.init == .hart h)

/-- Do accesses of hart `h` wait to be performed? -/
def Blk.waits (b : Blk) (h : Nat) : Bool :=
  b.k.memWait.any (fun x => x.init == .hart h) || b.k.stall.any (fun x => x.init == .hart h) || b.npOut h

/-- Pass one of hart `h` ends after the present instruction, or before it (R501). -/
def Blk.endSlice (b : Blk) (h : Nat) : Blk :=
  b.setHart h
    { b.hartOf h with
      ending := true }

/-- A new slice begins at the present state, in its start phase (R500, R501). -/
def Blk.newSlice (b : Blk) (h : Nat) : Blk :=
  let x := b.hartOf h
  (b.put (F.RCX_STAT_PHASE (h - 16)) 1).setHart h
    { x.startSlice with
      rerun := false
      redo := []
      redoEnd := false
      phAt := b.clk
      group0 := b.on (F.RCX_STAT_GROUP (h - 16))
      split0 := x.split }

/-! ## Instructions of pass one -/

/-- An entry of the echo log with its signature and the cycle offset of the output (R504); the 512th ends the slice
(R501). -/
def Blk.echo (b : Blk) (h : Nat) (e : Echo) : Blk :=
  let x := b.hartOf h
  b.setHart h
    { x with
      echo := x.echo ++ [e]
      sigs := x.sigs.set (fun _ => 0) x.echo.length e.sig
      offs := x.offs.set (fun _ => 0) x.echo.length (2 * (b.clk - x.oneAt))
      ending := x.ending || 511 ≤ x.echo.length }

/-- The start phase is over: pass one begins. -/
def Blk.beginOne (b : Blk) (h : Nat) : Blk :=
  if b.phase h = 1 then
    (b.put (F.RCX_STAT_PHASE (h - 16)) 2).setHart h
      { b.hartOf h with
        oneAt := b.clk }
  else b

/-- Pass one of hart `h` runs instruction `o`; `ret` is what a CSR read returns. -/
def Blk.doOp (b : Blk) (h : Nat) (o : RegOp) (ret : Nat := 0) : Blk :=
  let b1 := b.beginOne h
  let x := b1.hartOf h
  let p := Pass.one (BitVec.ofNat 32 ret) ⟨x.p1, []⟩ o
  let b2 := p.outs.foldl (fun b e => b.echo h e) (b1.setHart h
    { x with
      p1 := p.r
      prog := x.prog ++ [o] })
  match o with
  | .csrr _ _ => b2.setHart h ((b2.hartOf h).retLast ret)
  | _ => b2

/-- An instruction of which no command tells: it makes no access, or reads a CSR that it may read. -/
def innerOp : RegOp → Bool
  | .access .. | .cmd _ | .trap _ _ => false
  | _ => true

/-- Pass one of hart `h` runs such an instruction, if it has not ended. -/
def Blk.doInner (b : Blk) (h : Nat) (o : RegOp) : Blk :=
  if (b.hartOf h).ending || !innerOp o then b
  else
    match o with
    | .csrr _ n => if ((b.hartOf h).csrBar h n false).isNone then b.doOp h o (b.csrGet h n) else b
    | _ => b.doOp h o

/-- What hart `h` has run inside itself since a command last told of it: a free value (assumption 97). A re-run repeats
what it ran before (R508), and a read whose data has not come holds it. -/
def Blk.segment (b : Blk) (h : Nat) : Blk :=
  if (b.hartOf h).redo != [] || b.waits h then b
  else (Config.sliceOps b.nfree).foldl (fun b o => b.doInner h o) { b with nfree := b.nfree + 1 }

/-- The same, and the slice ends before the next instruction (R501). -/
def Blk.endBefore (b : Blk) (h : Nat) : Blk := (b.segment h).endSlice h

/-- A re-run goes on by itself up to the next instruction that a command tells of, and ends with the last instruction
of the first run (R508). -/
def Blk.redoGo (b : Blk) (h : Nat) : Blk :=
  let x := b.hartOf h
  if x.redo == [] || !b.passOne h then b
  else
    let rest := x.redo.dropWhile innerOp
    let b1 := (x.redo.takeWhile innerOp).foldl (fun b o => b.doInner h o) (b.setHart h
      { x with
        redo := rest })
    if rest == [] && x.redoEnd then b1.endSlice h else b1

/-- Hart `h` in Recut mode executes an instruction `f`: in pass one only, after the read before it has returned (R500);
in other phases the instruction waits. -/
def Blk.atOne (b : Blk) (h : Nat) (f : Blk → Blk) : Blk :=
  let b1 := b.redoGo h
  if b1.passOne h && !b1.waits h then f b1 else { b1 with resp := .pending }

/-- A re-run has come to the instruction `same` of the first run, or has taken another way: it is then no longer bound
to the first run's end. -/
def Blk.redoTake (b : Blk) (h : Nat) (same : RegOp → Bool) : Blk :=
  let x := b.hartOf h
  match x.redo with
  | [] => b
  | o :: l =>
    b.setHart h (if same o then
      { x with
        redo := l
        ending := x.ending || (l == [] && x.redoEnd) }
    else
      { x with
        redo := []
        redoEnd := false })

/-- The registers of the instruction that makes an output: address, data, rd, and whether rd is an f register. No
command names them: a free value (assumption 97); a re-run uses those of its first run. -/
def Blk.outRegs (b : Blk) (h kind a v : Nat) (rd : Option Nat) : (Fin 32 × Fin 32 × Fin 32 × Bool) × Blk :=
  let d := b.draw
  let q := d.1 % 31
  let r := d.1 / 31
  let new := ((if a % 2 ^ 32 = 0 then 0 else Fin.ofNat 32 (q + 1),
    if v % 2 ^ 32 = 0 then 0 else Fin.ofNat 32 ((q + 1 + r % 30) % 31 + 1),
    Fin.ofNat 32 (rd.getD (r / 30)), kind == 0 && r / 960 % 2 == 1), d.2)
  match (b.hartOf h).redo with
  | .access k _ _ base src rd fl :: _ => if k = kind then ((base, src, rd, fl), b) else new
  | _ => new

/-- Register `i` of hart `h` holds `v`: an instruction has set it. -/
def Blk.holdIn (b : Blk) (h : Nat) (i : Fin 32) (v : W32) : Blk :=
  if (b.hartOf h).p1.getX i == v then b else b.doOp h (.set i v)

/-- Pass one of hart `h` makes an output (R504): KIND, MASK, ADDR, DATA; `rd` where the command names it. -/
def Blk.output (b : Blk) (h kind mask a v : Nat) (rd : Option Nat := none) : Blk :=
  let r := b.outRegs h kind a v rd
  let g := r.1
  let b1 := ((r.2.redoTake h (fun o => match o with
    | .access k _ _ _ _ _ _ => k == kind
    | _ => false)).holdIn h g.1 (BitVec.ofNat 32 a)).holdIn h g.2.1 (BitVec.ofNat 32 v)
  b1.doOp h (.access kind mask (a / 2 ^ 32) g.1 g.2.1 g.2.2.1 g.2.2.2)

/-- Hart `h` executes an instruction that makes no output: RECUT.BEGIN, RECUT.END, GATE, GATE.RET. No command names the
rd of RECUT.END (assumption 97). -/
def Blk.cmdOp (b : Blk) (h : Nat) : Blk :=
  match (b.hartOf h).redo with
  | .cmd rd :: _ => (b.redoTake h (fun _ => true)).doOp h (.cmd rd)
  | _ =>
    let d := (b.redoTake h (fun _ => false)).draw
    d.2.doOp h (.cmd (Fin.ofNat 32 d.1))

/-- What the last output of hart `h` returns (R504). -/
def Blk.echoRet (b : Blk) (h v : Nat) : Blk := (b.setHart h ((b.hartOf h).retLast v)).redoGo h

/-- A result of `v` is written to the rd of the slice's last instruction in the pass-one file, the pass-two file and
the checkpoint of hart `h` (R502, R506). -/
def Blk.writeRd (b : Blk) (h v : Nat) : Blk := b.setHart h ((b.hartOf h).setX (b.hartOf h).lastRd v)

/-- Byte enables of an access of `n` bytes at `a` within its word (R504). -/
def byteMask (a n : Nat) : Nat := (2 ^ n - 1) * 2 ^ (a % 4) % 16

/-- A write that pass one has accepted is logged and held (R504, R506). -/
def Blk.hold (b : Blk) (h a n v : Nat) : Blk :=
  let b1 := b.output h 1 (byteMask a n) a (v % 2 ^ 32)
  { (b1.setHart h
      { b1.hartOf h with
        held := (b1.hartOf h).held ++ [⟨a, n, v⟩] }).redoGo h with
    resp := .done }

/-- Does a device write held by hart `h`'s slice lie at a register that a read of `n` bytes at `a` addresses
(R501)? -/
def Blk.heldAt (b : Blk) (h a n : Nat) : Bool :=
  (b.hartOf h).held.any (fun w => 0x40000000 ≤ w.addr && w.addr < 0x54000000 && w.addr < a + n && a < w.addr + w.size)

/-! ## Ends of a slice -/

/-- The slice of hart `h` ends after the present instruction, whose act `a` takes effect at the commit. -/
def Blk.endAct (b : Blk) (h : Nat) (a : Act) : Blk :=
  { b.setHart h
      { b.hartOf h with
        act := some a
        ending := true } with
    resp := .pending }

/-- A serialising instruction with operand `v` on a core in Recut mode: it forms a slice of its own (R502). -/
def Blk.serialise (b : Blk) (h : Nat) (act : Act) (a v : Nat) (rd : Option Nat := none) : Blk :=
  b.atOne h (fun b =>
    let x := b.hartOf h
    let own := match x.redo with
      | .access 3 _ _ _ _ _ _ :: _ => true
      | _ => x.prog == []
    if own then (b.output h 3 0 a (v % 2 ^ 32) rd).endAct h act else { b.endBefore h with resp := .pending })

/-- A trap in pass one of hart `h` is logged and ends the slice (R510); it is taken at the commit. -/
def Blk.logTrap (b : Blk) (h cause tval : Nat) (r : Resp) : Blk :=
  let b1 := b.redoTake h (fun o => match o with
    | .trap _ _ => true
    | _ => false)
  { (b1.doOp h (.trap cause tval)).endAct h (.trap cause tval) with resp := r }

/-- An instruction of hart `h` traps in pass one, after those before it have run, which leave room for its entry. -/
def Blk.recutTrap (b : Blk) (h cause tval : Nat) (r : Resp) : Blk :=
  b.atOne h (fun b =>
    let b1 := b.segment h
    (if (b1.hartOf h).ending then b else b1).logTrap h cause tval r)

/-- An instruction of initiator `i` ends with the exception `cause` and trap value `tval`; the initiator sees `r`. A
hart in Single mode takes it at once (R481), a core in Recut mode logs it (R510). The boot ROM and the debugger take
none. -/
def Blk.except (b : Blk) (i : Init) (cause tval : Nat) (r : Resp) : Blk :=
  match i with
  | .hart h =>
    if !b.runs h then { b with resp := r }
    else if b.recut h then b.recutTrap h cause tval r
    else { b.trap h cause tval with resp := r }
  | _ => { b with resp := r }

/-- An access of initiator `i` for which its hart has waited ends with an access fault: a trap of pass one, even where
the slice ends before the next instruction (R501, R510). -/
def Blk.waitFault (b : Blk) (i : Init) (cause a : Nat) : Blk :=
  match b.recutInit i with
  | none => b.except i cause a .accessFault
  | some h => if b.phase h = 2 then b.logTrap h cause a .accessFault else { b with resp := .accessFault }

/-- Hart `h` takes an illegal-instruction exception. Its trap value, 0 or the instruction, is a free value
(assumption 106). -/
def Blk.illegal (b : Blk) (h : Nat) : Blk := b.draw.2.except (.hart h) 2 b.draw.1 .illegal

/-- A status `v` is written to the rd of an instruction of hart `h` in Single mode; no command names it
(assumption 97). -/
def Blk.giveRd (b : Blk) (h v : Nat) : Blk := b.draw.2.setHart h ((b.hartOf h).setX (b.draw.1 % 32) v)

/-- What a core in Single mode has run leaves in its registers, pc and minstret: free values (assumption 97). -/
def Blk.ranAlone (b : Blk) (h : Nat) : Blk :=
  let x := b.hartOf h
  let ops := (Config.sliceOps b.nfree).filter (fun o => innerOp o && (match o with
    | .csrr _ _ => false
    | _ => true))
  let p := ops.foldl (Pass.one 0) ⟨x.p1, []⟩
  { b.setHart h
      { x with
        p1 := { p.r with pc := BitVec.ofNat 32 (Config.freeNat (b.nfree + 1)) }
        c := x.c.set 0xb02 (Config.freeNat (b.nfree + 2) % 2 ^ 64) } with
    nfree := b.nfree + 3 }

/-- An instruction `f` of initiator `i`, which a core in Recut mode executes in pass one. -/
def Blk.recutDev (b : Blk) (i : Init) (f : Blk → Blk) : Blk :=
  match b.recutInit i with
  | none => f b
  | some h => b.atOne h f

end Sys2Proof.Machine
end

