-- ==== Sys2Proof/Machine/Ops.lean ====
section
/-!
DEFINITION. Machine/Ops.lean: the judgement of a register access (R23, R528, R529, R544), what a hart in Recut mode does
with one instead (R500, R506), and how a meaning is lifted to the state.
-/

namespace Sys2Proof.Machine

/-! ## Judging an access -/

/-- The attributes SEC and CTX of an initiator's transactions (R522), or none if it cannot make any. An unlocked
debug port still reads while the boot ROM has halted (R62). -/
def Blk.attr (b : Blk) (i : Init) : Option (Bool × Nat) :=
  match i with
  | .hart h =>
    if b.runs h then
      let x := b.hartOf h
      some (if x.v then (false, x.hvctx) else (x.w, x.ctx))
    else none
  | .boot => if b.kcRun && b.mark then some (true, 0) else none
  | .debug =>
    if (b.kcRun || b.kc == .halted) && 2 ≤ b.fld F.KV_STAT_DBG_LEVEL then some (true, 0) else none

/-- Is the block that holds the register at `a` gated off (R544)? -/
def Blk.gateOff (b : Blk) (g : Nat) : Bool :=
  !b.on (F.SYSCTL_GATE_CLK_ON g) || !b.on (F.SYSCTL_GATE_PWR_ON g)

/-- The switch core is off: KC does not run, or its gate is closed or unpowered (R322, R367, R544). -/
def Blk.swcOff (b : Blk) : Bool := !b.kcRun || b.gateOff 0x50

/-- Does gate number `g` exist (R541)? -/
def gateExists (g : Nat) : Bool :=
  g ≤ 28 || (0x20 ≤ g && g ≤ 0x2f) || (0x30 ≤ g && g ≤ 0x3b) || (0x40 ≤ g && g ≤ 0x43) ||
    (0x48 ≤ g && g ≤ 0x4b) || g == 0x50

/-- Has gate `g` a power gate (R541)? -/
def gateHasPwr (g : Nat) : Bool := g ≤ 23 || (0x40 ≤ g && g ≤ 0x43) || g == 0x50

/-- The gate of the block that holds the register at `a`, if any (R541). -/
def gateOf (a : Nat) : Option Nat :=
  if 0x42000000 ≤ a ∧ a < 0x421d0000 then some ((a - 0x42000000) / 0x10000)
  else if 0x43000000 ≤ a ∧ a < 0x43100000 then some (0x20 + (a - 0x43000000) / 0x10000)
  else if 0x43100000 ≤ a ∧ a < 0x43130000 then some (0x30 + (a - 0x43100000) / 0x4000)
  else if 0x40b01000 ≤ a ∧ a < 0x40b02000 then some (0x48 + (a - 0x40b01000) / 0x400)
  else if 0x40a01000 ≤ a ∧ a < 0x40a02000 then some (0x40 + (a - 0x40a01000) / 0x400)
  else if 0x41000000 ≤ a ∧ a < 0x42000000 then some 0x50
  else none

/-- The verdict on an access: accepted, or a bus error with its SEC_REF reason and fault source. -/
inductive Verdict where
  | accept
  | absent
  /-- Stopped at the hart: its hvctx names no normal-world partition (R526), or its PMP bars the access (R469). -/
  | stopped
  | barred
  | refuse (reason : Option Nat) (src : Option Nat)
deriving DecidableEq, Repr

/-- The interrupt controller's owners (R488, R489). -/
def icuAccepts (a : Nat) (sec : Bool) (ctx : Nat) : Bool :=
  if a < 0x44010000 then sec
  else if a < 0x44100000 then ctx == 1
  else if a < 0x44200000 then sec || 16 ≤ (a - 0x44100000) / 0x1000
  else if a < 0x44300000 then true
  else if a < 0x44300400 then ctx == 0 || (ctx == 1 && a != 0x44300000)
  else sec

/-- Is `a` a register that gathers bits of several owners' units, and which units: DI_LVL the inputs, CAN_MB_FULL
and CAN_MB_DONE the buffer groups (R216, R401)? -/
def gathers (a : Nat) : List (Nat × Nat) :=
  if a = 0x50030004 then (List.range 32).map (fun k => (0x0c, k))
  else if a = 0x50030008 then (List.range 16).map (fun k => (0x0c, 32 + k))
  else if 0x43000000 ≤ a ∧ a < 0x43100000 ∧ 0x68 ≤ a % 0x10000 ∧ a % 0x10000 < 0x78 then
    (List.range 4).map (fun g => (0x06, (a - 0x43000000) / 0x10000 * 8 + (a - 0x68) % 0x10000 / 4 % 2 * 4 + g))
  else []

/-- The owner of a WBG slot that is not IDLE is the context that claimed it (R240). -/
def Blk.slotAccepts (b : Blk) (k ctx : Nat) : Bool :=
  b.fld (F.WBG_SLOT_STAT_STATE k) == 0 || b.fld (F.WBG_SLOT_STAT_CTX k) == ctx

/-- The ownership verdict on an access with attributes `sec`, `ctx` to the register at `a`
(R528, R529 and the exceptions R528 names). -/
def Blk.judgeOwner (b : Blk) (sec : Bool) (ctx : Nat) (a : Nat) (wr : Bool) : Verdict :=
  let no := Verdict.refuse (some 9) (some 194)
  if 0x44000000 ≤ a ∧ a < 0x48000000 then (if icuAccepts a sec ctx then .accept else no)
  else if a = R.SYSCTL_ID ∧ wr = false then .accept
  else if 0x40001000 ≤ a ∧ a < 0x40001144 then
    let w := b.fld (F.SYSCTL_GATE_WORLDS ((a - 0x40001000) / 4))
    if wr = false then .accept
    else if w = 2 then
      (if ctx = 0 then .accept else if ctx = 1 then .refuse (some 9) (some 196) else no)
    else if ctx = 1 then .accept else no
  else if 0x40002000 ≤ a ∧ a < 0x40002144 then (if ctx = 0 then .accept else no)
  else if 0x40100100 ≤ a ∧ a < 0x40100200 then
    (if b.slotAccepts ((a - 0x40100100) / 0x10) ctx then .accept else no)
  else if 0x40701000 ≤ a ∧ a < 0x40701400 ∧ wr = false ∧ ctx = 1 then .accept
  else if b.ownerAccepts (b.ownerOf a) ctx then .accept
  else if (gathers a).any (fun u => b.ownerAccepts (b.ownOf u.1 u.2) ctx) then .accept
  else no

/-- Is the register at `a` assigned (R23)? Gate numbers that R541 does not list are not. -/
def assigned (a : Nat) : Bool :=
  if 0x40001000 ≤ a ∧ a < 0x40001144 then a % 4 == 0 && gateExists ((a - 0x40001000) / 4)
  else if 0x40002000 ≤ a ∧ a < 0x40002144 then a % 4 == 0 && gateExists ((a - 0x40002000) / 4)
  else (locate a).isSome

/-- Does R526 stop the hart's accesses? -/
def Blk.hvStop (b : Blk) (i : Init) : Bool :=
  match i with
  | .hart h => (b.hartOf h).v && !b.ctxNormalPart (b.hartOf h).hvctx
  | _ => false

/-- The verdict on a register access of initiator `i`. -/
def Blk.judge (b : Blk) (i : Init) (a : Nat) (wr : Bool) : Verdict :=
  match b.attr i with
  | none => .absent
  | some (sec, ctx) =>
    if b.hvStop i then .stopped
    else if !b.pmpOk i (if wr then .write else .read) a 4 then .barred
    else if assigned a = false then .refuse none none
    else if (gateOf a).any b.gateOff then .refuse (some 10) none
    else if i = .boot then .accept
    else b.judgeOwner sec ctx a wr

/-- A refusal is entered in SEC_REF (R547). `kind` as in SEC_REF_HI.KIND. -/
def Blk.refLog (b : Blk) (sec : Bool) (ctx kind reason a : Nat) : Blk :=
  ((((((b.put F.SEC_REF_LO_ADDR a).put F.SEC_REF_HI_CTX ctx).putB F.SEC_REF_HI_SEC sec).put
    F.SEC_REF_HI_KIND kind).put F.SEC_REF_HI_REASON reason).put F.SEC_REF_HI_ADDR (a / 2 ^ 32)).incWrap
    F.SEC_REF_CNT_COUNT

/-- The effect of a refused access: bus error, log, fault source (R529). -/
def Blk.refused (b : Blk) (i : Init) (a : Nat) (wr : Bool) (reason src : Option Nat) : Blk :=
  let at' := (b.attr i).getD (true, 0)
  let b1 := match reason with
    | some r => b.refLog at'.1 at'.2 wr.toNat r a
    | none => b
  let b2 := match src with
    | some f => b1.raise f (a / 256) (some at'.2)
    | none => b1
  { b2 with resp := .busError }

/-- The address of a field die's window, or none. -/
def dieOfAddr (a : Nat) : Option Nat :=
  if 0x51000000 ≤ a ∧ a < 0x51c00000 then some ((a - 0x51000000) / 0x100000) else none

/-- Is the die halted (R166)? -/
def Blk.halted (b : Blk) (n : Nat) : Bool := b.on (F.DIE_PSTAT_HALT n)

/-- A write that reaches its target, by the die's halt rule (R8, R166). -/
def Blk.applyReg (b : Blk) (a : Nat) (v : W32) : Blk :=
  if (dieOfAddr a).any b.halted then b.writeHalted a v else b.writeReg a v

/-- R28: does the copy on UH or on the die accept the access? A halted die judges none (R166). -/
def Blk.copyJudge (b : Blk) (i : Init) (a : Nat) : Bool :=
  match b.attr i with
  | none => false
  | some (_, ctx) =>
    i == .boot || a < 0x50000000 || (dieOfAddr a).any b.halted ||
      copyAccepts (b.copyOf (unitOf a).1 (unitOf a).2) ctx

/-- A transaction that the copy refuses is discarded and raises FS240, or the die's first source, and
FS173 at the bridge (R28, R586). -/
def Blk.copyRefused (b : Blk) (a : Nat) : Blk :=
  let src := match dieOfAddr a with
    | some n => 256 + 10 * n
    | none => 240
  { (b.raiseF src (a / 256)).raise 173 (a / 256) with resp := .done }

/-- An access that its verdict does not accept: a hart takes the exception of R481. -/
def Blk.devRefused (b : Blk) (i : Init) (a : Nat) (wr : Bool) (v : Verdict) : Blk :=
  let cause := if wr then 7 else 5
  match v with
  | .accept => b
  | .absent => { b with resp := .absent }
  | .stopped => (b.raise 197).except i cause a .accessFault
  | .barred => b.except i cause a .accessFault
  | .refuse r s => (b.refused i a wr r s).except i cause a .busError

/-- A write by initiator `i` of the word `v` to the register at `a`, with effect `f` where it is accepted; a core in
Recut mode holds it until its commit (R506). -/
def Blk.onWrite (b : Blk) (i : Init) (a : Nat) (v : W32) (f : Blk → Blk) : Blk :=
  b.recutDev i (fun b =>
    match b.judge i a true, b.recutInit i with
    | .accept, some h => b.hold h a 4 v.toNat
    | .accept, none => if b.copyJudge i a then f { b with resp := .done } else b.copyRefused a
    | e, _ => b.devRefused i a true e)

/-- A read by initiator `i` of the register at `a`, with effect `f` where it is accepted; a core in Recut mode logs it,
and ends its slice before a read of a register that it holds a write of (R501, R504). -/
def Blk.onRead (b : Blk) (i : Init) (a : Nat) (f : Blk → Blk) : Blk :=
  b.recutDev i (fun b =>
    match b.judge i a false, b.recutInit i with
    | .accept, some h =>
      if b.heldAt h a 4 then { b.endBefore h with resp := .pending }
      else
        let r := f (b.output h 0 15 a 0)
        match r.resp with
        | .data v => { r.echoRet h v with resp := .data v }
        | _ => r
    | .accept, none => if b.copyJudge i a then f { b with resp := .done } else b.copyRefused a
    | e, _ => b.devRefused i a false e)

/-- Is a write by `i` of the register at `a` accepted everywhere on its way, and performed at once? -/
def Blk.writable (b : Blk) (i : Init) (a : Nat) : Bool :=
  b.judge i a true == .accept && b.copyJudge i a && (b.recutInit i).isNone

/-! ## Lifting to the state -/

/-- A command that acts on the block alone. `ok` says that the units it names exist. -/
def onBlk (ok : Bool) (s : State) (f : Blk → Blk) : Host.Outcome State Fault Refusal :=
  if ok then .next { s with blk := f s.blk } else .fault .noSuchUnit

/-- An event of a block whose clock gate is `g`: nothing happens while it is off (R544). -/
def onClk (ok : Bool) (g : Nat) (s : State) (f : Blk → Blk) : Host.Outcome State Fault Refusal :=
  onBlk ok s (fun b => if b.kcRun && !b.gateOff g then f b else b)

/-- A command that acts on the block and on memory. -/
def onMem (ok : Bool) (s : State) (f : Blk → List Host.Cell → Blk × List Host.Cell) :
    Host.Outcome State Fault Refusal :=
  if ok then
    let r := f s.blk s.mem
    .next { s with blk := r.1, mem := r.2 }
  else .fault .noSuchUnit

end Sys2Proof.Machine
end

