-- ==== Sys2Proof/Machine/Channel.lean ====
section
/-!
DEFINITION. Machine/Channel.lean: load channels (R101 to R145): the power stage and its results, starts
and leave, timed commands, adoption, PWM. The operations come first, the meanings of the commands
after them.
-/

namespace Sys2Proof.Machine

/-! ## Groups and fields of a channel -/

/-- Members of the group of channel `k`; 1 for a single channel (R135 GANG). -/
def Blk.gangSize (b : Blk) (k : Nat) : Nat := 2 ^ b.fld (F.CH_STAT_GANG k)

/-- The lead of channel `k` (R104): FIRST is a multiple of SIZE. -/
def Blk.leadOf (b : Blk) (k : Nat) : Nat := k / b.gangSize k * b.gangSize k

/-- The members of the group whose lead is `k`. -/
def Blk.members (b : Blk) (k : Nat) : List Nat := (List.range (b.gangSize k)).map (k + ·)

/-- The leads of die `n`, in channel order. -/
def Blk.leads (b : Blk) (n : Nat) : List Nat :=
  ((List.range 16).map (16 * n + ·)).filter (fun k => b.leadOf k == k)

/-- A register of a group member repeats fields `fs` of its lead's (R135, R158, R175). -/
def Blk.memberView (b : Blk) (k : Nat) (fs : List (Nat → Fld)) (w : W32) : W32 :=
  fs.foldl (fun x f => (f k).ins x (b.fld (f (b.leadOf k)))) w

/-- What CH_STAT of channel `k` reads (R106, R135): all members' power stages are driven together, and BANK_LOW is
the die's. -/
def Blk.chStat (b : Blk) (k : Nat) : W32 :=
  (F.CH_STAT_BANK_LOW k).ins
    (b.memberView k [F.CH_STAT_MODE, F.CH_STAT_OFF_REASON, F.CH_STAT_TAG, F.CH_STAT_OUT] (b.reg (R.CH_STAT k)))
    (b.fld (F.DIE_BANK_BANK_LOW (k / 16)))

/-- CH_STAT.MODE: 0 OFF, 1 ON, 2 PWM, 3 CHARGE, 4 WAIT. -/
def Blk.mode (b : Blk) (k : Nat) : Nat := b.fld (F.CH_STAT_MODE k)

/-- Is the power stage of a lead in this MODE driven or in PWM (state ON of R153)? -/
def modeOn (m : Nat) : Bool := m == 1 || m == 2 || m == 3

/-- Rank of an OFF_REASON code (R149); code 0 has no rank. -/
def rankOf (code : Nat) : Nat :=
  [99, 1, 2, 3, 4, 9, 10, 13, 14, 5, 6, 8, 11, 7, 12].getD code 99

/-- Event bit `e` of CH_EVT (R143). -/
def Blk.chEvt (b : Blk) (k e : Nat) : Blk :=
  b.event ⟨R.CH_EVT k, 6, 0⟩ (F.CH_IEN_EN k) e k

/-- The result of the last write to CH_CMD, CH_TCMD or CH_ADOPT (R137). -/
def Blk.res (b : Blk) (k code : Nat) : Blk := b.put (F.CH_CMD_STAT_RESULT k) code

/-- The result of the last timed command (R137). -/
def Blk.tres (b : Blk) (k code : Nat) : Blk := b.put (F.CH_CMD_STAT_TRESULT k) code

/-! ## PWM generators -/

/-- The 33-bit TB0 timestamp of a time in ns. -/
def t33 (t : Nat) : Nat := t % 2 ^ 33

/-- The local tick counter of die `n` in TB0 ns (R20): it counts on by 2 ns per tick from the value of the
last alignment pulse; on the sleep oscillator it stands. -/
def Blk.dieNow (b : Blk) (n : Nat) : Nat :=
  let d := b.dieOf n
  if d.asleep then d.alTb else d.alTb + 2 * (b.clk - d.alAt)

/-- The most recent past instant whose 33-bit timestamp is the generator's anchor (R121). -/
def Blk.pgOrigin (b : Blk) (n g : Nat) : Int :=
  let a : Nat := b.fld (F.PG_ANCHOR_ANCHOR n g) + 2 ^ 32 * b.fld (F.PG_CTL_ANCHOR_EP n g)
  (b.dieNow n : Int) - ((b.dieNow n : Int) - (a : Int)) % (2 ^ 33 : Nat)

/-- A lead enters PWM on generator `g` of die `n`: its first user fixes the origin (R121). -/
def Blk.pgEnter (b : Blk) (n g : Nat) : Blk :=
  let d := b.dieOf n
  let b1 := b.put (F.PG_CTL_USERS n g) (b.fld (F.PG_CTL_USERS n g) + 1)
  if b.fld (F.PG_CTL_USERS n g) = 0 then
    b1.setDie n { d with org := d.org.set (fun _ => none) g (some (b.pgOrigin n g)) }
  else b1

/-- A lead leaves PWM; without users the origin is no longer fixed (R121). -/
def Blk.pgLeave (b : Blk) (n g : Nat) : Blk :=
  let d := b.dieOf n
  let b1 := b.put (F.PG_CTL_USERS n g) (b.fld (F.PG_CTL_USERS n g) - 1)
  if b.fld (F.PG_CTL_USERS n g) = 1 then
    b1.setDie n { d with org := d.org.set (fun _ => none) g none }
  else b1

/-- Ticks since the last period boundary of generator `g` of die `n`. -/
def Blk.pgPos (b : Blk) (n g : Nat) : Nat :=
  let p := b.fld (F.PG_PERIOD_PERIOD n g)
  let o := ((b.dieOf n).org.get (fun _ => none) g).getD (b.pgOrigin n g)
  ((((b.dieNow n : Int) - o) / 2) % (p : Int)).toNat

/-- Ticks since the start of the on interval of lead `k` (R122). -/
def Blk.pwmPos (b : Blk) (k : Nat) : Nat :=
  let c := b.chanOf k
  let p := b.fld (F.PG_PERIOD_PERIOD (k / 16) c.pg)
  (b.pgPos (k / 16) c.pg + p - c.phase % p) % p

/-- On time in ticks for period `p` and duty `d`: on times and off times under 500 ticks are not
made (R122). -/
def onTicks (p d : Nat) : Nat :=
  let on := p * d / 4096
  if on < 500 then 0 else if p - on < 500 then p else on

/-- The on time of lead `k` at its duty in force. -/
def Blk.pwmOn (b : Blk) (k : Nat) : Nat :=
  onTicks (b.fld (F.PG_PERIOD_PERIOD (k / 16) (b.chanOf k).pg)) (b.fld (F.CH_DUTY_CUR k))

/-- The level a lead takes on entry into PWM (R122): on if the instant lies in an on interval of
which at least 500 ticks remain. -/
def Blk.pwmLevel (b : Blk) (k : Nat) : Bool :=
  let p := b.fld (F.PG_PERIOD_PERIOD (k / 16) (b.chanOf k).pg)
  let on := b.pwmOn k
  b.pwmPos k < on && (on == p || 500 ≤ on - b.pwmPos k)

/-! ## Changing a lead's state -/

/-- Notes what the lead's MODE, duty and OUT were at the start of the present tick (R150). -/
def Blk.chMark (b : Blk) (k : Nat) : Blk :=
  let c := b.chanOf k
  if c.markAt = b.clk + 1 then b
  else b.setChan k { c with
    markAt := b.clk + 1
    markMode := b.mode k
    markDuty := b.fld (F.CH_DUTY_CUR k)
    markOut := b.on (F.CH_STAT_OUT k) }

/-- The off-state test of lead `k` stops, and with it the condition it finds (R163). -/
def Blk.testStop (b : Blk) (k : Nat) : Blk :=
  (b.put (F.CH_PROT_STAT_OL_OFF k) 0).setChan k { b.chanOf k with olTest := false }

/-- MODE, OFF_REASON and the duty in force of lead `k` become `mode`, `reason`, `duty`; TAG increments
if one of them changes (R135, assumption 20); the generator's users are kept (R130). The off-state test
runs in MODE OFF only (R163). -/
def Blk.chUpd (b : Blk) (k mode reason duty : Nat) : Blk :=
  let b0 := b.chMark k
  let changed := mode != b.mode k || reason != b.fld (F.CH_STAT_OFF_REASON k) ||
    duty != b.fld (F.CH_DUTY_CUR k)
  let b1 := ((b0.put (F.CH_STAT_MODE k) mode).put (F.CH_STAT_OFF_REASON k) reason).put
    (F.CH_DUTY_CUR k) duty
  let b2 := if changed then b1.incWrap (F.CH_STAT_TAG k) else b1
  let b3 := if mode = 0 then b2 else b2.testStop k
  let g := (b.chanOf k).pg
  if b.mode k != 2 && mode == 2 then b3.pgEnter (k / 16) g
  else if b.mode k == 2 && mode != 2 then
    let b4 := b3.pgLeave (k / 16) g
    b4.setDie (k / 16) { b4.dieOf (k / 16) with slpK := (b4.dieOf (k / 16)).slpK.erase k }
  else b3

/-- OFF_REASON becomes `code` while MODE and duty stay. -/
def Blk.chReason (b : Blk) (k code : Nat) : Blk :=
  b.chUpd k (b.mode k) code (b.fld (F.CH_DUTY_CUR k))

/-- Does a turn-off with `code` set CH_EVT.OFF_NC (R151)? -/
def offNc (code : Nat) : Bool := code != 7 && code != 8 && code != 0xe

/-- Did lead `k`, which is off, turn off on this tick? -/
def Blk.offNow (b : Blk) (k : Nat) : Bool :=
  (b.chanOf k).markAt == b.clk + 1 && modeOn (b.chanOf k).markMode && b.mode k == 0

/-- While the output is off, a further cause replaces OFF_REASON only if it ranks higher (R151). Where the
output turned off on this very tick, the turn-off has the code of the higher-ranked cause (R150). -/
def Blk.raiseReason (b : Blk) (k code : Nat) : Blk :=
  if rankOf code < rankOf (b.fld (F.CH_STAT_OFF_REASON k)) then
    let b1 := b.chReason k code
    if b.offNow k && offNc code then b1.chEvt k 6 else b1
  else b

/-- The output of lead `k` is driven (`v`) or not; a rise is noted (R162); a fall is noted (R190). -/
def Blk.setOut (b : Blk) (k : Nat) (v : Bool) : Blk :=
  let b1 := b.putB (F.CH_STAT_OUT k) v
  if v && !b.on (F.CH_STAT_OUT k) then b1.setChan k { b1.chanOf k with riseAt := b.clk, rose := true }
  else if !v && b.on (F.CH_STAT_OUT k) then b1.setChan k { b1.chanOf k with fallAt := b.clk }
  else b1

/-! ## Leave -/

/-- The bank feed of die `n` (R12): 0 VBANK_A to 5 VBANK_F. -/
def bankOf (n : Nat) : Nat := n / 2

/-- UH grants leave in place of the weighbridge: from a keeper timeout until the next keepalive, and from
a KC start until WBG_STAT.STARTED (R31). -/
def Blk.uhGrants (b : Blk) : Bool := b.uhStart || b.on F.AON_PSTATE_KEEPER_LOST

/-- Does a start of lead `k` take leave (R120)? Every group does, and a single channel whose declared
PEAK or ENERGY exceeds the exemption; every start does while SB_EXH is 1 (R242). -/
def Blk.needsLeave (b : Blk) (k : Nat) : Bool :=
  b.gangSize k != 1 || b.on F.WBG_STAT_SB_EXH ||
    b.fld (F.DIE_LEAVE_EX_PEAK (k / 16)) < b.fld (F.CH_INRUSH_PEAK k) ||
    b.fld (F.DIE_LEAVE_EX_ENERGY (k / 16)) < b.fld (F.CH_INRUSH_ENERGY k)

/-- The die sends a leave request for lead `k`: to UH while UH grants leave, else to the weighbridge
(R30, R31). -/
def Blk.sendLeave (b : Blk) (k : Nat) : Blk :=
  let r : Leave := ⟨b.nreq, k, b.fld (F.CH_INRUSH_PEAK k), b.fld (F.CH_INRUSH_ENERGY k), b.clk⟩
  if b.uhGrants then { b with nreq := b.nreq + 1, reqUh := b.reqUh ++ [r] }
  else { b with nreq := b.nreq + 1, reqWbg := b.reqWbg ++ [r] }

/-- UH grants the waiting requests whose bank is free, oldest first, one start per bank (R31). -/
def uhServe : List Leave → List (Nat × Nat) → List Leave × List (Nat × Nat) × List Answer
  | [], hold => ([], hold, [])
  | r :: rs, hold =>
    if hold.any (fun h => h.2 == bankOf (r.ch / 16)) then
      let x := uhServe rs hold
      (r :: x.1, x.2.1, x.2.2)
    else
      let x := uhServe rs (hold ++ [(r.id, bankOf (r.ch / 16))])
      (x.1, x.2.1, ⟨r.id, r.ch, true⟩ :: x.2.2)

/-- UH serves its waiting requests. -/
def Blk.uhServe (b : Blk) : Blk :=
  let x := Machine.uhServe b.uhWait b.uhHold
  { b with uhWait := x.1, uhHold := x.2.1, answers := b.answers ++ x.2.2 }

/-- A leave request is withdrawn, or a grant released, wherever it stands; a bank that becomes free at
UH goes to the oldest waiting request (R31, R110, R120). -/
def Blk.dropLeave (b : Blk) (id : Nat) : Blk :=
  let b1 := { b with
    reqWbg := b.reqWbg.filter (fun r => r.id != id)
    reqUh := b.reqUh.filter (fun r => r.id != id)
    wbgQueue := b.wbgQueue.filter (fun r => r.id != id)
    wbgGrants := b.wbgGrants.filter (fun r => r.id != id)
    answers := b.answers.filter (fun r => r.id != id)
    uhWait := b.uhWait.filter (fun r => r.id != id)
    uhHold := b.uhHold.filter (fun r => r.1 != id) }
  if b.uhHold.any (fun r => r.1 == id) then b1.uhServe else b1

/-- The leave request and the grant of lead `k` end. -/
def Blk.endLeave (b : Blk) (k : Nat) : Blk :=
  let c := b.chanOf k
  let b1 := match c.req with
    | some id => b.dropLeave id
    | none => b
  let b2 := match c.grant with
    | some id => b1.dropLeave id
    | none => b1
  b2.setChan k { b2.chanOf k with req := none, grant := none, start := none }

/-- The grant of lead `k` is released and kept by nobody. -/
def Blk.freeGrant (b : Blk) (k : Nat) : Blk :=
  match (b.chanOf k).grant with
  | some id =>
    let b1 := b.dropLeave id
    b1.setChan k { b1.chanOf k with grant := none }
  | none => b

/-! ## Wire-model state -/

/-- The ambient temperature code in force on die `n` (R159). -/
def Blk.ambient (b : Blk) (n : Nat) : Nat :=
  if b.on (F.WM_AMB_STALE n) then b.fld (F.WM_AMB_FS_AMB n) else b.fld (F.WM_AMB_AMB n)

/-- REARM in force as a code, °C + 50 (R160): at or above TRIP it acts as TRIP − 1 °C. -/
def Blk.rearm (b : Blk) (k : Nat) : Int :=
  min (b.fld (F.CH_WM_LIM_REARM k) : Int) ((b.fld (F.CH_WM_LIM_TRIP k) : Int) - 1)

/-- WM_ABOVE of lead `k` is live (R160): Tamb + θ exceeds REARM. -/
def Blk.wmSync (b : Blk) (k : Nat) : Blk :=
  b.putB (F.CH_PROT_STAT_WM_ABOVE k) ((b.rearm k - b.ambient (k / 16)) * 256 < (b.chanOf k).thetaE)

/-- θ of lead `k` becomes `θ`, the engine's value `e` (R158, R173). -/
def Blk.setTheta (b : Blk) (k : Nat) (θ e : Int) : Blk :=
  ((b.put (F.CH_WM_THETA_THETA k) (max 0 (min e 65535)).toNat).setChan k { b.chanOf k with
    theta := θ
    thetaE := e }).wmSync k

/-- Does the wire-model engine of die `n` run in SLEEP (R160): some channel has θ above 0.5 K, or a lead with
SLEEP_HOLD is not OFF? -/
def Blk.engineRuns (b : Blk) (n : Nat) : Bool :=
  (b.leads n).any (fun k =>
    decide (128 < (b.chanOf k).thetaE) || (b.on (F.CH_STAT_SLEEP_HOLD k) && b.mode k != 0))

/-- The engine of die `n` stops in SLEEP: θ of 0.5 K or less on a lead without SLEEP_HOLD becomes 0 (R160). -/
def Blk.engineStop (b : Blk) (n : Nat) : Blk :=
  if b.engineRuns n then b
  else (b.leads n).foldl (fun x k => if x.on (F.CH_STAT_SLEEP_HOLD k) then x else x.setTheta k 0 0) b

/-- At least `p` sleep-oscillator periods, at its fastest 1.05 MHz, have passed since tick `t` - 1 (R124). -/
def Blk.sleepPeriods (b : Blk) (p t : Nat) : Bool := t = 0 || p * 500 * 100 ≤ (b.clk + 1 - t) * 105

/-- Where the engine of a sleeping die has just stopped, θ is cleared (R160). -/
def Blk.engineCheck (b : Blk) (n : Nat) : Blk := if (b.dieOf n).asleep then b.engineStop n else b

/-! ## Starts of one tick -/

/-- A demand of rank `r` is about to start lead `k` (R150): what it finds is kept for this tick. -/
def Blk.noteStart (b : Blk) (k r : Nat) (rep : Option Bool) : Blk :=
  let c := b.chanOf k
  let u : Undo :=
    { tick := b.clk + 1, rank := r, rep := rep, mode := b.mode k, reason := b.fld (F.CH_STAT_OFF_REASON k)
      duty := b.fld (F.CH_DUTY_CUR k), next := b.fld (F.CH_DUTY_NEXT k), tag := b.fld (F.CH_STAT_TAG k)
      out := b.on (F.CH_STAT_OUT k), chgFail := b.on (F.CH_STAT_CHG_FAIL k), pend := b.fld (F.CH_PROT_STAT_PEND k)
      retry := b.fld (F.CH_PROT_STAT_RETRY_CNT k), olOff := b.on (F.CH_PROT_STAT_OL_OFF k)
      restart := b.on (F.CH_PROT_EVT_RESTART k), done := b.on ⟨R.CH_EVT k, 0, 0⟩, start := c.start, olTest := c.olTest }
  b.setChan k { c with undo := some u }

/-- The rank of the demand that started lead `k` on this tick, if one did. -/
def Blk.startedNow (b : Blk) (k : Nat) : Option Nat :=
  (b.chanOf k).undo.bind (fun u => if u.tick = b.clk + 1 then some u.rank else none)

/-- A cause of rank `r` demands the output of lead `k` off. A start that a lower-ranked demand, or a restart or resume,
made on this tick has had no effect (R150). A command so undone by a low bank feed (`low`) is refused with BANK_LOW,
since commands are checked after every higher-ranked cause; any other reports DONE (assumption 81). -/
def Blk.undoStart (b : Blk) (k r : Nat) (low : Bool) : Blk :=
  match (b.chanOf k).undo with
  | none => b
  | some u =>
    if u.tick ≠ b.clk + 1 ∨ u.rank ≤ r then b
    else
      let b1 := (b.endLeave k).chUpd k u.mode u.reason u.duty
      let b2 := ((((b1.put (F.CH_STAT_TAG k) u.tag).putB (F.CH_STAT_OUT k) u.out).putB (F.CH_STAT_CHG_FAIL k) u.chgFail).put
        (F.CH_DUTY_NEXT k) u.next).put (F.CH_PROT_STAT_PEND k) u.pend
      let b3 := ((b2.put (F.CH_PROT_STAT_RETRY_CNT k) u.retry).putB (F.CH_PROT_STAT_OL_OFF k) u.olOff).putB
        (F.CH_PROT_EVT_RESTART k) u.restart
      let b4 := b3.setChan k { b3.chanOf k with undo := none, start := u.start, olTest := u.olTest }
      let code := if low then 6 else 0
      match u.rep with
      | none => b4
      | some false => b4.res k code
      | some true =>
        if low then ((b4.putB ⟨R.CH_EVT k, 0, 0⟩ u.done).tres k code).chEvt k 1 else b4.tres k code

/-! ## Turning off -/

/-- A cause of rank `r` has demanded the output off on this tick (R150). -/
def Blk.causeOff (b : Blk) (k r : Nat) : Blk :=
  let c := b.chanOf k
  b.setChan k { c with
    causeAt := b.clk + 1
    causeRank := if c.causeAt = b.clk + 1 then min c.causeRank r else r }

/-- A cause that ranks above `r` has demanded the output of lead `k` off on this tick (R150). -/
def Blk.outranked (b : Blk) (k r : Nat) : Bool :=
  (b.chanOf k).causeAt == b.clk + 1 && decide ((b.chanOf k).causeRank < r)

/-- The output of lead `k`, which is ON or in WAIT, turns off with `code` (R151, R154).
DESIGN CHOICE: CH_DUTY.CUR keeps the last PWM duty while MODE is not PWM, and NEXT takes it (R142, log 91). -/
def Blk.turnOff (b : Blk) (k code : Nat) : Blk :=
  let was := modeOn (b.mode k)
  let b1 := (b.endLeave k).chUpd k 0 code (b.fld (F.CH_DUTY_CUR k))
  let b2 := ((b1.setOut k false).put (F.CH_DUTY_NEXT k) (b1.fld (F.CH_DUTY_CUR k))).put (F.CH_PROT_STAT_OL_ON k) 0
  let b3 := (b2.setChan k { b2.chanOf k with offAt := b.clk, olCnt := 0 }).engineCheck (k / 16)
  if was && offNc code then b3.chEvt k 6 else b3

/-- A command, policy or SLEEP entry demands lead `k` off with `code` (R109, R151, R154). Where a higher-ranked demand
has started the lead on this tick, that one has decided (R150). -/
def Blk.cmdOff (b0 : Blk) (k code : Nat) : Blk :=
  let b := b0.undoStart k (rankOf code) false
  if (b.startedNow k).any (· < rankOf code) then b
  else
    let b1 := b.causeOff k (rankOf code)
    let b2 := b1.setChan k { b1.chanOf k with cmdOffAt := b.clk + 1 }
    if modeOn (b.mode k) || b.mode k == 4 then b2.turnOff k code
    else if b.on (F.CH_PROT_STAT_PEND k) then b2.put (F.CH_PROT_STAT_PEND k) 0
    else b2.raiseReason k code

/-! ## Starting -/

/-- The PHASE with which lead `k` enters PWM from a start: what CH_PHASE was when the start was accepted, or
what it has become if a period boundary has passed since it was written (R123, R141). -/
def Blk.phaseNow (b : Blk) (k : Nat) : Nat :=
  let c := b.chanOf k
  if b.pgPos (k / 16) c.pg ≤ b.clk - c.phaseAt then b.fld (F.CH_PHASE_PHASE k) else c.phase

/-- The power stage of lead `k` starts in MODE `want` (R118, R119, R122, R151, R157). -/
def Blk.startStage (b : Blk) (k want duty rest : Nat) : Blk :=
  let c := b.chanOf k
  let b1 := b.setChan k { c with
    start := none, req := none, grant := c.req, onAt := b.clk, phase := b.phaseNow k
    full := false, bounds := 0, rose := false, olCnt := 0 }
  let b2 := (b1.put (F.CH_PROT_STAT_PEND k) 0).chUpd k want 0
    (if want = 2 then duty else b.fld (F.CH_DUTY_CUR k))
  let b3 := b2.put (F.CH_DUTY_NEXT k) (b2.fld (F.CH_DUTY_CUR k))
  let b4 := b3.setOut k (if want = 2 then b3.pwmLevel k else true)
  let b5 := if rest = 1 then b4.incSat (F.CH_PROT_STAT_RETRY_CNT k) else b4
  if rest = 0 then b5 else b5.put (F.CH_PROT_EVT_RESTART k) 1

/-- A start of lead `k` is accepted (R109, R120). Answers the result code: DONE where the power stage
starts at once, WAIT_LEAVE where the start waits. `ahead` is the request of a timed command that was
sent ahead of its activation time, with its answer if there is one.
DESIGN CHOICE: CH_PHASE as it stands when the start is accepted counts at once (R122), one written while the start waits
from the next boundary (R123, log 102). -/
def Blk.beginStart (b : Blk) (k want duty : Nat) (timed : Bool) (rest : Nat)
    (ahead : Option (Nat × Option Bool)) : Nat × Blk :=
  let b0 := (b.put (F.CH_STAT_CHG_FAIL k) 0)
  let c := b0.chanOf k
  let b1 := b0.setChan k { c with pg := b.fld (F.CH_CFG_PG k), phase := b.fld (F.CH_PHASE_PHASE k) }
  let st : Start := ⟨want, duty, timed, rest⟩
  let wait (x : Blk) (id : Nat) : Blk :=
    (x.setChan k { x.chanOf k with start := some st, req := some id }).chUpd k 4
      (x.fld (F.CH_STAT_OFF_REASON k)) (x.fld (F.CH_DUTY_CUR k))
  match ahead with
  | some (id, some true) =>
    (0, (b1.setChan k { b1.chanOf k with req := some id }).startStage k want duty rest)
  | some (id, some false) =>
    (0xb, ((b1.dropLeave id).causeOff k 9 |>.chUpd k 0 5 (b1.fld (F.CH_DUTY_CUR k))).chEvt k 4)
  | some (id, none) => (2, wait b1 id)
  | none =>
    if b1.needsLeave k then (2, wait (b1.sendLeave k) b1.nreq)
    else (0, b1.startStage k want duty rest)

/-- ON and PWM exchange without a start (R109, R122). DESIGN CHOICE: CH_PHASE as it stands counts at once (R122,
log 102). -/
def Blk.changeMode (b : Blk) (k want duty : Nat) : Blk :=
  let b0 := b.setChan k { b.chanOf k with phase := b.fld (F.CH_PHASE_PHASE k) }
  let b1 := b0.chUpd k want (b.fld (F.CH_STAT_OFF_REASON k))
    (if want = 2 then duty else b.fld (F.CH_DUTY_CUR k))
  let b2 := b1.put (F.CH_DUTY_NEXT k) (b1.fld (F.CH_DUTY_CUR k))
  b2.setOut k (if want = 2 then b2.pwmLevel k else true)

/-! ## Commands -/

/-- The short-circuit threshold of the lead's group in 0.5 A units (R147). -/
def Blk.scThr (b : Blk) (k : Nat) : Nat :=
  b.gangSize k * (2 * (8 + 2 * min (b.fld (F.CH_TRIP_SC_THR k)) 26))

/-- BAD_ARG of R108 for a command to lead `k` (R107, R119, R123, R139). -/
def Blk.badArg (b : Blk) (k op : Nat) (timed : Bool) : Bool :=
  let ilim := b.fld (F.CH_CAP_ILIM k)
  let tmax := b.fld (F.CH_CAP_TMAX k)
  let g := if b.mode k == 1 || b.mode k == 2 then (b.chanOf k).pg else b.fld (F.CH_CFG_PG k)
  let p := b.fld (F.PG_PERIOD_PERIOD (k / 16) g)
  6 < op || (timed && (op == 0 || op == 6)) || (op == 5 && b.mode k != 2) ||
    (op == 4 && (ilim == 0 || 40 < ilim || tmax == 0 || 50 < tmax || b.scThr k ≤ ilim)) ||
    (op == 3 && (p < 20000 || 5000000 < p))

/-- BANK_LOW of R108: the feed is low, or the lead waits for a bank-feed resume (R155). -/
def Blk.bankLow (b : Blk) (k : Nat) : Bool :=
  b.on (F.DIE_BANK_BANK_LOW (k / 16)) || b.fld (F.CH_PROT_STAT_PEND k) == 2

/-- The checks of R108 after NOT_ADOPTED and MEMBER, in their order. -/
def Blk.cmdCheck (b : Blk) (k op : Nat) (timed : Bool) : Option Nat :=
  if b.badArg k op timed then some 0xc
  else if op = 0 ∨ op = 1 ∨ op = 6 then none
  else if b.on (F.CH_STAT_LATCH k) then some 5
  else if b.bankLow k then some 6
  else if b.mode k = 3 then some 0xe
  else none

/-- TQ_STAT and CH_CMD_STAT.TQ_USED follow the queue of die `n` (R127, R137). -/
def Blk.tqSync (b : Blk) (n k : Nat) : Blk :=
  let q := (b.dieOf n).tq
  let b1 := (b.put (F.TQ_STAT_USED n) q.length).put (F.CH_CMD_STAT_TQ_USED k)
    (q.filter (fun e => e.ch == k)).length
  b1.put (F.TQ_STAT_HWM n) (max (b1.fld (F.TQ_STAT_HWM n)) q.length)

/-- The requests sent ahead for the entries `q` are withdrawn. -/
def Blk.dropAhead (b : Blk) (q : List Tq) : Blk :=
  q.foldl (fun x e => match e.req with
    | some id => x.dropLeave id
    | none => x) b

/-- CANCEL removes every queued timed command of lead `k` and counts them as dropped (R115). -/
def Blk.cancelTq (b : Blk) (k : Nat) : Blk :=
  let n := k / 16
  let d := b.dieOf n
  let gone := d.tq.filter (fun e => e.ch == k)
  (((b.dropAhead gone).setDie n { d with tq := d.tq.filter (fun e => e.ch != k) }).incSat
    (F.TQ_STAT_DROPPED n) gone.length).tqSync n k

/-- The whole queue of die `n` is emptied and counted (R115). Answers how many entries it held. -/
def Blk.emptyTq (b : Blk) (n : Nat) : Nat × Blk :=
  let d := b.dieOf n
  let b1 := ((b.dropAhead d.tq).setDie n { d with tq := [] }).incSat (F.TQ_STAT_DROPPED n) d.tq.length
  (d.tq.length, (List.range 16).foldl (fun x c => x.tqSync n (16 * n + c)) b1)

/-- A command `op` takes effect on lead `k` after NOT_ADOPTED and MEMBER have passed (R107 to R110,
R155). Answers its result code. One that demands the output on has no effect on a tick on which a
higher-ranked cause demands it off (R150, assumption 81).
DESIGN CHOICE: a start that waits for leave and is replaced or withdrawn leaves its WAIT_LEAVE in TRESULT or RESULT,
which the next grant or refusal then overwrites (R110, R120, log 102). -/
def Blk.command (b : Blk) (k op duty : Nat) (timed : Bool)
    (ahead : Option (Nat × Option Bool) := none) : Nat × Blk :=
  match b.cmdCheck k op timed with
  | some code => (code, b)
  | none =>
    let m := b.mode k
    let want := if op = 2 then 1 else if op = 3 then 2 else 3
    if op = 0 then (0, b)
    else if op = 6 then (0, b.cancelTq k)
    else if op = 1 then (0, b.cmdOff k (if timed then 7 else 8))
    else if op = 5 then (0, b.put (F.CH_DUTY_NEXT k) duty)
    else if b.on (F.CH_PROT_STAT_PEND k) then
      (0, b.setChan k { b.chanOf k with restore := (want, duty) })
    else if b.outranked k (if timed then 13 else 14) then (0, b)
    else if m = 1 then (0, if op = 3 then b.changeMode k 2 duty else b)
    else if m = 2 then (0, if op = 3 then b.put (F.CH_DUTY_NEXT k) duty else b.changeMode k 1 duty)
    else
      let b1 := b.noteStart k (if timed then 13 else 14) (some timed)
      (if m = 4 then b1.endLeave k else b1).beginStart k want duty timed 0 ahead

/-- NOT_ADOPTED and MEMBER for a write to channel `ch` (R106, R108, R109): only a lead is refused as not
adopted. A halted die refuses all (R166). -/
def Blk.preCheck (b : Blk) (ch : Nat) : Option Nat :=
  if b.halted (ch / 16) then some 3
  else if b.leadOf ch != ch then some 4
  else if !b.on (F.CH_STAT_ADOPTED ch) then some 3
  else none

/-- How far ahead of die `n`'s counter the 33-bit time `t` lies, modulo 2^33 ns (R113). -/
def Blk.aheadOf (b : Blk) (n t : Nat) : Nat := (t + 2 ^ 33 - t33 (b.dieNow n)) % 2 ^ 33

/-- Activation time reached: lateness in ns of a 33-bit activation time on die `n`, or none if it lies ahead
(R114). -/
def Blk.lateness (b : Blk) (n t : Nat) : Option Nat :=
  let d := b.aheadOf n t
  if d = 0 then some 0 else if d < 2 ^ 32 then none else some (2 ^ 33 - d)

/-- Is a timed command of `ch` taking effect on this tick (R111)? Either one has, or an entry's
activation time falls on it. -/
def Blk.timedNow (b : Blk) (ch : Nat) : Bool :=
  (b.chanOf ch).timedAt == b.clk + 1 ||
    (b.dieOf (ch / 16)).tq.any (fun e => e.ch == ch && (b.lateness (ch / 16) e.time).any (· < 2))

/-- An immediate command is written to CH_CMD of channel `ch` (R107 to R111, R131). -/
def Blk.immediate (b : Blk) (ch op duty : Nat) : Blk :=
  match b.preCheck ch with
  | some code => b.res ch code
  | none =>
    if b.timedNow ch then b.res ch 0xa
    else
      let r := b.command ch op duty false
      r.2.res ch r.1

/-- A timed command takes effect (R114): it passes the checks of R108 but NOT_ADOPTED; outcome in TRESULT and
CH_EVT. -/
def Blk.timedEffect (b : Blk) (k op duty : Nat) (ahead : Option (Nat × Option Bool)) : Nat × Blk :=
  let b0 := b.setChan k { b.chanOf k with timedAt := b.clk + 1 }
  let r := if b0.leadOf k = k then b0.command k op duty true ahead else (4, b0)
  let unused := match ahead with
    | some (id, _) =>
      if (r.2.chanOf k).req == some id || (r.2.chanOf k).grant == some id then r.2 else r.2.dropLeave id
    | none => r.2
  let b1 := unused.tres k r.1
  (r.1, if r.1 = 0 then b1.chEvt k 0 else if r.1 = 2 then b1 else b1.chEvt k 1)

/-- QUOTA: 0 and values above 64 act as 64 (R126). -/
def Blk.quota (b : Blk) (n : Nat) : Nat :=
  let q := b.fld (F.TQ_CFG_QUOTA n)
  if q = 0 ∨ 64 < q then 64 else q

/-- A timed command is written to CH_TCMD of channel `ch` (R112, R113, R133). -/
def Blk.timedWrite (b : Blk) (ch op duty ep : Nat) : Blk :=
  let fresh := (b.chanOf ch).fresh
  let b0 := b.setChan ch { b.chanOf ch with fresh := false }
  let n := ch / 16
  match b0.preCheck ch with
  | some code => b0.res ch code
  | none =>
    if op = 0 ∨ 6 ≤ op then b0.res ch 0xc
    else if !fresh then b0.res ch 8
    else
      let t := b0.fld (F.CH_TCMD_TIME_TIME ch) + 2 ^ 32 * (ep % 2)
      if b0.aheadOf n t < 2 ^ 32 then
        let d := b0.dieOf n
        if 64 ≤ d.tq.length ∨ b0.quota n ≤ (d.tq.filter (fun e => e.ch == ch)).length then b0.res ch 7
        else ((b0.setDie n { d with tq := d.tq ++ [⟨ch, t, op, duty, none, none⟩] }).tqSync n ch).res ch 1
      else if 2 ^ 33 - b0.aheadOf n t ≤ 1000 * min (b0.fld (F.TQ_CFG_LATE_TOL n)) 1000 then
        let r := b0.timedEffect ch op duty none
        r.2.res ch r.1
      else (((b0.res ch 9).tres ch 9).incSat (F.TQ_STAT_DROPPED n)).chEvt ch 1

/-- The entry of die `n` that takes effect next: the longest due, and of equals the first enqueued
(R114). -/
def Blk.dueEntry (b : Blk) (n : Nat) : Option Tq :=
  (b.dieOf n).tq.foldl (fun best e =>
    match b.lateness n e.time, best with
    | none, _ => best
    | some _, none => some e
    | some l, some x => if (b.lateness n x.time).getD 0 < l then some e else best) none

/-- A queued timed command reaches its activation time (R114). -/
def Blk.timedDue (b : Blk) (n : Nat) : Blk :=
  match b.dueEntry n with
  | none => b
  | some e =>
    let d := b.dieOf n
    let b1 := (b.setDie n { d with tq := d.tq.erase e }).tqSync n e.ch
    (b1.timedEffect e.ch e.op e.duty (e.req.map (fun id => (id, e.ans)))).2

/-- The entry for which die `n` has to send its leave request now: a start whose activation time lies
at most LEAD ahead (R30, R120). -/
def Blk.leadEntry (b : Blk) (n : Nat) : Option Tq :=
  (b.dieOf n).tq.find? (fun e =>
    e.req.isNone && (e.op == 2 || e.op == 3 || e.op == 4) && (b.mode e.ch == 0 || b.mode e.ch == 4) &&
      b.needsLeave e.ch && b.aheadOf n e.time ≤ 1000 * b.fld (F.DIE_LEAVE_LEAD n))

/-- The leave request of a timed start is sent ahead (R30). -/
def Blk.leaveAhead (b : Blk) (n : Nat) : Blk :=
  match b.leadEntry n with
  | none => b
  | some e =>
    let d := b.dieOf n
    (b.sendLeave e.ch).setDie n
      { d with tq := d.tq.map (fun x => if x = e then { x with req := some b.nreq } else x) }

/-- A grant reaches the die of channel `ch` (R120): the start that waits begins; the answer to a
request sent ahead is kept with its entry; any other answer is ignored. -/
def Blk.grantArrive (b : Blk) (ch : Nat) : Blk :=
  match b.answers.find? (fun a => a.ch == ch && a.ok) with
  | none => b
  | some a =>
    let b0 := { b with answers := b.answers.erase a }
    let c := b0.chanOf ch
    match c.start, c.req == some a.id with
    | some st, true =>
      let r := b0.fld (F.CH_CMD_STAT_RESULT ch) == 2
      let t := b0.fld (F.CH_CMD_STAT_TRESULT ch) == 2
      let b1 := b0.startStage ch st.want st.duty st.rest
      let b2 := if r then b1.res ch 0 else b1
      let b3 := if t then b2.tres ch 0 else b2
      if st.timed then b3.chEvt ch 0 else b3
    | _, _ =>
      let d := b0.dieOf (ch / 16)
      b0.setDie (ch / 16)
        { d with tq := d.tq.map (fun x => if x.req = some a.id then { x with ans := some true } else x) }

/-- A refusal reaches the die of channel `ch` (R120, R151): the lead stays OFF with 0x5. -/
def Blk.refusalArrive (b : Blk) (ch : Nat) : Blk :=
  match b.answers.find? (fun a => a.ch == ch && !a.ok) with
  | none => b
  | some a =>
    let b0 := { b with answers := b.answers.erase a }
    let c := b0.chanOf ch
    match c.start, c.req == some a.id with
    | some st, true =>
      let r := b0.fld (F.CH_CMD_STAT_RESULT ch) == 2
      let t := b0.fld (F.CH_CMD_STAT_TRESULT ch) == 2
      let b1 := ((b0.setChan ch { c with start := none, req := none }).causeOff ch 9).chUpd ch 0 5
        (b0.fld (F.CH_DUTY_CUR ch))
      let b2 := if r then b1.res ch 0xb else b1
      let b3 := if t then b2.tres ch 0xb else b2
      let b4 := b3.chEvt ch 4
      if st.timed then b4.chEvt ch 1 else b4
    | _, _ =>
      let d := b0.dieOf (ch / 16)
      b0.setDie (ch / 16)
        { d with tq := d.tq.map (fun x => if x.req = some a.id then { x with ans := some false } else x) }

/-- A leave request reaches UH while UH grants leave (R31). -/
def Blk.uhRequest (b : Blk) : Blk :=
  match b.reqUh with
  | [] => b
  | r :: rs => ({ b with reqUh := rs, uhWait := b.uhWait ++ [r] }).uhServe

/-- The slew phase of a start ends and its grant is released (R120, R123). -/
def Blk.inrushEnd (b : Blk) (ch : Nat) : Blk :=
  if b.mode ch = 1 ∨ (b.mode ch = 2 ∧ (b.chanOf ch).rose) then b.freeGrant ch else b

/-- The timed commands of die `n` that have reached their activation times take effect, at most `k` of them. -/
def Blk.runDue (b : Blk) (n : Nat) : Nat → Blk
  | 0 => b
  | k + 1 => if (b.dueEntry n).isSome then (b.timedDue n).runDue n k else b

/-- CH_ADOPT (R117): TAG and MODE count as they stand after the timed commands of this tick. DESIGN CHOICE: on a halted
die it is a command of R166 that is refused with NOT_ADOPTED (log 102). -/
def Blk.adopt (b : Blk) (ch tag mode : Nat) : Blk :=
  if b.halted (ch / 16) then b.res ch 3
  else if b.leadOf ch != ch then b.res ch 4
  else
    let b1 := b.runDue (ch / 16) (b.dieOf (ch / 16)).tq.length
    if b1.fld (F.CH_STAT_TAG ch) = tag ∧ b1.mode ch = mode then
      (b1.put (F.CH_STAT_ADOPTED ch) 1).res ch 0
    else b1.res ch 0xd

/-- ADOPTED of lead `k` is cleared (R116). -/
def Blk.unadopt (b : Blk) (k : Nat) : Blk :=
  if b.on (F.CH_STAT_ADOPTED k) then (b.put (F.CH_STAT_ADOPTED k) 0).chEvt k 5 else b

/-- UH's broadcast of a KC start (R116): leads that are not OFF or are latched lose adoption, every
other lead becomes adopted. -/
def Blk.startBroadcast (b : Blk) : Blk :=
  (List.range 12).foldl (fun x n => (x.leads n).foldl (fun y k =>
    if y.mode k != 0 || y.on (F.CH_STAT_LATCH k) then y.unadopt k
    else y.put (F.CH_STAT_ADOPTED k) 1) x) b

/-- SLEEP entry on lead `k` (R96, R124): a lead without SLEEP_HOLD, a charge or a start that waits ends
with code 0xC. On a lead that is off already it acts by rank as an off command would (assumption 80). -/
def Blk.sleepOff (b : Blk) (k : Nat) : Blk :=
  if !b.on (F.CH_STAT_SLEEP_HOLD k) || b.mode k == 3 || b.mode k == 4 then b.cmdOff k 0xc else b

/-! ## PWM edges and boundaries -/

/-- Does lead `k` run on the sleep oscillator's timing (R124)? Its edges and boundaries then come when that
oscillator makes them, which no TB0 time tells. -/
def Blk.sleepTimed (b : Blk) (k : Nat) : Bool :=
  (b.dieOf (k / 16)).asleep || (b.dieOf (k / 16)).slpK.contains k

/-- The range of ticks that the sleep oscillator, within 5 % of 1 MHz, can have counted since the last boundary of lead
`k` (R124): it counts one period as 500 ticks of 2 ns. -/
def Blk.sleepLo (b : Blk) (k : Nat) : Nat := (b.clk - (b.chanOf k).boundAt) * 95 / 100
def Blk.sleepHi (b : Blk) (k : Nat) : Nat := (b.clk - (b.chanOf k).boundAt) * 105 / 100

/-- PERIOD of the generator of lead `k`, and its PHASE in force, modulo PERIOD (R141). -/
def Blk.pwmPeriod (b : Blk) (k : Nat) : Nat := b.fld (F.PG_PERIOD_PERIOD (k / 16) (b.chanOf k).pg)
def Blk.pwmPhase (b : Blk) (k : Nat) : Nat := (b.chanOf k).phase % b.pwmPeriod k

/-- Can the sleep timing of lead `k` have come to its period's end (R124)? -/
def Blk.sleepBound (b : Blk) (k : Nat) : Bool := b.pwmPeriod k ≤ b.sleepHi k

/-- Can the sleep timing of lead `k` stand at its rising edge? -/
def Blk.sleepRise (b : Blk) (k : Nat) : Bool := b.sleepLo k ≤ b.pwmPhase k + 2 && b.pwmPhase k ≤ b.sleepHi k

/-- Can the sleep timing of lead `k` stand in an off interval? -/
def Blk.sleepFall (b : Blk) (k : Nat) : Bool :=
  let p := b.pwmPeriod k
  [b.sleepLo k, min (b.sleepHi k) (p - 1)].any (fun t => b.pwmOn k ≤ (t + p - b.pwmPhase k) % p)

/-- A period boundary for lead `k`: pending DUTY and CH_PHASE take effect, and a start into PWM whose
output has not risen gives its grant up at the second boundary (R123). -/
def Blk.leadBoundary (b : Blk) (k : Nat) : Blk :=
  let b1 := b.chUpd k 2 (b.fld (F.CH_STAT_OFF_REASON k)) (b.fld (F.CH_DUTY_NEXT k))
  let c := b1.chanOf k
  let b2 := b1.setChan k { c with phase := b.fld (F.CH_PHASE_PHASE k), bounds := c.bounds + 1, boundAt := b.clk }
  if !c.rose && 1 ≤ c.bounds then b2.freeGrant k else b2

/-- The first boundary of the TB0 grid after the alignment pulse for a lead that kept its sleep timing (R124):
its sleep-timed period ends and the lead takes the level of the grid. -/
def Blk.gridJoin (b : Blk) (k : Nat) : Blk :=
  let d := b.dieOf (k / 16)
  if d.slpK.contains k then
    let b1 := b.setDie (k / 16) { d with slpK := d.slpK.erase k }
    (b1.chMark k).setOut k (b1.pwmLevel k)
  else b

/-- A period boundary of generator `g` of die `n` (R121, R123): of the TB0 grid within the 2 ticks of R122, or of
the leads that run on sleep timing (R124). -/
def Blk.boundary (b : Blk) (n g : Nat) : Blk :=
  let ks := (b.leads n).filter (fun k => b.mode k == 2 && (b.chanOf k).pg == g)
  if (b.dieOf n).asleep = false ∧ b.pgPos n g ≤ 2 then ks.foldl (fun x k => (x.leadBoundary k).gridJoin k) b
  else (ks.filter (fun k => b.sleepTimed k && b.sleepBound k)).foldl Blk.leadBoundary b

/-- A PWM on interval of lead `k` begins (R122). -/
def Blk.risingEdge (b : Blk) (k : Nat) : Blk :=
  if b.mode k == 2 && b.pwmOn k != 0 && (if b.sleepTimed k then b.sleepRise k else b.pwmPos k ≤ 2) then
    (b.chMark k).setOut k true
  else b

/-- A PWM on interval of lead `k` ends (R122). DESIGN CHOICE: the duty in force at the edge ends it, also for the tail
of an interval that wraps over a boundary at which DUTY changes (log 102). -/
def Blk.fallingEdge (b : Blk) (k : Nat) : Blk :=
  if b.mode k == 2 && b.pwmOn k != b.fld (F.PG_PERIOD_PERIOD (k / 16) (b.chanOf k).pg) &&
      (if b.sleepTimed k then b.sleepFall k else b.pwmOn k ≤ b.pwmPos k) then (b.chMark k).setOut k false
  else b

/-- A write of PG_PERIOD or PG_ANCHOR: ignored with WR_IGN while a lead of the generator is in PWM
(R123). -/
def Blk.pgWrite (b : Blk) (n g a : Nat) (v : W32) : Blk :=
  if b.halted n then b
  else if b.on (F.PG_CTL_USERS n g) then b.put (F.PG_CTL_WR_IGN n g) 1
  else b.writeReg a v

/-- A write of CH_PHASE of channel `ch` (R123): when it came is kept, and what a boundary had put in force before it; a
halted die ignores it (R166). -/
def Blk.phaseWrite (b : Blk) (ch : Nat) (v : W32) : Blk :=
  if b.halted (ch / 16) then b
  else (b.writeReg (R.CH_PHASE ch) v).setChan ch { b.chanOf ch with
    phase := if b.mode ch = 2 then (b.chanOf ch).phase else b.phaseNow ch
    phaseAt := b.clk }

/-! ## Capacitive-load charge -/

/-- The output reaches the bank less 1 V (R119). -/
def Blk.chargeLevel (b : Blk) (k : Nat) : Blk :=
  if b.mode k = 3 then b.setChan k { b.chanOf k with full := true } else b

/-- The stage reaches full enhancement (R119). -/
def Blk.chargeDone (b : Blk) (k : Nat) : Blk :=
  if b.mode k = 3 ∧ (b.chanOf k).full then
    ((b.chUpd k 1 (b.fld (F.CH_STAT_OFF_REASON k)) (b.fld (F.CH_DUTY_CUR k))).chEvt k 2).freeGrant k
  else b

/-! ## Meanings -/

/-- A write of CH_CMD of channel `ch`. -/
def cmdWrite (i : Init) (ch op duty : Nat) (s : State) : Host.Outcome State Fault Refusal :=
  onBlk (ch < 192) s (fun b => b.onWrite i (R.CH_CMD ch) ((F.CH_CMD_OP ch).word op ||| (F.CH_CMD_DUTY ch).word duty) (fun b => b.immediate ch op duty))

/-- NOP (R107). -/
def execNop (i : Init) (ch : Nat) (s : State) : Host.Outcome State Fault Refusal := cmdWrite i ch 0 0 s
/-- OFF (R109). -/
def execOff (i : Init) (ch : Nat) (s : State) : Host.Outcome State Fault Refusal := cmdWrite i ch 1 0 s
/-- ON (R109). -/
def execOn (i : Init) (ch : Nat) (s : State) : Host.Outcome State Fault Refusal := cmdWrite i ch 2 0 s
/-- PWM at a duty (R122). -/
def execPwm (i : Init) (ch duty : Nat) (s : State) : Host.Outcome State Fault Refusal :=
  cmdWrite i ch 3 (duty % 4096) s
/-- CAP (R119). -/
def execCap (i : Init) (ch : Nat) (s : State) : Host.Outcome State Fault Refusal := cmdWrite i ch 4 0 s
/-- DUTY (R107, R123). -/
def execDuty (i : Init) (ch duty : Nat) (s : State) : Host.Outcome State Fault Refusal :=
  cmdWrite i ch 5 (duty % 4096) s
/-- CANCEL (R115). -/
def execCancel (i : Init) (ch : Nat) (s : State) : Host.Outcome State Fault Refusal :=
  cmdWrite i ch 6 0 s
/-- An opcode of 0x7 to 0xF (R107): the opcode is 7 + `op` mod 9. -/
def execCmdReservedOpcode (i : Init) (ch op duty : Nat) (s : State) :
    Host.Outcome State Fault Refusal :=
  cmdWrite i ch (7 + op % 9) (duty % 4096) s

/-- CH_TCMD_TIME (R112): a halted die ignores the write (R166). -/
def execChTcmdTimeWrite (i : Init) (ch : Nat) (time : W32) (s : State) :
    Host.Outcome State Fault Refusal :=
  onBlk (ch < 192) s (fun b => b.onWrite i (R.CH_TCMD_TIME ch) time (fun b =>
    if b.halted (ch / 16) then b
    else (b.put (F.CH_TCMD_TIME_TIME ch) time.toNat).setChan ch { b.chanOf ch with fresh := true }))

/-- A write of CH_TCMD of channel `ch`. -/
def tcmdWrite (i : Init) (ch op duty : Nat) (ep : Bool) (s : State) :
    Host.Outcome State Fault Refusal :=
  onBlk (ch < 192) s (fun b => b.onWrite i (R.CH_TCMD ch) ((F.CH_TCMD_OP ch).word op ||| (F.CH_TCMD_DUTY ch).word duty |||
      (F.CH_TCMD_EP ch).word ep.toNat) (fun b =>
    b.timedWrite ch op duty ep.toNat))

/-- TIMED_OFF (R113). -/
def execTimedOff (i : Init) (ch : Nat) (ep : Bool) (s : State) : Host.Outcome State Fault Refusal :=
  tcmdWrite i ch 1 0 ep s
/-- TIMED_ON (R113). -/
def execTimedOn (i : Init) (ch : Nat) (ep : Bool) (s : State) : Host.Outcome State Fault Refusal :=
  tcmdWrite i ch 2 0 ep s
/-- TIMED_PWM (R113). -/
def execTimedPwm (i : Init) (ch duty : Nat) (ep : Bool) (s : State) :
    Host.Outcome State Fault Refusal := tcmdWrite i ch 3 (duty % 4096) ep s
/-- TIMED_CAP (R113). -/
def execTimedCap (i : Init) (ch : Nat) (ep : Bool) (s : State) : Host.Outcome State Fault Refusal :=
  tcmdWrite i ch 4 0 ep s
/-- TIMED_DUTY (R113). -/
def execTimedDuty (i : Init) (ch duty : Nat) (ep : Bool) (s : State) :
    Host.Outcome State Fault Refusal := tcmdWrite i ch 5 (duty % 4096) ep s
/-- CH_TCMD with another opcode (R133): 0 or 6 to 15, chosen by `op` mod 11. -/
def execTimedReservedOpcode (i : Init) (ch op : Nat) (ep : Bool) (s : State) :
    Host.Outcome State Fault Refusal :=
  tcmdWrite i ch (if op % 11 = 0 then 0 else 5 + op % 11) 0 ep s

/-- A queued timed command of die `n` takes effect (R114). -/
def execTimedCommandDue (n : Nat) (s : State) : Host.Outcome State Fault Refusal :=
  onBlk (n < 12) s (fun b => b.timedDue n)

/-- Die `n` sends the leave request of a timed start (R30). -/
def execLeaveRequestSend (n : Nat) (s : State) : Host.Outcome State Fault Refusal :=
  onBlk (n < 12) s (fun b => b.leaveAhead n)

/-- A grant reaches the die of lead `ch` (R120). -/
def execLeaveGrantArrival (ch : Nat) (s : State) : Host.Outcome State Fault Refusal :=
  onBlk (ch < 192) s (fun b => b.grantArrive ch)

/-- A refusal reaches the die of lead `ch` (R120). -/
def execLeaveRefusalArrival (ch : Nat) (s : State) : Host.Outcome State Fault Refusal :=
  onBlk (ch < 192) s (fun b => b.refusalArrive ch)

/-- The oldest leave request on its way to UH arrives there (R31). -/
def execUhLeaveRequest (s : State) : Host.Outcome State Fault Refusal :=
  onBlk true s Blk.uhRequest

/-- The slew phase of a start of lead `ch` ends (R120). -/
def execInrushPhaseEnd (ch : Nat) (s : State) : Host.Outcome State Fault Refusal :=
  onBlk (ch < 192) s (fun b => b.inrushEnd ch)

/-- A write of CH_ADOPT (R117). -/
def execChannelAdopt (i : Init) (ch tag mode : Nat) (s : State) : Host.Outcome State Fault Refusal :=
  onBlk (ch < 192) s (fun b => b.onWrite i (R.CH_ADOPT ch) ((F.CH_ADOPT_TAG ch).word tag ||| (F.CH_ADOPT_MODE ch).word mode) (fun b => b.adopt ch (tag % 4096) (mode % 8)))

/-- A period boundary of generator `g` of die `n` (R121). -/
def execPwmPeriodBoundary (n g : Nat) (s : State) : Host.Outcome State Fault Refusal :=
  onBlk (n < 12 && g < 4) s (fun b => b.boundary n g)

/-- A PWM on interval of lead `ch` begins (R122). -/
def execPwmRisingEdge (ch : Nat) (s : State) : Host.Outcome State Fault Refusal :=
  onBlk (ch < 192) s (fun b => b.risingEdge ch)

/-- A PWM on interval of lead `ch` ends (R122). -/
def execPwmFallingEdge (ch : Nat) (s : State) : Host.Outcome State Fault Refusal :=
  onBlk (ch < 192) s (fun b => b.fallingEdge ch)

/-- A write of PG_PERIOD (R123). -/
def execPgPeriodWrite (i : Init) (n g : Nat) (v : W32) (s : State) :
    Host.Outcome State Fault Refusal :=
  onBlk (n < 12 && g < 4) s (fun b => b.onWrite i (R.PG_PERIOD n g) v (fun b =>
    b.pgWrite n g (R.PG_PERIOD n g) v))

/-- A write of PG_ANCHOR (R123). -/
def execPgAnchorWrite (i : Init) (n g : Nat) (v : W32) (s : State) :
    Host.Outcome State Fault Refusal :=
  onBlk (n < 12 && g < 4) s (fun b => b.onWrite i (R.PG_ANCHOR n g) v (fun b =>
    b.pgWrite n g (R.PG_ANCHOR n g) v))

/-- A write of CH_PHASE (R123): the lead takes it at its next period boundary. -/
def execChPhaseWrite (i : Init) (ch : Nat) (v : W32) (s : State) : Host.Outcome State Fault Refusal :=
  onBlk (ch < 192) s (fun b => b.onWrite i (R.CH_PHASE ch) v (fun b => b.phaseWrite ch v))

/-- The output of lead `ch` reaches the bank less 1 V (R119). -/
def execChargeLevelReached (ch : Nat) (s : State) : Host.Outcome State Fault Refusal :=
  onBlk (ch < 192) s (fun b => b.chargeLevel ch)

/-- The stage of lead `ch` reaches full enhancement (R119). -/
def execChargeComplete (ch : Nat) (s : State) : Host.Outcome State Fault Refusal :=
  onBlk (ch < 192) s (fun b => b.chargeDone ch)

end Sys2Proof.Machine
end

