-- ==== Sys2Proof/Machine/Ring.lean ====
section
/-!
DEFINITION. Machine/Ring.lean: the sleep-consent ring engines and the keep-awake ledger on UH (R449 to
R454).
-/

namespace Sys2Proof.Machine

def Blk.ringOf (b : Blk) (n : Nat) : Ring := b.ring.get (fun _ => {}) n
def Blk.setRing (b : Blk) (n : Nat) (x : Ring) : Blk := { b with ring := b.ring.set (fun _ => {}) n x }

/-- The hub responder is active (R649). -/
def Blk.respActive (b : Blk) : Bool :=
  b.on F.AON_PSTATE_KEEPER_LOST && b.on F.RESP_CTL_EN && b.hk0.isSome && b.kc != .quar

/-- Transceiver `n` passes its bus on: it is in NORMAL, or the responder drives it (R412, R649). -/
def Blk.xcUp (b : Blk) (n : Nat) : Bool := 2 ≤ b.fld (F.XC_CTL_MODE n) || (n == 15 && b.respActive)

/-- The state of engine `n`: 0 OFF, 1 ALIVE, 2 RING, 3 WBS, 4 READY. -/
def Blk.ringState (b : Blk) (n : Nat) : Nat := b.fld (F.NM_CH_STAT_STATE n)

/-- Event bit `k` of NM_EVT, message source 0x101 (R584). -/
def Blk.nmEvt (b : Blk) (k : Nat) : Blk := b.event ⟨R.NM_EVT, 3, 0⟩ F.NM_IEN_IEN k 0x101

/-- ALL_READY (R453); a change of it sets READY_CHG. -/
def Blk.nmSync (b : Blk) : Blk :=
  let all := (List.range 16).all (fun n => !b.on (F.NM_CFG_EN n) || b.ringState n == 4)
  if all == b.on F.NM_STAT_ALL_READY then b else (b.putB F.NM_STAT_ALL_READY all).nmEvt 0

/-- The engine's consent (R451). -/
def Blk.consent (b : Blk) (n : Nat) : Bool :=
  b.on F.NM_STAT_FORCED || (b.fld F.NM_CONSENT_CONSENT).testBit n

/-- PRESENT as a set of node bits. -/
def Blk.present (b : Blk) (n : Nat) : Nat :=
  b.fld (F.NM_PRESENT_LO_PRESENT n) + 2 ^ 32 * b.fld (F.NM_PRESENT_HI_PRESENT n)

/-- The successor of `node` in a set of nodes (R451). -/
def ringNext (set node : Nat) : Nat :=
  let l := (List.range 64).filter (fun k => set.testBit k)
  ((l.find? (fun k => node < k)).orElse (fun _ => l.head?)).getD node

/-- PRESENT becomes `set`, and SUCC follows. -/
def Blk.setPresent (b : Blk) (n set : Nat) : Blk :=
  ((b.put (F.NM_PRESENT_LO_PRESENT n) set).put (F.NM_PRESENT_HI_PRESENT n) (set / 2 ^ 32)).put
    (F.NM_CH_STAT_SUCC n) (ringNext set (b.fld (F.NM_CFG_NODE n)))

/-- The frame of a ring message from `node` with its USER bytes (R450). -/
def ringFrame (base node : Nat) (m : RingMsg) (user : W32) : CanFrame :=
  { fmt := 0, id := base / 64 * 64 + node, dlc := 8,
    data := [BitVec.ofNat 8 (m.dest % 64), BitVec.ofNat 8 (m.op % 8 + m.si.toNat * 8 + m.sa.toNat * 16),
      BitVec.ofNat 8 m.reason, BitVec.ofNat 8 m.round] ++ leBytes 4 user.toNat }

/-- The engine sends a message with `op` and SA to its successor (R450, R451). -/
def Blk.ringSend (b : Blk) (n op : Nat) (sa : Bool) : Blk :=
  let x := b.ringOf n
  let si := b.consent n
  let m : RingMsg :=
    ⟨b.fld (F.NM_CH_STAT_SUCC n), op, si, sa, if si then 0 else b.fld (F.NM_TX_KA_REASON n), x.round⟩
  b.setRing n { x with
    sent := some m
    txErr := x.txErr - 1
    frame := some (ringFrame (b.fld (F.NM_CFG_BASE n)) (b.fld (F.NM_CFG_NODE n)) m (b.reg (R.NM_USER n))) }

/-- The engine enters ALIVE and sends one ALIVE (R451). What it has received since it last sent RING stays known
(R452). -/
def Blk.ringAlive (b : Blk) (n : Nat) : Blk :=
  let x := b.ringOf n
  (((b.put (F.NM_CH_STAT_STATE n) 1).setPresent n (2 ^ b.fld (F.NM_CFG_NODE n))).setRing n
    { x with
      seen := false
      aliveAt := b.clk
      wbsAt := 0
      token := none
      sentAt := 0
      await := false
      anyAt := b.clk }).ringSend n 0 false

/-- The engine goes OFF; it is in bus-off no longer. -/
def Blk.ringOff (b : Blk) (n : Nat) : Blk :=
  let x := b.ringOf n
  ((b.put (F.NM_CH_STAT_STATE n) 0).put (F.NM_CH_STAT_BUSOFF n) 0).setRing n
    { round := x.round, sent := x.sent, frame := x.frame, si1 := x.si1, si0 := x.si0 }

/-- The engine's NODE has been rewritten while EN stays 1: PRESENT holds the new one for the old, and SUCC follows
(R451). -/
def Blk.ringNode (b : Blk) (n old : Nat) : Blk :=
  let new := b.fld (F.NM_CFG_NODE n)
  if new = old then b
  else
    let p := b.present n
    let p1 := if p.testBit old then p - 2 ^ old else p
    b.setPresent n (p1 ||| 2 ^ new)

/-- The engine enters WBS. -/
def Blk.ringWbs (b : Blk) (n : Nat) : Blk :=
  (b.put (F.NM_CH_STAT_STATE n) 3).setRing n { b.ringOf n with wbsAt := b.clk, token := none, await := false }

/-- May the RING about to be sent carry SA (R452)? -/
def Blk.ringAgreed (b : Blk) (n : Nat) : Bool :=
  let x := b.ringOf n
  b.consent n && !x.si0 &&
    (List.range 64).all (fun k => k == b.fld (F.NM_CFG_NODE n) || !(b.present n).testBit k || x.si1.testBit k)

/-- The engine passes the token on (R452). -/
def Blk.ringPass (b : Blk) (n : Nat) : Blk :=
  let sa := b.ringAgreed n
  let b1 := (b.ringSend n 1 sa).put (F.NM_CH_STAT_STATE n) 2
  let x := b1.ringOf n
  let b2 := b1.setRing n { x with
    seen := true, token := none, sentAt := b.clk, anyAt := b.clk, si1 := 0, si0 := false
    await := b.fld (F.NM_CH_STAT_SUCC n) != b.fld (F.NM_CFG_NODE n)
    round := (x.round + 1) % 256 }
  if sa then b2.ringWbs n else b2

/-- T_TYP in ticks. -/
def Blk.ringTyp (b : Blk) (n : Nat) : Nat := max 1 (b.fld (F.NM_TIME_T_TYP n)) * 10 * tickMs

/-- T_MAX in ticks; at or below T_TYP it acts as T_TYP + 1. -/
def Blk.ringMax (b : Blk) (n : Nat) : Nat :=
  max (b.fld (F.NM_TIME_T_MAX n)) (max 1 (b.fld (F.NM_TIME_T_TYP n)) + 1) * 10 * tickMs

/-- The nominal rule of R397 on a register with the layout of CAN_NBT. -/
def nominalOk (brp tseg1 tseg2 : Nat) : Bool :=
  let q := 1 + (max 1 tseg1 + 1) + (tseg2 + 1)
  80 ≤ (brp + 1) * q && 8 ≤ q

/-- A write of NM_CFG (R449, R466). -/
def Blk.ringCfg (b : Blk) (n : Nat) (v : W32) : Blk :=
  let was := b.on (F.NM_CFG_EN n)
  let en := (F.NM_CFG_EN n).get v == 1
  let ok := nominalOk (b.fld (F.NM_BT_BRP n)) (b.fld (F.NM_BT_TSEG1 n)) (b.fld (F.NM_BT_TSEG2 n))
  let b1 := b.writeReg (R.NM_CFG n) v
  (if en && !was then
    if ok then (b1.setRing n { round := (b1.ringOf n).round, sent := (b1.ringOf n).sent
                               frame := (b1.ringOf n).frame }).ringAlive n
    else (b1.put (F.NM_CFG_EN n) 0).put (F.NM_CH_STAT_CFG_ERR n) 1
  else if !en && was then b1.ringOff n
  else if en && b.ringState n != 0 then b1.ringNode n (b.fld (F.NM_CFG_NODE n))
  else b1).nmSync

/-- The ring message in a frame, with its sender (R450); none if it breaks the layout. -/
def ringParse (base : Nat) (f : CanFrame) : Option (Nat × RingMsg) :=
  match f.data.map BitVec.toNat with
  | d0 :: d1 :: d2 :: d3 :: _ =>
    if f.fmt = 0 ∧ f.rtr = false ∧ f.dlc = 8 ∧ f.data.length = 8 ∧ d0 < 64 ∧ d1 < 32 ∧ d1 % 8 < 2 then
      some (f.id - base, ⟨d0, d1 % 8, (d1 / 8) % 2 == 1, d1 / 16 == 1, d2, d3⟩)
    else none
  | _ => none

/-- Is the frame in the ring's identifier range? -/
def ringIn (base : Nat) (f : CanFrame) : Bool := f.fmt != 2 && !f.ide && base ≤ f.id && f.id < base + 64

/-- The ledger is updated for channel `n` and node `k` (R454). -/
def Blk.ledger (b : Blk) (n k reason : Nat) : Blk :=
  let hit := (List.range 64).find? (fun i => b.on (F.NM_LDG_A_VALID i) && b.fld (F.NM_LDG_A_CH i) == n &&
    b.fld (F.NM_LDG_A_NODE i) == k)
  let free := (List.range 64).find? (fun i => !b.on (F.NM_LDG_A_VALID i))
  let fill := fun (x : Blk) (i : Nat) => (((x.put (F.NM_LDG_A_REASON i) reason).incSat (F.NM_LDG_A_COUNT i)).put
    (F.NM_LDG_B_SEC i) (b.fld F.AON_RTC_SEC_SEC)).nmEvt 2
  match hit, free with
  | some i, _ => fill b i
  | none, some i =>
    fill ((((b.put (F.NM_LDG_A_VALID i) 1).put (F.NM_LDG_A_CH i) n).put (F.NM_LDG_A_NODE i) k).incSat
      F.NM_STAT_LEDGER_USED) i
  | none, none => ((b.incSat F.NM_STAT_LEDGER_OVF).nmEvt 2).raiseF 248 n

/-- Every ledger entry is removed (R454). -/
def Blk.ledgerClear (b : Blk) : Blk :=
  ((List.range 64).foldl (fun x i => (x.setReg (R.NM_LDG_A i) 0).setReg (R.NM_LDG_B i) 0) b).put
    F.NM_STAT_LEDGER_USED 0

/-- The SI of a RING message from node `k` is kept until the engine sends RING (R452). -/
def Blk.ringNote (b : Blk) (n k : Nat) (m : RingMsg) : Blk :=
  let x := b.ringOf n
  if m.op = 1 then
    b.setRing n { x with
      si1 := if m.si then x.si1 ||| 2 ^ k else x.si1
      si0 := x.si0 || !m.si }
  else b

/-- A RING message from node `k` reaches the engine in state RING or ALIVE (R451, R452). -/
def Blk.ringToken (b : Blk) (n k : Nat) (m : RingMsg) : Blk :=
  let x := b.ringOf n
  (b.put (F.NM_CH_STAT_STATE n) 2).setRing n { x with
    seen := true
    anyAt := b.clk
    await := x.await && k != b.fld (F.NM_CH_STAT_SUCC n)
    token := if m.dest = b.fld (F.NM_CFG_NODE n) then some b.clk else x.token }

/-- WBS and READY are left for ALIVE (R453); during SLEEP entry that is a wake of the channel (R460). -/
def Blk.ringAbort (b : Blk) (n : Nat) : Blk :=
  let b1 := b.ringAlive n
  if b.slp.armed && b.slp.latch.isNone then
    { b1 with wakeDue := b1.wakeDue ++ [⟨0x10 + n, b.clk, b.fld F.AON_RTC_SEC_SEC, b.rtcSub, false⟩] }
  else b1

/-- A ring message from node `k` reaches an engine that is not OFF (R451 to R453). -/
def Blk.ringMessage (b : Blk) (n k : Nat) (m : RingMsg) : Blk :=
  let st := b.ringState n
  let b1 := (if b.consent n && !m.si then b.ledger n k m.reason else b).ringNote n k m
  if 3 ≤ st then
    if m.op = 0 ∨ m.si = false then
      let b2 := b1.ringAbort n
      b2.setPresent n (b2.present n ||| 2 ^ k)
    else b1.setPresent n (b1.present n ||| 2 ^ k)
  else
    let b2 := b1.setPresent n (b1.present n ||| 2 ^ k)
    let b3 := if m.op = 1 then b2.ringToken n k m else b2
    if m.sa then b3.ringWbs n else b3

/-- An error of a frame on CANn, which the engine receives too: ISO 11898-1 adds 1 to its REC (R449). -/
def Blk.ringError (b : Blk) (n : Nat) : Blk :=
  let x := b.ringOf n
  if b.ringState n ≠ 0 ∧ b.xcUp n = true then b.setRing n { x with rxErr := min 255 (x.rxErr + 1) } else b

/-- A frame received without error counts REC down (R449). -/
def Blk.ringHeard (b : Blk) (n : Nat) : Blk :=
  let x := b.ringOf n
  b.setRing n { x with rxErr := if 127 < x.rxErr then 127 else x.rxErr - 1 }

/-- A frame without error reaches engine `n` through its transceiver (R449 to R453). -/
def Blk.ringReceive (b0 : Blk) (n : Nat) (f : CanFrame) : Blk :=
  if !b0.xcUp n then b0 else
  let b := b0.ringHeard n
  let st := b.ringState n
  let base := b.fld (F.NM_CFG_BASE n) / 64 * 64
  if st = 0 then b0
  else if ringIn base f then
    match ringParse base f with
    | none => b
    | some (k, m) => (b.ringMessage n k m).nmSync
  else if 3 ≤ st && b.on (F.NM_CFG_APP_ABORT n) then (b.ringAbort n).nmSync
  else b

/-- T_TYP passes on engine `n` (R451, R452). -/
def Blk.ringTypTimer (b : Blk) (n : Nat) : Blk :=
  let x := b.ringOf n
  let node := b.fld (F.NM_CFG_NODE n)
  let lowest := (List.range node).all (fun k => !(b.present n).testBit k)
  if b.ringState n = 1 ∧ x.aliveAt + b.ringTyp n ≤ b.clk ∧ x.seen = false ∧ lowest = true then
    (b.ringPass n).nmSync
  else if b.ringState n = 2 ∧ x.token.any (fun t => t + b.ringTyp n ≤ b.clk) = true then
    (b.ringPass n).nmSync
  else b

/-- T_MAX passes on engine `n` in RING (R452): the successor is dropped, or the ring is lost. -/
def Blk.ringMaxTimeout (b : Blk) (n : Nat) : Blk :=
  let x := b.ringOf n
  if b.ringState n = 2 ∧ x.await = true ∧ x.sentAt + b.ringMax n ≤ b.clk then
    ((b.setPresent n (b.present n - 2 ^ b.fld (F.NM_CH_STAT_SUCC n))).ringPass n).nmSync
  else if b.ringState n = 2 ∧ x.anyAt + b.ringMax n ≤ b.clk then
    ((((b.incSat (F.NM_CH_STAT_LOSS n)).nmEvt 3).raiseF 245 n).ringAlive n).nmSync
  else b

/-- T_WBS expires on engine `n` (R451). -/
def Blk.ringReady (b : Blk) (n : Nat) : Blk :=
  if b.ringState n = 3 ∧ (b.ringOf n).wbsAt + max 1 (b.fld (F.NM_TIME_T_WBS n)) * tickMs ≤ b.clk then
    (b.put (F.NM_CH_STAT_STATE n) 4).nmSync
  else b

/-- Engine `n` reaches bus-off (R449). -/
def Blk.ringBusOff (b : Blk) (n : Nat) : Blk :=
  if b.ringState n = 0 then b
  else
    let b1 := (((b.ringOff n).put (F.NM_CH_STAT_BUSOFF n) 1).nmEvt 3).raiseF 245 n
    (b1.setRing n { b1.ringOf n with txErr := 256 }).nmSync

/-- Engine `n` has seen 128 occurrences of 11 recessive bits in bus-off (R449). -/
def Blk.ringRecover (b : Blk) (n : Nat) : Blk :=
  if b.on (F.NM_CH_STAT_BUSOFF n) && b.on (F.NM_CFG_EN n) then
    (((b.put (F.NM_CH_STAT_BUSOFF n) 0).setRing n { b.ringOf n with txErr := 0, rxErr := 0 }).ringAlive n).nmSync
  else b

/-- Engines whose consent has become 0, which it had not in `old`, leave WBS or READY (R453). -/
def Blk.consentFell (b : Blk) (old : Nat → Bool) : Blk :=
  ((List.range 16).foldl (fun x n =>
    if old n && !x.consent n && 3 ≤ x.ringState n then x.ringAbort n else x) b).nmSync

/-- A write of NM_CONSENT (R453). -/
def Blk.consentWrite (b : Blk) (v : W32) : Blk := (b.writeReg R.NM_CONSENT v).consentFell b.consent

/-- Every engine with EN 1 restarts in ALIVE (R457, R462). -/
def Blk.ringRestart (b : Blk) : Blk :=
  ((List.range 16).foldl (fun x n => if x.on (F.NM_CFG_EN n) then x.ringAlive n else x) b).nmSync

/-- Every engine goes OFF (R456, R459). -/
def Blk.ringAllOff (b : Blk) : Blk := ((List.range 16).foldl Blk.ringOff b).nmSync

/-! ## Meanings -/

/-- A write of NM_CFG of engine `n` (R449). -/
def execRingEnable (i : Init) (n : Nat) (v : W32) (s : State) : Host.Outcome State Fault Refusal :=
  onBlk (n < 16) s (fun b => b.onWrite i (R.NM_CFG n) v (fun b => b.ringCfg n v))

/-- Engine `n` receives frame `f` (R451). -/
def execRingFrameReceive (n : Nat) (f : CanFrame) (s : State) : Host.Outcome State Fault Refusal :=
  onBlk (n < 16) s (fun b => b.ringReceive n f)

/-- T_TYP passes on engine `n` (R451). -/
def execRingTypTimer (n : Nat) (s : State) : Host.Outcome State Fault Refusal :=
  onBlk (n < 16) s (fun b => b.ringTypTimer n)

/-- T_MAX passes on engine `n` (R452). -/
def execRingMaxTimeout (n : Nat) (s : State) : Host.Outcome State Fault Refusal :=
  onBlk (n < 16) s (fun b => b.ringMaxTimeout n)

/-- T_WBS expires on engine `n` (R451). -/
def execRingWbsExpiry (n : Nat) (s : State) : Host.Outcome State Fault Refusal :=
  onBlk (n < 16) s (fun b => b.ringReady n)

/-- Engine `n` reaches bus-off (R449). -/
def execRingEngineBusOff (n : Nat) (s : State) : Host.Outcome State Fault Refusal :=
  onBlk (n < 16) s (fun b => b.ringBusOff n)

/-- Engine `n` has recovered from bus-off (R449). -/
def execRingEngineRecovery (n : Nat) (s : State) : Host.Outcome State Fault Refusal :=
  onBlk (n < 16) s (fun b => b.ringRecover n)

/-- A write of NM_CONSENT (R453). -/
def execConsentWrite (i : Init) (v : W32) (s : State) : Host.Outcome State Fault Refusal :=
  onBlk true s (fun b => b.onWrite i R.NM_CONSENT v (fun b => b.consentWrite v))

/-- A write of 1 to NM_LEDGER_CLR.CLR (R454). -/
def execLedgerClear (i : Init) (s : State) : Host.Outcome State Fault Refusal :=
  onBlk true s (fun b => b.onWrite i R.NM_LEDGER_CLR 1 (fun b => b.ledgerClear))

end Sys2Proof.Machine
end

