-- ==== Sys2Proof/Machine/Protect.lean ====
section
/-!
DEFINITION. Machine/Protect.lean: channel protection (R146 to R184): trips, over-temperature and
restart, wire model, bank feed, open load, the keeper's loss policies, the local watchdog.
-/

namespace Sys2Proof.Machine

/-! ## Trips -/

/-- A field-die source: the `j`-th of die `n` (R167), with the channel as detail. -/
def Blk.raiseDie (b : Blk) (n j det : Nat) : Blk := b.raiseF (256 + 10 * n + j) det

/-- The MODE that counts for a protective cause: the present one, or the one at the start of this tick
if another cause has already turned the lead off on it (R150). -/
def Blk.modeAtTick (b : Blk) (k : Nat) : Nat :=
  let c := b.chanOf k
  if !modeOn (b.mode k) && c.markAt == b.clk + 1 && modeOn c.markMode then c.markMode else b.mode k

/-- The duty that goes with `modeAtTick`. -/
def Blk.dutyAtTick (b : Blk) (k : Nat) : Nat :=
  let c := b.chanOf k
  if c.markAt = b.clk + 1 then c.markDuty else b.fld (F.CH_DUTY_CUR k)

/-- A protective cause turns lead `k` off with `code` (R106, R146, R154): latched, or with restart kind
`pend` (0 none, 1 over-temperature, 2 bank feed) and the restore mode of R155. Where a higher-ranked cause
has acted on this tick, that one has decided (R150). A command, policy or SLEEP entry of this tick that
demands the output off cancels the restart or resume (R151, assumption 82). -/
def Blk.trip (b : Blk) (k code : Nat) (latch : Bool) (pend : Nat) : Blk :=
  if b.outranked k (rankOf code) then b
  else
    let m := b.modeAtTick k
    let d := b.dutyAtTick k
    let b1 := b.causeOff k (rankOf code)
    let b2 := if modeOn (b.mode k) || b.mode k == 4 then b1.turnOff k code else b1.raiseReason k code
    let cut := (b.chanOf k).cmdOffAt == b.clk + 1
    let b3 := (b2.put (F.CH_PROT_STAT_PEND k) (if cut then 0 else pend)).setChan k
      { b2.chanOf k with restore := (m, d) }
    if latch then b3.put (F.CH_STAT_LATCH k) 1 else b3

/-- Is the gate of lead `k` driven, or was it at the start of this tick (R147, R150)? -/
def Blk.gateAtTick (b : Blk) (k : Nat) : Bool :=
  b.on (F.CH_STAT_OUT k) || ((b.chanOf k).markAt == b.clk + 1 && (b.chanOf k).markOut)

/-- The hardware short-circuit comparator of member `ch` acts (R147): active while the gate is driven. -/
def Blk.shortCircuit (b : Blk) (ch : Nat) : Blk :=
  let k := b.leadOf ch
  let b := b.undoStart k 1 false
  if modeOn (b.modeAtTick k) && b.gateAtTick k then
    ((b.trip k 1 true 0).put (F.CH_PROT_EVT_SC ch) 1).raiseDie (ch / 16) 1 ch
  else b

/-- TMAX has passed since the charge began without reaching the bank less 1 V. -/
def Blk.chargeLate (b : Blk) (k : Nat) : Bool :=
  b.modeAtTick k == 3 && !(b.chanOf k).full &&
    (b.chanOf k).onAt + b.fld (F.CH_CAP_TMAX k) * tickMs ≤ b.clk

/-- The charge fails (R119). -/
def Blk.chargeFail (b : Blk) (k : Nat) : Blk :=
  if b.chargeLate k then ((b.trip k 0xd false 0).put (F.CH_STAT_CHG_FAIL k) 1).chEvt k 3 else b

/-! ## Junction temperature -/

/-- HYST of lead `k`, 10 to 40 K (R169). -/
def Blk.otHyst (b : Blk) (k : Nat) : Nat := max 10 (min 40 (b.fld (F.CH_OT_HYST k)))

/-- A junction temperature in °C as the code °C + 50 of a byte. -/
def tempCode (t : Int) : Nat := (max 0 (min 255 (t + 50))).toNat

/-- A temperature code in °C. -/
def tempOf (code : Nat) : Int := (code : Int) - 50

/-- HOT of lead `k` (R156): 1 while any member's Tj exceeds 170 °C − HYST. Every member shows it, and an
excursion ends for all of them when it returns to 0. -/
def Blk.hotSync (b : Blk) (k : Nat) : Blk :=
  let hot := (b.members k).any (fun c => 220 - b.otHyst k < b.fld (F.CH_PROT_STAT_TJ c))
  (b.members k).foldl (fun x c =>
    let y := x.putB (F.CH_PROT_STAT_HOT c) hot
    if hot then y else y.setChan c { y.chanOf c with otSeen := false }) b

/-- The sensor of member `ch` reads `t` °C (R156, R175, R179). -/
def Blk.setTj (b : Blk) (ch : Nat) (t : Int) : Blk :=
  let n := ch / 16
  let b1 := b.put (F.CH_PROT_STAT_TJ ch) (tempCode t)
  let top := ((List.range 16).map (fun c => b1.fld (F.CH_PROT_STAT_TJ (16 * n + c)))).foldl max 0
  (b1.put (F.DIE_PSTAT_DIE_TJ n) top).hotSync (b.leadOf ch)

/-- RETRY_MAX of lead `k`: 0 acts as 1 (R169). -/
def Blk.retryMax (b : Blk) (k : Nat) : Nat := max 1 (b.fld (F.CH_OT_RETRY_MAX k))

/-- Over-temperature is detected on member `ch`, whose Tj has been `t` °C, at or above 170 °C, for 2 µs
(R156). -/
def Blk.overTemp (b : Blk) (ch : Nat) (t : Int) : Blk :=
  if t < 170 then b
  else
    let k := b.leadOf ch
    let b := b.undoStart k 5 false
    let b0 := b.setTj ch t
    if modeOn (b.modeAtTick k) then
      let b1 := if b.on (F.CH_OT_OT_MODE k) then b0.trip k 2 true 0
        else if b.fld (F.CH_PROT_STAT_RETRY_CNT k) < b.retryMax k then b0.trip k 9 false 1
        else b0.trip k 4 true 0
      let b2 := ((b1.put (F.CH_PROT_EVT_OT ch) 1).raiseDie (ch / 16) 2 ch).setChan ch
        { b1.chanOf ch with otSeen := true }
      if !b.on (F.CH_OT_OT_MODE k) && b.retryMax k ≤ b.fld (F.CH_PROT_STAT_RETRY_CNT k) then
        b2.raiseDie (ch / 16) 4 ch
      else b2
    else if (b.chanOf ch).otSeen then b0
    else ((b0.put (F.CH_PROT_EVT_OT ch) 1).raiseDie (ch / 16) 2 ch).setChan ch
      { b0.chanOf ch with otSeen := true }

/-- A restart or resume of lead `k` in its restore mode (R154, R157, R161): a start under R120. It takes
effect only on a tick on which no cause demands the output off, a latch and a low bank feed in force
included (R149, R150). -/
def Blk.resumeLead (b : Blk) (k pend : Nat) : Blk :=
  let c := b.chanOf k
  if b.fld (F.CH_PROT_STAT_PEND k) = pend ∧ c.causeAt ≠ b.clk + 1 ∧ b.on (F.CH_STAT_LATCH k) = false ∧
      b.on (F.DIE_BANK_BANK_LOW (k / 16)) = false then
    (((b.noteStart k 100 none).put (F.CH_PROT_STAT_PEND k) 0).beginStart k c.restore.1 c.restore.2 false pend none).2
  else b

/-- The restart condition of lead `k` is met (R156, R157). -/
def Blk.autoRestart (b : Blk) (k : Nat) : Blk :=
  if b.on (F.CH_PROT_STAT_HOT k) then b else b.resumeLead k 1

/-- RETRY_CNT returns to 0 after QUIET × 100 ms in ON (R157). -/
def Blk.retryQuiet (b : Blk) (k : Nat) : Blk :=
  let q := b.fld (F.CH_OT_QUIET k)
  if q ≠ 0 ∧ modeOn (b.mode k) ∧ (b.chanOf k).onAt + q * 100 * tickMs ≤ b.clk then
    b.put (F.CH_PROT_STAT_RETRY_CNT k) 0
  else b

/-- CH_PROT_CLR.LATCH on channel `ch` (R152, R177). -/
def Blk.latchClear (b : Blk) (ch : Nat) : Blk :=
  if b.halted (ch / 16) || b.leadOf ch != ch || !b.on (F.CH_STAT_LATCH ch) then b
  else if (b.members ch).any (fun c => b.on (F.CH_PROT_STAT_HOT c)) || b.on (F.CH_PROT_STAT_WM_ABOVE ch) then
    b.put (F.CH_PROT_EVT_CLR_REF ch) 1
  else
    let b1 := b.put (F.CH_STAT_LATCH ch) 0
    if b.fld (F.CH_STAT_OFF_REASON ch) = 4 then b1.put (F.CH_PROT_STAT_RETRY_CNT ch) 0 else b1

/-- CH_PROT_CLR.RETRY on channel `ch` (R157, R177). -/
def Blk.retryClear (b : Blk) (ch : Nat) : Blk :=
  if b.halted (ch / 16) || b.leadOf ch != ch then b else b.put (F.CH_PROT_STAT_RETRY_CNT ch) 0

/-! ## Wire model -/

/-- One step of the equation of R158 on θ in 2^-64 K. `sq` is the sum of the squares of 125 samples in
units of 80 A ÷ 2^31, `tamb` in °C, the others are the register values. -/
def thetaStep (θ : Int) (sq : Nat) (tamb : Int) (res alpha cth rth : Nat) : Int :=
  let heat : Int := (sq : Int) * 6400 * res *
    ((1000000 + alpha * (tamb - 20)) * (2 ^ 64 : Nat) + alpha * θ)
  θ + heat / ((125 * 2 ^ 62 * 100000000000 * cth : Nat) : Int) - 100 * θ / ((rth * cth : Nat) : Int)

/-- The samples of the lead current of `k`, newest first (R188): the sums of its members' of one tick. -/
def Blk.leadSamples (b : Blk) (k : Nat) : List Int :=
  (b.members k).foldl (fun l m =>
    (List.range (max l.length (b.chanOf m).samples.length)).map (fun j =>
      l.getD j 0 + (b.chanOf m).samples.getD j 0)) []

/-- The samples that count at an update: the last 125 taken strictly before it (R158). Those not yet taken
since VKEEP power-up count as 0 (assumption 83). -/
def Blk.wmSamples (b : Blk) (k : Nat) : List Int :=
  let s := b.leadSamples k
  if (b.dieOf (k / 16)).sampAt = b.clk + 1 then (s.drop 1).take 125 else s.take 125

/-- A value in 1/256 K within 0.5 K of `θ`, chosen by `f` (R158). -/
def nearTheta (θ : Int) (f : Nat) : Int :=
  let lo : Int := -((2 ^ 63 - θ) / 2 ^ 56)
  let hi : Int := (θ + 2 ^ 63) / 2 ^ 56
  lo + ((f % ((hi - lo).toNat + 1) : Nat) : Int)

/-- The wire model of lead `k` is updated (R158). The engine's value deviates from the equation by at
most 0.5 K: which of the values in 1/256 K within that bound it is, is free (assumption 21). Constants of 0,
for which the equation has no value, leave θ free. -/
def Blk.wireUpdate (b : Blk) (k : Nat) : Blk :=
  let n := k / 16
  let tamb := b.ambient n
  let cth := b.fld (F.CH_WM_TH_CTH k)
  let rth := b.fld (F.CH_WM_TH_RTH k)
  let c := b.chanOf k
  let sq := ((b.wmSamples k).map (fun i => i.natAbs * i.natAbs)).foldl (· + ·) 0
  let f := b.draw
  let θ : Int := if cth = 0 ∨ rth = 0 then ((f.1 % 2 ^ 80 : Nat) : Int)
    else thetaStep c.theta sq (tempOf tamb) (b.fld (F.CH_WM_RES_RES20 k)) (b.fld (F.CH_WM_RES_ALPHA k)) cth rth
  let e : Int := nearTheta θ f.1
  let past := decide (((b.fld (F.CH_WM_LIM_TRIP k) : Int) - tamb) * 256 ≤ e) && b.on (F.CH_WM_RES_EN k)
  let b2 := f.2.setTheta k θ e
  let b3 := if past then b2.undoStart k 3 false else b2
  if past && modeOn (b3.modeAtTick k) then
    ((b3.trip k 3 true 0).put (F.CH_PROT_EVT_WM k) 1).raiseDie n 3 k
  else b3

/-- The counter of die `n` stands at a whole millisecond (R158). -/
def Blk.atMs (b : Blk) (n : Nat) : Bool := b.dieNow n % 1000000 < 2

/-- The update of all models of die `n`: at each whole millisecond of its counter, or in SLEEP every 1,000
periods of the sleep oscillator while the engine runs (R158, R160). -/
def Blk.wireModel (b : Blk) (n : Nat) : Blk :=
  let d := b.dieOf n
  let go (x : Blk) : Blk := (x.leads n).foldl Blk.wireUpdate (x.setDie n { d with wmAt := b.clk + 1 })
  if d.asleep then (if b.engineRuns n && b.sleepPeriods 1000 d.wmAt then (go b).engineStop n else b.engineStop n)
  else if b.atMs n && d.wmAt != b.clk + 1 then go b
  else b

/-- A write of WM_AMB (R159, R180). -/
def Blk.ambWrite (b : Blk) (n : Nat) (v : W32) : Blk :=
  if b.halted n then b
  else
    let b1 := (b.writeReg (R.WM_AMB n) v).put (F.WM_AMB_STALE n) 0
    (b1.leads n).foldl Blk.wmSync (b1.setDie n { b1.dieOf n with ambAt := b.clk })

/-- TMO seconds have passed without a write of AMB (R159). -/
def Blk.ambStale (b : Blk) (n : Nat) : Blk :=
  let t := b.fld (F.WM_AMB_TMO n)
  if t ≠ 0 ∧ (b.dieOf n).ambAt + t * tickSec ≤ b.clk then
    (b.leads n).foldl Blk.wmSync (b.put (F.WM_AMB_STALE n) 1)
  else b

/-! ## Bank feed -/

/-- A low bank feed acts on lead `k` (R154, R155, R161). A lead that is off keeps its OFF_REASON, and a pending
over-temperature restart is cancelled, unless it began on this tick (assumption 84). -/
def Blk.bankLowLead (b : Blk) (n k : Nat) : Blk :=
  let pend := if b.on (F.DIE_BANK_RESUME n) then 2 else 0
  let b := b.undoStart k 8 true
  if modeOn (b.modeAtTick k) then b.trip k 0xb false pend
  else if b.mode k = 4 then
    let st := ((b.chanOf k).start.map (fun s => (s.want, s.duty))).getD (1, 0)
    let b1 := (b.causeOff k 8).turnOff k 0xb
    (b1.put (F.CH_PROT_STAT_PEND k) pend).setChan k { b1.chanOf k with restore := st }
  else if b.fld (F.CH_PROT_STAT_PEND k) = 1 then (b.causeOff k 8).put (F.CH_PROT_STAT_PEND k) 0
  else b

/-- UV of die `n` in units of 0.5 V (R178): 9 to 116; values outside act as the nearer limit. -/
def Blk.bankUv (b : Blk) (n : Nat) : Nat := max 9 (min 116 (b.fld (F.DIE_BANK_UV n)))

/-- UV + HYST of die `n` in units of 0.5 V (R178): HYST 0 acts as 1. -/
def Blk.bankOk (b : Blk) (n : Nat) : Nat := b.bankUv n + max 1 (b.fld (F.DIE_BANK_HYST n))

/-- Is a voltage in converter units of 80 V ÷ 2^15 below `u` units of 0.5 V? -/
def volBelow (v : Int) (u : Nat) : Bool := v * 160 < (u * 2 ^ 15 : Nat)

/-- A measurement that die `n` made on tick `t` - 1 lies within the last `p` µs. -/
def Blk.recent (b : Blk) (t p : Nat) : Bool := t != 0 && b.clk + 1 - t ≤ p * tickUs

/-- The feed of die `n` has been below UV for 10 µs (R161), which a measurement of these 10 µs does not
contradict. FS(262 + 10n) rises with BANK_LOW. -/
def Blk.bankLowSet (b : Blk) (n : Nat) : Blk :=
  let d := b.dieOf n
  if b.on (F.DIE_BANK_BANK_LOW n) || (b.recent d.sampAt 10 && !volBelow d.feed (b.bankUv n)) then b
  else
    let d := b.dieOf n
    let b1 := ((b.put (F.DIE_BANK_BANK_LOW n) 1).setDie n { d with resume := [] }).raiseDie n 6 n
    (b1.leads n).foldl (fun x k => x.bankLowLead n k) b1

/-- The feed of die `n` has been at or above UV + HYST for 1 ms (R161), which the last measurement of that time
does not contradict: BANK_LOW becomes 0, and the leads in PEND (bank) are to resume. -/
def Blk.bankLowClear (b : Blk) (n : Nat) : Blk :=
  let d := b.dieOf n
  if b.on (F.DIE_BANK_BANK_LOW n) && !(b.recent d.sampAt 1000 && volBelow d.feed (b.bankOk n)) then
    let b1 := b.put (F.DIE_BANK_BANK_LOW n) 0
    b1.setDie n { b1.dieOf n with
      resume := (b1.leads n).filter (fun k => b1.fld (F.CH_PROT_STAT_PEND k) == 2) }
  else b

/-- One resume of die `n`, in channel order, at most one per tick (R161). -/
def Blk.bankResume (b : Blk) (n : Nat) : Blk :=
  let d := b.dieOf n
  match d.resume with
  | [] => b
  | k :: ks =>
    if d.resumeAt = b.clk + 1 then b
    else (b.setDie n { d with resume := ks, resumeAt := b.clk + 1 }).resumeLead k 2

/-! ## Open load -/

/-- Open load rises on lead `k`: the fault source of R167. -/
def Blk.openRise (b : Blk) (k : Nat) (was : Bool) : Blk :=
  if was then b else b.raiseDie (k / 16) 5 k

/-- The lead current has stayed below ON_THR for ON_TIME of counted samples (R162). -/
def Blk.openOn (b : Blk) (k : Nat) : Blk :=
  if b.on (F.CH_OL_ON_EN k) && max 1 (b.fld (F.CH_OL_ON_TIME k)) * 125 ≤ (b.chanOf k).olCnt then
    ((b.put (F.CH_PROT_STAT_OL_ON k) 1).put (F.CH_PROT_EVT_OL_ON k) 1).openRise k
      (b.on (F.CH_PROT_STAT_OL_ON k))
  else b

/-- 5 ms after the output of lead `k` turned off the test current starts (R163). -/
def Blk.openTest (b : Blk) (k : Nat) : Blk :=
  let c := b.chanOf k
  if b.leadOf k == k && b.on (F.CH_OL_OFF_EN k) && b.mode k == 0 && c.offAt + 5 * tickMs ≤ b.clk &&
      (!(b.dieOf (k / 16)).asleep || b.on (F.CH_STAT_SLEEP_HOLD k)) then
    b.setChan k { c with olTest := true }
  else b

/-- OFF_THR of lead `k` in units of 0.5 V (R174): 0 acts as 1. -/
def Blk.offThr (b : Blk) (k : Nat) : Nat := max 1 (b.fld (F.CH_OL_OFF_THR k))

/-- The output of lead `k` has stayed at or above OFF_THR for 2 ms under test (R163), which the last voltage sample
of that time does not contradict. -/
def Blk.openOff (b : Blk) (k : Nat) : Blk :=
  let c := b.chanOf k
  if b.leadOf k == k && c.olTest && b.mode k == 0 && !(b.recent c.vAt 2000 && volBelow c.vLast (b.offThr k)) then
    ((b.put (F.CH_PROT_STAT_OL_OFF k) 1).put (F.CH_PROT_EVT_OL_OFF k) 1).openRise k
      (b.on (F.CH_PROT_STAT_OL_OFF k))
  else b

/-- The output of lead `k` has stayed below OFF_THR for 2 ms (R163), which the last voltage sample of that time does
not contradict. -/
def Blk.openOffEnd (b : Blk) (k : Nat) : Blk :=
  let c := b.chanOf k
  if b.recent c.vAt 2000 && !volBelow c.vLast (b.offThr k) then b else b.put (F.CH_PROT_STAT_OL_OFF k) 0

/-- A write of CH_OL of channel `ch` (R162, R163): what it disables stops, and shows nothing. -/
def Blk.olWrite (b : Blk) (ch : Nat) (v : W32) : Blk :=
  let b1 := b.applyReg (R.CH_OL ch) v
  let b2 := if b1.on (F.CH_OL_OFF_EN ch) then b1 else b1.testStop ch
  if b2.on (F.CH_OL_ON_EN ch) then b2
  else (b2.put (F.CH_PROT_STAT_OL_ON ch) 0).setChan ch { b2.chanOf ch with olCnt := 0 }

/-! ## Keeper supervisor -/

/-- The keeper timeout in ticks (R183). -/
def Blk.keepTmo (b : Blk) : Nat := max 1 (min 100 (b.fld F.KEEP_TMO_TMO)) * tickMs

/-- A keepalive arms the supervisor; the responder stops accepting, FAULT_N and ALIVE recover, the dies
end LOST and the ring engines' forced consent ends (R90, R165, R181, R459, R648, R649). -/
def Blk.keepalive (b : Blk) : Blk :=
  let b1 := (List.range 12).foldl (fun x n => x.put (F.KP_STAT_LOST n) 0) b
  let b2 := ((b1.put F.AON_PSTATE_KEEPER_LOST 0).put F.AON_PSTATE_KEEPER_ARMED 1).put F.NM_STAT_FORCED 0
  { b2.consentFell b.consent with
    keeper := { b.keeper with last := b.clk, noKeep := false, sv4 := false }
    slp := { b.slp with lostAt := none } }

/-- A lead that waits for leave asks UH in place of the weighbridge (R31, R164). -/
def Blk.askUh (b : Blk) (k : Nat) : Blk :=
  let b1 := match (b.chanOf k).req with
    | some id => b.dropLeave id
    | none => b
  (b1.sendLeave k).setChan k { b1.chanOf k with req := some b1.nreq }

/-- The loss policy of lead `k` (R164); a latched lead is left as it is. -/
def Blk.lossPolicy (b : Blk) (k : Nat) : Blk :=
  let p := b.fld (F.CH_STAT_POLICY k)
  let m := b.mode k
  if b.on (F.CH_STAT_LATCH k) then b
  else if p = 1 then b.cmdOff k 6
  else if m = 4 then b.askUh k
  else if p = 2 then
    if m = 2 then b.changeMode k 1 0
    else if b.on (F.CH_PROT_STAT_PEND k) then
      b.setChan k { b.chanOf k with restore := (1, (b.chanOf k).restore.2) }
    else if m = 0 && !b.on (F.DIE_BANK_BANK_LOW (k / 16)) && !b.outranked k 10 then
      ((b.noteStart k 10 none).beginStart k (if b.on (F.CH_CAP_ILIM k) && b.on (F.CH_CAP_TMAX k) then 3 else 1) 0 false 0 none).2
    else b
  else b

/-- A keeper loss on die `n` (R35, R115, R116, R181): policies, queue, adoption, fault source. On a halted die no policy
acts (R166), and its queue is empty. -/
def Blk.dieLoss (b : Blk) (n : Nat) : Blk :=
  let b0 := ((b.put (F.KP_STAT_LOST n) 1).incSat (F.KP_STAT_LOSSES n)).put (F.KP_STAT_DROPPED n) 0
  if b.halted n then (b0.leads n).foldl Blk.unadopt b0
  else
    let b1 := (b0.leads n).foldl Blk.lossPolicy b0
    let r := b1.emptyTq n
    let b2 := r.2.put (F.KP_STAT_DROPPED n) r.1
    ((b2.leads n).foldl Blk.unadopt b2).raiseDie n 9 n

/-- The banks that starts with a weighbridge grant hold when UH takes over (R31), a timed start granted ahead of
its time and one whose grant is on its way included. -/
def Blk.takeHolds (b : Blk) : Blk :=
  let held := (b.wbgGrants.filter (fun g => g.kind < 2 && !b.uhHold.any (fun h => h.1 == g.id))).map (fun g =>
    (g.id, bankOf (g.unit / 16)))
  { b with uhHold := b.uhHold ++ held }

/-- Event bit `e` of KEEP_EVT, message source 0x104 (R583, R584). -/
def Blk.keepEvt (b : Blk) (e : Nat) : Blk := b.event ⟨R.KEEP_EVT, 2, 0⟩ F.KEEP_IEN_IEN e 0x104

/-- UH takes the channels over (R35): the loss is broadcast, the policies apply, the queues empty, the
pins change and the responder becomes active; FS250 is raised; the ring engines consent (R459). -/
def Blk.keeperLoss (b : Blk) : Blk :=
  let b1 := (b.put F.AON_PSTATE_KEEPER_LOST 1).takeHolds
  let b2 := ((List.range 12).foldl Blk.dieLoss b1).put F.NM_STAT_FORCED 1
  ({ b2 with slp := { b2.slp with lostAt := some b.clk } }.keepEvt 0).raiseF 250

/-- The keeper timeout expires (R34, R90); the supervisor does not count during SLEEP entry (R456). -/
def Blk.keeperTimeout (b : Blk) : Blk :=
  if !b.slp.armed && b.on F.AON_PSTATE_KEEPER_ARMED && !b.on F.AON_PSTATE_KEEPER_LOST &&
      b.keeper.last + b.keepTmo ≤ b.clk then b.keeperLoss
  else b

/-! ## Local watchdog -/

/-- Is `a` a register of die `n`'s window that a local watchdog reset returns to its reset value (R166,
R184, R222)? CH_WM_THETA, KP_STAT, the energy accumulators and their shadows keep their values. -/
def wdgResets (n a : Nat) : Bool :=
  let o := a - (0x51000000 + 0x100000 * n)
  (dieOfAddr a == some n) && o != 0x5000 &&
    !(0x1000 ≤ o && o < 0x2000 && (o % 0x100 == 0x54 || (0x9c ≤ o % 0x100 && o % 0x100 ≤ 0xac)))

/-- The local watchdog resets die `n` (R145, R166, R184): channels off, registers and groups back to
reset, ownership copy cleared, HALT; live readings stay live. `calBad` is the outcome of the
calibration check that follows (R187). DESIGN CHOICE: a member of a group that the reset clears goes on from the θ it
held itself, the lead from the group's; an ECLR that no sample has taken yet is dropped (R160, R191, log 102). -/
def Blk.watchdogReset (b : Blk) (n : Nat) (calBad : Bool) : Blk :=
  let chs := (List.range 16).map (16 * n + ·)
  let b0 := chs.foldl Blk.endLeave (b.dropAhead (b.dieOf n).tq)
  let b1 := { b0 with regs := b0.regs.keep (fun a => !wdgResets n a)
                      ownF := b0.ownF.keep (fun key =>
                        !(key / 65536 == 7 && key % 65536 / 16 == n) && key != resKey 0x0b (0x10 + n)) }
  let b2 := chs.foldl (fun x c =>
    let o := b.chanOf c
    ((x.setChan c { theta := o.theta, thetaE := o.thetaE, efrac := o.efrac, otSeen := o.otSeen
                    samples := o.samples, vLast := o.vLast, vAt := o.vAt, eOld := o.eOld, offAt := b.clk
                    fallAt := if b.on (F.CH_STAT_OUT (b.leadOf c)) then b.clk else (b.chanOf (b.leadOf c)).fallAt
                    }).put (F.CH_PROT_STAT_TJ c) (b.fld (F.CH_PROT_STAT_TJ c))).hotSync c |>.wmSync c) b1
  let d := b.dieOf n
  let b3 := b2.setDie n { asleep := d.asleep, alTb := d.alTb, alAt := d.alAt, sampAt := d.sampAt, sampTb := d.sampTb
                          wmAt := d.wmAt, sampN := d.sampN, diss := d.diss, rep := d.rep, feed := d.feed, ambAt := b.clk }
  let b4 := (((b3.putB (F.DIE_BANK_BANK_LOW n) (b.on (F.DIE_BANK_BANK_LOW n))).put
    (F.DIE_PSTAT_DIE_TJ n) (b.fld (F.DIE_PSTAT_DIE_TJ n))).put (F.DIE_PSTAT_WDG_COUNT n)
    (min 255 (b.fld (F.DIE_PSTAT_WDG_COUNT n) + 1))).put (F.DIE_PSTAT_HALT n) 1
  (b4.putB (F.DIE_MEAS_CAL_BAD n) calBad).raiseDie n 8 n

/-- The background check of the die's configuration at a whole millisecond (R166). -/
def Blk.crcCheck (b : Blk) (n : Nat) (mismatch calBad : Bool) : Blk :=
  if b.atMs n && mismatch then b.watchdogReset n calBad else b

/-! ## Meanings -/

/-- The current through the stage of member `ch` reaches its short-circuit threshold (R147). -/
def execShortCircuitDetect (ch : Nat) (s : State) : Host.Outcome State Fault Refusal :=
  onBlk (ch < 192) s (fun b => b.shortCircuit ch)

/-- Tj of member `ch` has been at or above 170 °C, now `t` °C, for 2 µs (R156). -/
def execOverTemperatureDetect (ch : Nat) (t : Int) (s : State) : Host.Outcome State Fault Refusal :=
  onBlk (ch < 192) s (fun b => b.overTemp ch t)

/-- TMAX passes (R119). -/
def execChargeTimeout (ch : Nat) (s : State) : Host.Outcome State Fault Refusal :=
  onBlk (ch < 192) s (fun b => b.chargeFail ch)

/-- The restart of lead `ch` in PEND (over-temperature) (R157). -/
def execAutoRestart (ch : Nat) (s : State) : Host.Outcome State Fault Refusal :=
  onBlk (ch < 192) s (fun b => b.autoRestart ch)

/-- The wire models of die `n` are updated (R158). -/
def execWireModelUpdate (n : Nat) (s : State) : Host.Outcome State Fault Refusal :=
  onBlk (n < 12) s (fun b => b.wireModel n)

/-- The bank feed of die `n` has been below UV for 10 µs (R161). -/
def execBankLowSet (n : Nat) (s : State) : Host.Outcome State Fault Refusal :=
  onBlk (n < 12) s (fun b => b.bankLowSet n)

/-- The bank feed of die `n` has been at or above UV + HYST for 1 ms (R161). -/
def execBankLowClear (n : Nat) (s : State) : Host.Outcome State Fault Refusal :=
  onBlk (n < 12) s (fun b => b.bankLowClear n)

/-- One lead of die `n` resumes (R161). -/
def execBankResume (n : Nat) (s : State) : Host.Outcome State Fault Refusal :=
  onBlk (n < 12) s (fun b => b.bankResume n)

/-- A write of 1 to CH_PROT_CLR.LATCH (R152). -/
def execLatchClear (i : Init) (ch : Nat) (s : State) : Host.Outcome State Fault Refusal :=
  onBlk (ch < 192) s (fun b => b.onWrite i (R.CH_PROT_CLR ch) ((F.CH_PROT_CLR_LATCH ch).word 1) (fun b => b.latchClear ch))

/-- A write of 1 to CH_PROT_CLR.RETRY (R157). -/
def execRetryClear (i : Init) (ch : Nat) (s : State) : Host.Outcome State Fault Refusal :=
  onBlk (ch < 192) s (fun b => b.onWrite i (R.CH_PROT_CLR ch) ((F.CH_PROT_CLR_RETRY ch).word 1) (fun b => b.retryClear ch))

/-- Lead `ch` has been ON for QUIET × 100 ms (R157). -/
def execRetryQuietExpiry (ch : Nat) (s : State) : Host.Outcome State Fault Refusal :=
  onBlk (ch < 192) s (fun b => b.retryQuiet ch)

/-- On-state open load of lead `ch` (R162). -/
def execOnStateOpenLoad (ch : Nat) (s : State) : Host.Outcome State Fault Refusal :=
  onBlk (ch < 192) s (fun b => b.openOn ch)

/-- The off-state test of lead `ch` starts (R163). -/
def execOffStateTestStart (ch : Nat) (s : State) : Host.Outcome State Fault Refusal :=
  onBlk (ch < 192) s (fun b => b.openTest ch)

/-- Off-state open load of lead `ch` (R163). -/
def execOffStateOpenLoad (ch : Nat) (s : State) : Host.Outcome State Fault Refusal :=
  onBlk (ch < 192) s (fun b => b.openOff ch)

/-- The off-state condition of lead `ch` ends (R163). -/
def execOffStateOpenLoadEnd (ch : Nat) (s : State) : Host.Outcome State Fault Refusal :=
  onBlk (ch < 192) s (fun b => b.openOffEnd ch)

/-- A write of WM_AMB of die `n` (R159). -/
def execAmbWrite (i : Init) (n : Nat) (v : W32) (s : State) : Host.Outcome State Fault Refusal :=
  onBlk (n < 12) s (fun b => b.onWrite i (R.WM_AMB n) v (fun b => b.ambWrite n v))

/-- AMB of die `n` becomes stale (R159). -/
def execAmbStale (n : Nat) (s : State) : Host.Outcome State Fault Refusal :=
  onBlk (n < 12) s (fun b => b.ambStale n)

/-- A write of KEEP_ALIVE (R165, R182). -/
def execKeepAlive (i : Init) (key : Nat) (s : State) : Host.Outcome State Fault Refusal :=
  onBlk true s (fun b => b.onWrite i R.KEEP_ALIVE (F.KEEP_ALIVE_KEY.word key) (fun b => if key % 256 = 0xa5 then b.keepalive else b))

/-- The keeper timeout expires (R35). -/
def execKeeperTimeout (s : State) : Host.Outcome State Fault Refusal :=
  onBlk true s Blk.keeperTimeout

/-- No protection cycle of die `n` has completed for 32 µs (R166). -/
def execSequencerStall (n : Nat) (calBad : Bool) (s : State) : Host.Outcome State Fault Refusal :=
  onBlk (n < 12) s (fun b => b.watchdogReset n calBad)

/-- The configuration CRC of die `n` is recomputed; `mismatch` says it differs from the held value
(R166). -/
def execConfigCrcCheck (n : Nat) (mismatch calBad : Bool) (s : State) :
    Host.Outcome State Fault Refusal :=
  onBlk (n < 12) s (fun b => b.crcCheck n mismatch calBad)

end Sys2Proof.Machine
end

