-- ==== Sys2Proof/Machine/Measure.lean ====
section
/-!
DEFINITION. Machine/Measure.lean: channel measurement (R185 to R193): samples, windows, energy, the
sample grid, and the dissipation report of R224.
-/

namespace Sys2Proof.Machine

/-! ## The grid -/

/-- The counter of die `n` stands within one tick of an instant t at which t − PHASE is a multiple of `p` ns
(R186). -/
def Blk.onGrid (b : Blk) (n p : Nat) : Bool :=
  let ph := 2 * min (b.dieOf n).phase 3999
  ph ≤ b.dieNow n && (b.dieNow n - ph) % p < 2

/-! ## Windows -/

/-- A window counts one more sample (R189). -/
def Win.add (w : Win) (x : WinSamp) : Win :=
  let v := x.v.getD 0
  { n := w.n + 1
    min := if w.n = 0 then x.i else Min.min w.min x.i
    max := if w.n = 0 then x.i else Max.max w.max x.i
    sum := w.sum + x.i
    sq := w.sq + x.i.natAbs * x.i.natAbs
    vn := if x.v.isSome then w.vn + 1 else w.vn
    vmin := if x.v.isSome then (if w.vn = 0 then v else Min.min w.vmin v) else w.vmin
    vsum := w.vsum + v
    isat := w.isat || x.isat
    vsat := w.vsat || x.vsat }

/-- A current in units of 80 A ÷ 2^31, summed over `d` samples, in 10 mA, saturating at ±327.67 A (R189, R671). -/
def mA10 (i : Int) (d : Nat) : Nat := satSigned 16 (max (-32767) (roundDiv (i * 8000) (d * 2 ^ 31)))

/-- The root mean square of `n` samples in 10 mA, rounded to the nearest and at most 65,535 (R671). -/
def rms10 (sq n : Nat) : Nat :=
  min 65535 ((isqrt 18 0 (4 * sq * 64000000 / (n * 2 ^ 62)) + 1) / 2)

/-- The window of channel `k` closes (R189): results, flags and SEQ are written together. `short` forces
SHORT. A window that holds no current sample leaves the results as they are (assumption 22). -/
def Blk.closeWindow (b : Blk) (k : Nat) (short : Bool) : Blk :=
  let c := b.chanOf k
  let atClose := (b.dieOf (k / 16)).sampAt = b.clk + 1 ∧ short = false
  let w := if atClose then c.win else match c.newest with
    | some x => c.win.add x
    | none => c.win
  let group := c.wsrc && b.leadOf k == k && b.gangSize k != 1
  let b1 := if w.n = 0 then b else
    (((b.put (F.CH_WIN_I_MAX k) (mA10 w.max 1)).put (F.CH_WIN_I_MIN k) (mA10 w.min 1)).put
      (F.CH_WIN_M_MEAN k) (mA10 w.sum w.n)).put (F.CH_WIN_M_RMS k) (rms10 w.sq w.n)
  let b2 := if w.vn = 0 then b1 else
    (b1.put (F.CH_WIN_V_VMIN k) (satSigned 16 w.vmin)).put (F.CH_WIN_V_VMEAN k)
      (satSigned 16 (roundDiv w.vsum w.vn))
  let b3 := ((((((b2.incWrap (F.CH_WIN_SEQ_SEQ k)).putB (F.CH_WIN_SEQ_VNONE k) (w.vn == 0)).putB
    (F.CH_WIN_SEQ_SHORT k) (short || c.wshort || w.n < c.wlen)).putB (F.CH_WIN_SEQ_GROUP k) group).putB
    (F.CH_WIN_SEQ_V_SAT k) w.vsat).putB (F.CH_WIN_SEQ_I_SAT k) w.isat)
  b3.setChan k { c with
    win := {}
    newest := if atClose then c.newest else none
    wshort := false
    wcloseAt := b.clk + 1
    wlen := b.fld (F.CH_WCFG_WLEN k)
    wsrc := b.on (F.CH_WCFG_SRC k) }

/-- Does channel `k` run a window that opened before this tick (R189)? -/
def Blk.windowRuns (b : Blk) (k : Nat) : Bool :=
  (b.chanOf k).wlen != 0 && (b.chanOf k).wopen != 0 && (b.chanOf k).wopen != b.clk + 1

/-- A closing instant of channel `k`'s windows (R189). -/
def Blk.windowClose (b : Blk) (k : Nat) : Blk :=
  let c := b.chanOf k
  if b.windowRuns k && c.wcloseAt != b.clk + 1 && !(b.dieOf (k / 16)).asleep && b.onGrid (k / 16) (c.wlen * 8000) then
    b.closeWindow k false
  else b

/-- A write of CH_WCFG (R189, R204): at once while the windows are stopped, else at the next close. -/
def Blk.wcfgWrite (b : Blk) (k : Nat) (v : W32) : Blk :=
  let b1 := b.applyReg (R.CH_WCFG k) v
  let c := b1.chanOf k
  if c.wlen = 0 then
    b1.setChan k { c with wlen := b1.fld (F.CH_WCFG_WLEN k), wsrc := b1.on (F.CH_WCFG_SRC k)
                          win := {}, newest := none, wopen := 0 }
  else b1

/-! ## Samples -/

/-- The trimmed current of a factory-calibrated code, in units of 80 A ÷ 2^31 (R187). -/
def Blk.trim (b : Blk) (k : Nat) (code : Int) : Int :=
  let sat := max (-32768) (min code 32767)
  sat * (65536 + toSigned 16 (b.fld (F.CH_CAL_GAIN k))) + toSigned 16 (b.fld (F.CH_CAL_OFFSET k)) * 65536

/-- Is a converter code beyond its range (R187)? -/
def satCode (code : Int) : Bool := code < -32768 || 32767 < code

/-- Energy of one sample in 2^-35 µJ (R190): v × i × 8 µs, nothing below 0. -/
def sampleEnergy (v i : Int) : Nat := (max 0 (25 * v * i)).toNat

/-- The energy accumulator of channel `k` in µJ. -/
def Blk.energy (b : Blk) (k : Nat) : Nat := b.fld (F.CH_E_HI_E_HI k) * 2 ^ 32 + b.fld (F.CH_E_LO_E_LO k)

/-- The energy accumulator of channel `k` after a sample (R190, R191). -/
def Blk.addEnergy (b : Blk) (k : Nat) (v i : Int) : Blk :=
  let c := b.chanOf k
  let acc := if c.eclr then 0 else b.energy k * 2 ^ 35 + c.efrac
  let counts := b.on (F.CH_STAT_OUT (b.leadOf k)) ||
    ((b.chanOf (b.leadOf k)).fallAt != 0 && b.clk ≤ (b.chanOf (b.leadOf k)).fallAt + 100 * tickUs)
  let inc := if counts then sampleEnergy v i else 0
  let acc' := acc + inc
  (({ b with eTotal := b.eTotal + inc }.put (F.CH_E_LO_E_LO k) (acc' / 2 ^ 35)).put (F.CH_E_HI_E_HI k) (acc' / 2 ^ 67)).setChan k
    { c with efrac := acc' % 2 ^ 35, eclr := false, eOld := b.energy k }

/-- The converters of channel `k` give a sample (R186, R187, R190). -/
def Blk.chanSample (b : Blk) (k : Nat) (x : Samp) (vNow : Bool) (vbank : Int) : Blk :=
  let i := b.trim k x.i
  let b1 := b.put (F.CH_SAMP_I k) (satSigned 16 (roundDiv i 65536))
  let v := if vNow then max (-32768) (min x.v 32767) else (b.chanOf k).vLast
  let b2 := (if vNow then b1.put (F.CH_SAMP_V k) (satSigned 16 x.v) else b1).setChan k { b1.chanOf k with
    vLast := v
    vAt := if vNow then b.clk + 1 else (b1.chanOf k).vAt
    samples := (i :: (b1.chanOf k).samples).take 126 }
  let b3 := (b2.addEnergy k v i).setTj k x.tj
  let d := b3.dieOf (k / 16)
  b3.setDie (k / 16) { d with diss := d.diss + 25 * (vbank - v) * i }

/-- The window of channel `k` takes its sample: the group current on a lead with SRC (R188). -/
def Blk.winSample (b : Blk) (k : Nat) (xs : List Samp) (is : List Int) (vNow : Bool) : Blk :=
  let c := b.chanOf k
  let own := xs.getD (k % 16) ⟨0, 0, 0⟩
  let ms := if c.wsrc && b.leadOf k == k then b.members k else [k]
  let x : WinSamp :=
    { i := (ms.map (fun m => is.getD (m % 16) 0)).foldl (· + ·) 0
      v := if vNow then some (max (-32768) (min own.v 32767)) else none
      isat := ms.any (fun m => satCode (xs.getD (m % 16) ⟨0, 0, 0⟩).i)
      vsat := vNow && satCode own.v }
  let run := c.wlen != 0 && !(b.dieOf (k / 16)).asleep
  if run then
    b.setChan k { c with
      win := match c.newest with
        | some y => c.win.add y
        | none => c.win
      newest := some x
      wopen := if c.wopen = 0 then b.clk + 1 else c.wopen }
  else b

/-- Digital overcurrent on member `ch`, whose trimmed sample is `i` (R148). -/
def Blk.docSample (b : Blk) (ch : Nat) (i : Int) : Blk :=
  let k := b.leadOf ch
  let thr := min 120 (b.fld (F.CH_TRIP_DOC_THR k))
  let m := b.modeAtTick k
  let c := b.chanOf ch
  if thr = 0 ∨ m = 3 ∨ modeOn m = false ∨ i * 160 < (thr : Int) * (2 ^ 31 : Nat) then
    b.setChan ch { c with docCnt := 0 }
  else if max 1 (b.fld (F.CH_TRIP_DOC_TIME k)) ≤ c.docCnt + 1 then
    (((b.setChan ch { c with docCnt := 0 }).trip k 0xa false 0).put (F.CH_PROT_EVT_DOC ch) 1).raiseDie
      (ch / 16) 7 ch
  else b.setChan ch { c with docCnt := c.docCnt + 1 }

/-- Lead `k` takes its (group) current for the on-state open load of R162. -/
def Blk.leadSample (b : Blk) (k : Nat) (i : Int) : Blk :=
  let c := b.chanOf k
  let counts := b.on (F.CH_STAT_OUT k) && (b.mode k == 1 || b.mode k == 2) &&
    c.riseAt + 100 * tickUs ≤ b.clk
  let low := i * 8000 < (max 1 (b.fld (F.CH_OL_ON_THR k)) : Int) * (2 ^ 31 : Nat)
  let b1 := b.setChan k { c with olCnt := if counts then (if low then c.olCnt + 1 else 0) else c.olCnt }
  if counts && !low then b1.put (F.CH_PROT_STAT_OL_ON k) 0 else b1

/-- A pending change of PHASE moves the grid (R189): every running window closes with SHORT, one that the move's own sample
opened included. -/
def Blk.gridMove (b : Blk) (n : Nat) : Blk :=
  let ph := b.fld (F.DIE_MEAS_PHASE n)
  if (b.dieOf n).phase = ph then b
  else
    let b1 := ((List.range 16).map (16 * n + ·)).foldl (fun x k =>
      if (x.chanOf k).wlen != 0 && (x.chanOf k).wopen != 0 then x.closeWindow k true else x) b
    b1.setDie n { b1.dieOf n with phase := ph }

/-- Is this a sample instant of die `n` (R186)? In SLEEP every 8 periods of the sleep oscillator while the
wire-model engine runs (R193). -/
def Blk.sampleNow (b : Blk) (n : Nat) : Bool :=
  let d := b.dieOf n
  if d.asleep then b.engineRuns n && b.sleepPeriods 8 d.sampAt else b.onGrid n 8000 && d.sampAt != b.clk + 1

/-- All channels of die `n` take a current sample, and a voltage sample at every fourth instant (R186). -/
def Blk.sample (b : Blk) (n : Nat) (vbank : Int) (xs : List Samp) : Blk :=
  let d := b.dieOf n
  if b.sampleNow n then
    let vNow := if d.asleep then d.sampN % 4 == 3 else b.onGrid n 32000
    let chs := (List.range 16).map (16 * n + ·)
    let is := chs.map (fun k => b.trim k (xs.getD (k % 16) ⟨0, 0, 0⟩).i)
    let b1 := b.setDie n { d with sampAt := b.clk + 1, sampTb := b.dieNow n, sampN := d.sampN + 1, feed := vbank }
    let b2 := chs.foldl (fun x k => x.chanSample k (xs.getD (k % 16) ⟨0, 0, 0⟩) vNow vbank) b1
    let b3 := chs.foldl (fun x k => x.winSample k xs is vNow) b2
    let b4 := (b3.leads n).foldl (fun x k =>
      x.leadSample k (((x.members k).map (fun m => is.getD (m % 16) 0)).foldl (· + ·) 0)) b3
    let b5 := chs.foldl (fun x k => x.docSample k (is.getD (k % 16) 0)) b4
    b5.gridMove n
  else b

/-- The report of die `n` for the last millisecond (R224), in 2^-35 µJ. -/
def Blk.report (b : Blk) (n : Nat) : Blk :=
  let d := b.dieOf n
  b.setDie n { d with rep := d.diss, diss := 0 }

/-! ## Meanings -/

/-- A sample instant of die `n`: the bank voltage code and the converter outputs of its channels (R186). -/
def execCurrentSample (n : Nat) (vbank : Int) (xs : List Samp) (s : State) :
    Host.Outcome State Fault Refusal :=
  onBlk (n < 12) s (fun b => b.sample n vbank xs)

/-- A window of channel `ch` closes (R189). -/
def execWindowClose (ch : Nat) (s : State) : Host.Outcome State Fault Refusal :=
  onBlk (ch < 192) s (fun b => b.windowClose ch)

/-- A write of CH_WCFG (R204). -/
def execWcfgWrite (i : Init) (ch : Nat) (v : W32) (s : State) : Host.Outcome State Fault Refusal :=
  onBlk (ch < 192) s (fun b => b.onWrite i (R.CH_WCFG ch) v (fun b => b.wcfgWrite ch v))

/-- A write of DIE_MEAS.PHASE (R189): the grid moves at the next sample instant of the old grid. -/
def execDieMeasPhaseWrite (i : Init) (n : Nat) (v : W32) (s : State) :
    Host.Outcome State Fault Refusal :=
  onBlk (n < 12) s (fun b => b.onWrite i (R.DIE_MEAS n) v (fun b => b.applyReg (R.DIE_MEAS n) v))

/-- A write of CH_MCTL.ECLR (R191): the accumulator is cleared at the next sample. -/
def execEnergyClear (i : Init) (ch : Nat) (s : State) : Host.Outcome State Fault Refusal :=
  onBlk (ch < 192) s (fun b => b.onWrite i (R.CH_MCTL ch) ((F.CH_MCTL_ECLR ch).word 1) (fun b =>
    if b.halted (ch / 16) then b else b.setChan ch { b.chanOf ch with eclr := true }))

end Sys2Proof.Machine
end

