-- ==== Sys2Proof/Machine/Weigh.lean ====
section
/-!
DEFINITION. Machine/Weigh.lean: the weighbridge (R223 to R242, R249 to R263). Powers are in mW.
-/

namespace Sys2Proof.Machine

/-! ## Limits and headrooms -/

/-- LIM_KC in mW (R250). -/
def Blk.limKc (b : Blk) : Nat := min 0x48 (b.fld F.WBG_LIM_KC) * 500

/-- KC_TLIM and BF_TLIM in m°C (R251). -/
def Blk.kcTlim (b : Blk) : Int := ((min 0xaf (b.fld F.WBG_THERM_KC_TLIM) : Nat) - 50) * 1000
def Blk.bfTlim (b : Blk) : Int := ((min 0xc8 (b.fld F.WBG_THERM_BF_TLIM) : Nat) - 50) * 1000

/-- LID_KNEE and LID_ZERO in m°C (R251). -/
def Blk.lidKnee (b : Blk) : Int := ((b.fld F.WBG_THERM_LID_KNEE : Nat) - 50) * 1000
def Blk.lidZeroAt (b : Blk) : Int :=
  (max (b.fld F.WBG_THERM_LID_ZERO : Nat) ((b.fld F.WBG_THERM_LID_KNEE : Nat) + 1) - 50) * 1000

/-- COND_LIM in 2^-35 mW (R225). -/
def Blk.condLim (b : Blk) : Int :=
  let lim : Int := (min 0x24 (b.fld F.WBG_LIM_COND) * 500 * 2 ^ 35 : Nat)
  let t := b.k.wb.tLid
  if t ≤ b.lidKnee then lim
  else if t < b.lidZeroAt then lim * (b.lidZeroAt - t) / (b.lidZeroAt - b.lidKnee)
  else 0

/-- The power of class `c` in mW (R255). -/
def Blk.classPower (b : Blk) (c : Nat) : Nat :=
  ((b.reg (R.WBG_ECLASS (c / 4))).extractLsb' (8 * (c % 4)) 8).toNat * 100

/-- Word `w` of entry `i` of core `n`'s dispatcher table (R243). -/
def Blk.ent (b : Blk) (n i w : Nat) : Nat := (b.reg (R.DISP_ENT n i w)).toNat

/-- ECLASS, EN, PRIO, DEFER_MAX and CTX of an entry (R243). -/
def Blk.entClass (b : Blk) (n i : Nat) : Nat := b.ent n i 3 / 2 ^ 24 % 8
def Blk.entEn (b : Blk) (n i : Nat) : Bool := (b.ent n i 3).testBit 27
def Blk.entPrio (b : Blk) (n i : Nat) : Nat := b.ent n i 3 / 2 ^ 16 % 256
def Blk.entDefer (b : Blk) (n i : Nat) : Nat := b.ent n i 3 / 2 ^ 8 % 256
def Blk.entCtx (b : Blk) (n i : Nat) : Nat := b.ent n i 3 % 256

/-- The class powers of the tasks that run (R226). -/
def Blk.taskPower (b : Blk) : Nat :=
  ((List.range 8).map (fun n =>
    if b.on (F.DISP_STAT_RUNNING n) then b.classPower (b.entClass n (b.fld (F.DISP_STAT_RUN_IDX n))) else 0)).sum

/-- The declared power of the KC grants made less than 1 ms ago (R226). -/
def Blk.young (b : Blk) : Nat :=
  ((b.wbgGrants.filter (fun g => 2 ≤ g.kind && b.clk < g.grantAt + tickMs)).map (·.power)).sum

/-- H_KC in mW (R226). -/
def Blk.headKc (b : Blk) : Int := (b.limKc : Int) - b.k.wb.pMeas - b.young - b.taskPower

/-- H_COND in 2^-35 mW (R226). -/
def Blk.headCond (b : Blk) : Int := b.condLim - b.k.wb.pCond

/-- The power that the KC heat check still allows, in mW (R229). -/
def Blk.headHeat (b : Blk) : Int := (b.kcTlim - b.k.wb.tLid) * 20 / 7 - b.k.wb.pMeas - b.young

/-- The sensor of node BF in 10^-12 °C: the mean of the twelve DIE_TJ values (R227). -/
def Blk.bfSensor (b : Blk) : Int :=
  roundDiv ((((List.range 12).map (fun n => b.fld (F.DIE_PSTAT_DIE_TJ n))).sum - 600 : Int) * 10 ^ 12) 12

/-- T_BF in 10^-12 °C; the sensor's until the model runs (R269). -/
def Blk.tempBf (b : Blk) : Int := if b.k.wb.run then b.k.wb.tBf else b.bfSensor

/-- The energy that the BF heat check still allows, in mJ (R229): 6 J/K, less the grants held. -/
def Blk.headBf (b : Blk) : Int :=
  6 * (b.bfTlim * 1000000000 - b.tempBf) / 1000000000 -
    ((b.wbgGrants.filter (fun g => g.kind ≤ 1)).map (·.energy)).sum

/-- The current that the bank check still allows on `bank`, in 80 A ÷ (125 × 2^31) (R230): PEAK is in
0.5 A units. -/
def peakUnits (p : Nat) : Int := ((p * 125 * 2 ^ 31 / 160 : Nat) : Int)
def Blk.headBank (b : Blk) (bank : Nat) : Int :=
  peakUnits (2 * b.fld F.WBG_ARB_BANK_PEAK) -
    (b.k.wb.bank.get (fun _ => 0) (2 * bank) + b.k.wb.bank.get (fun _ => 0) (2 * bank + 1)) -
    ((b.wbgGrants.filter (fun g => g.kind ≤ 1 && bankOf (g.unit / 16) == bank)).map (fun g => peakUnits g.peak)).sum

/-- Does the application cluster run (R94)? -/
def Blk.clusterRuns (b : Blk) : Bool := b.kcRun && b.fld F.SYSCTL_PWR_STATE < 2

/-- The class of a context (R45, R232). -/
def Blk.classOf (b : Blk) (ctx : Nat) : Nat := b.k.cls.get (fun _ => 1) ctx

/-- WBG_HEAD shows the headrooms (R258). -/
def Blk.headSync (b : Blk) : Blk :=
  (b.put F.WBG_HEAD_KC (satSigned 16 (roundDiv b.headKc 10))).put F.WBG_HEAD_COND
    (satSigned 16 (roundDiv b.headCond (10 * 2 ^ 35)))

def Blk.setWb (b : Blk) (w : Weigh) : Blk := { b with k := { b.k with wb := w } }

/-! ## Slots -/

def Blk.slotState (b : Blk) (k st : Nat) : Blk := b.put (F.WBG_SLOT_STAT_STATE k) st

/-- The slot of a request goes to `st`; a request of slot 16 has left its slot. -/
def Blk.askSlot (b : Blk) (a : Ask) (st : Nat) : Blk :=
  if (a.kind = 2 ∨ a.kind = 3) ∧ a.unit < 16 then b.slotState a.unit st else b

def Blk.portOf (b : Blk) (p : Nat) : Port := b.k.port.get (fun _ => {}) p
def Blk.setPort (b : Blk) (p : Nat) (x : Port) : Blk :=
  { b with k := { b.k with port := b.k.port.set (fun _ => {}) p x } }

/-- Link training of MG port `p` ends without a link: FS084, and a retry 10 ms later (R370). -/
def Blk.trainFail (b : Blk) (p : Nat) : Blk :=
  ((b.put (F.ETH_STAT_STATE p) 0).setPort p { b.portOf p with retryAt := some (b.clk + 10 * tickMs) }).raise 84 p

/-! ## Stepping down and revoking -/

/-- The cluster is forced down one step (R239). -/
def Blk.stepDown (b : Blk) : Blk := b.put F.WBG_STAT_STEP (min 3 (b.fld F.WBG_STAT_STEP + 1))

/-- The youngest revocable grant of class `c` (R231). -/
def Blk.youngest (b : Blk) (c : Nat) : Option Ask :=
  (b.wbgGrants.filter (fun g => 2 ≤ g.kind && b.classOf g.ctx == c)).foldl (fun m g =>
    match m with
    | none => some g
    | some h => if h.grantAt ≤ g.grantAt then some g else some h) none

/-- Grant `g` is revoked (R231). -/
def Blk.revoke (b : Blk) (g : Ask) : Blk :=
  let b1 := { b with wbgGrants := b.wbgGrants.erase g }.askSlot g 5
  if g.kind = 2 then b1.stepDown
  else if g.kind = 4 then b1.setWb { b1.k.wb with revoked := b1.k.wb.revoked ++ [g] }
  else if g.kind = 5 then b1.trainFail g.unit
  else b1

/-- One action against an excess (R236, R238): a step down while a lower step exists and the cluster
runs, otherwise the youngest revocable grant, COMFORT before BODY; false if nothing was left. -/
def Blk.cut (b : Blk) : Bool × Blk :=
  if b.clusterRuns && b.fld F.WBG_STAT_STEP < 3 then (true, b.stepDown)
  else match (b.youngest 2).orElse (fun _ => b.youngest 1) with
    | some g => (true, b.revoke g)
    | none => (false, b)

/-- An action of a course of revocation (R238). -/
def Blk.courseAct (b : Blk) : Blk :=
  let r := b.cut
  let b1 := r.2.setWb { r.2.k.wb with actAt := b.clk }
  if r.1 || b.k.wb.dry then b1 else (b1.setWb { b1.k.wb with dry := true }).raise 228

/-- Do the conditions of R238 hold? -/
def Blk.excess (b : Blk) : Bool :=
  b.limKc < b.k.wb.pMeas || (b.k.wb.run && b.kcTlim * 1000000000 < b.k.wb.tKc)

/-- A course begins with source `src` (R238). -/
def Blk.courseBegin (b : Blk) (src : Nat) : Blk :=
  if b.k.wb.course then b
  else ((b.setWb { b.k.wb with course := true, dry := false }).raise src).courseAct

/-! ## Evaluation rounds -/

/-- The reservations of a round, by class: KC power, KC heat, BF heat, and by bank
number (R235). -/
structure Resv where
  kc : List Int := [0, 0, 0]
  heat : List Int := [0, 0, 0]
  bf : List Int := [0, 0, 0]
  bank : Sparse (List Int) := []

/-- What is left of headroom `h` for class `c` beside the reservations `r` of higher classes (R235). -/
def leftFor (h : Int) (r : List Int) (c : Nat) : Int :=
  if h < 0 then h else max 0 (h - (r.take c).sum)

/-- Class `c` reserves what is left, up to its need (R235). -/
def reserve (h : Int) (r : List Int) (c : Nat) (need : Int) : List Int :=
  if leftFor h r c < need then r.set c (r.getD c 0 + max 0 (leftFor h r c)) else r

/-- Does request `a` pass every check (R229, R230, R231)? -/
def Blk.fits (b : Blk) (a : Ask) (c : Nat) (r : Resv) : Bool :=
  if a.kind ≤ 1 then
    let bk := bankOf (a.unit / 16)
    peakUnits a.peak ≤ leftFor (b.headBank bk) (r.bank.get (fun _ => [0, 0, 0]) bk) c &&
      (a.energy : Int) ≤ leftFor b.headBf r.bf c && (c == 0 || 0 ≤ b.headCond)
  else (a.power : Int) ≤ leftFor b.headKc r.kc c && (a.power : Int) ≤ leftFor b.headHeat r.heat c

/-- A deferred request reserves in each budget it failed (R235). -/
def Blk.reserveFor (b : Blk) (a : Ask) (c : Nat) (r : Resv) : Resv :=
  if a.kind ≤ 1 then
    let bk := bankOf (a.unit / 16)
    { r with
      bf := reserve b.headBf r.bf c a.energy
      bank := r.bank.put bk (reserve (b.headBank bk) (r.bank.get (fun _ => [0, 0, 0]) bk) c (peakUnits a.peak)) }
  else { r with kc := reserve b.headKc r.kc c a.power, heat := reserve b.headHeat r.heat c a.power }

/-- Is the request refused at once whatever the headroom (R234, R242)? A step-up that waits when the dispatcher
holds the cluster at step 3 is (R239, R246). -/
def Blk.hopeless (b : Blk) (a : Ask) (c : Nat) : Bool :=
  (if a.kind ≤ 1 then 6 * (b.bfTlim - b.k.wb.tLid) < (a.energy : Int) else b.limKc < a.power) ||
    (b.on F.WBG_STAT_SB_EXH && c != 0) || (a.kind == 2 && b.on F.WBG_STAT_HELD_LOW)

/-- The deferral bound of class `c` in ticks (R253). -/
def Blk.bound (b : Blk) (c : Nat) : Nat :=
  if c = 0 then max 1 (b.fld F.WBG_ARB_DEF_SAFETY) * 10 * tickUs
  else if c = 1 then max 1 (b.fld F.WBG_ARB_DEF_BODY) * 100 * tickUs
  else max 1 (b.fld F.WBG_ARB_DEF_COMFORT) * tickMs

/-- Request `a` is granted (R234): its declarations count at once and its answer leaves. -/
def Blk.grantAsk (b : Blk) (a : Ask) : Blk :=
  let b1 := { b with wbgGrants := b.wbgGrants ++ [{ a with grantAt := b.clk }] }
  if a.kind ≤ 1 then { b1 with answers := b1.answers ++ [⟨a.id, a.unit, true⟩] }
  else if a.kind = 2 then (b1.put F.WBG_STAT_STEP a.peak).slotState a.unit 6
  else if a.kind = 4 then b1.put (F.CQ_STAT_PAUSED a.unit) 0
  else if a.kind = 5 then b1.put (F.ETH_STAT_STATE a.unit) 2
  else b1.askSlot a 3

/-- Request `a` is refused (R234). -/
def Blk.refuseAsk (b : Blk) (a : Ask) : Blk :=
  if a.kind ≤ 1 then { b with answers := b.answers ++ [⟨a.id, a.unit, false⟩] }
  else if a.kind ≤ 3 then b.slotState a.unit 4
  else if a.kind = 5 then b.trainFail a.unit
  else b.setWb { b.k.wb with refused := b.k.wb.refused ++ [a] }

/-- A SAFETY request at its bound is granted, and power is freed by force (R236). -/
def Blk.boundGrant (b : Blk) (a : Ask) : Blk :=
  let r := ((b.grantAsk a).raise 227).cut
  if r.1 then r.2 else r.2.raise 228

/-- Request `a` is judged (R234 to R236); `old` says that it is already in the deferral queue. -/
def Blk.judgeAsk (b : Blk) (a : Ask) (old : Bool) (r : Resv) : Blk × Resv :=
  let c := b.classOf a.ctx
  let b0 := { b with wbgQueue := b.wbgQueue.erase a }
  if b.hopeless a c then (b0.refuseAsk a, r)
  else if b.fits a c r then (b0.grantAsk a, r)
  else if old then
    if a.defAt + b.bound c ≤ b.clk then (if c = 0 then (b0.boundGrant a, r) else (b0.refuseAsk a, r))
    else (b, b.reserveFor a c r)
  else if b.wbgQueue.length < 64 then
    ({ b with wbgQueue := b.wbgQueue ++ [{ a with defAt := b.clk }] }.askSlot a 2, b.reserveFor a c r)
  else if c = 0 then (b.boundGrant a, r)
  else (b.refuseAsk a, r)

/-- The place of a requester among requests that arrive together (R233). -/
def askOrder (a : Ask) : Nat :=
  if a.kind ≤ 1 then a.unit / 16 else if a.kind = 4 then 12 else if a.kind = 5 then 13 else 14 + a.unit

/-- R233: is `x` judged before `y` among new requests, or among deferred ones? -/
def Blk.askBefore (b : Blk) (x y : Ask) : Bool :=
  let cx := b.classOf x.ctx
  let cy := b.classOf y.ctx
  cx < cy || (cx == cy && (x.since < y.since || (x.since == y.since && askOrder x ≤ askOrder y)))

/-- `a` in its place in an ordered list. -/
def Blk.askInsert (b : Blk) (a : Ask) : List Ask → List Ask
  | [] => [a]
  | x :: xs => if b.askBefore x a then x :: b.askInsert a xs else a :: x :: xs

/-- A list of requests in the order in which a round takes them. -/
def Blk.askSort (b : Blk) (l : List Ask) : List Ask := l.foldl (fun acc a => b.askInsert a acc) []

/-- Requests judged one after the other. -/
def judgeAll (old : Bool) : List Ask → Blk × Resv → Blk × Resv
  | [], x => x
  | a :: as, x => judgeAll old as (x.1.judgeAsk a old x.2)

/-- The leave request of a field die as the weighbridge takes it (R231, R232). -/
def Blk.askOf (b : Blk) (r : Leave) : Ask :=
  { id := r.id, kind := if b.gangSize r.ch = 1 then 0 else 1, unit := r.ch, ctx := (b.ownOf 0x07 r.ch).ctx
    peak := r.peak, energy := r.energy, since := r.since }

/-! ## Interrupt files -/

/-- Identity `id` becomes pending in the file at page `p` (R489); identities are 1 to 2,047. -/
def Blk.fileSet (b : Blk) (p id : Nat) : Blk :=
  if id = 0 ∨ 2047 < id then b
  else { b with k := { b.k with files := b.k.files.set (fun _ => 0) p (b.k.files.get (fun _ => 0) p ||| 2 ^ id) } }

/-! ## What the dispatchers show -/

def Blk.dispOf (b : Blk) (n : Nat) : Disp := b.k.disp.get (fun _ => {}) n
def Blk.setDisp (b : Blk) (n : Nat) (d : Disp) : Blk :=
  { b with k := { b.k with disp := b.k.disp.set (fun _ => {}) n d } }

/-- Does the class power of entry `i` fit (R245)? -/
def Blk.taskFits (b : Blk) (n i : Nat) : Bool :=
  let c := b.entClass n i
  c == 0 || ((b.classPower c : Int) ≤ b.headKc)

/-- The entry of highest priority in a list; ties go to the lower index (R245). -/
def Blk.best (b : Blk) (n : Nat) (l : List Nat) : Option Nat :=
  l.foldl (fun m i =>
    match m with
    | none => some i
    | some j =>
      if b.entPrio n i < b.entPrio n j || (b.entPrio n i == b.entPrio n j && i < j) then some i else some j) none

/-- READY, HELD, the deferral time and PREEMPT_REQ follow the ready tasks (R245 to R247). -/
def Blk.dispSync (b : Blk) (n : Nat) : Blk :=
  let d := b.dispOf n
  let top := b.best n d.ready
  let held := top.any (fun i => !b.taskFits n i)
  let acc := match d.held with
    | some (i, t) =>
      if held && top == some i then d.acc
      else d.acc.set (fun _ => 0) i (d.acc.get (fun _ => 0) i + (b.clk - t))
    | none => d.acc
  let nh := match d.held, top with
    | some (i, t), some j => if held && i == j then some (i, t) else if held then some (j, b.clk) else none
    | none, some j => if held then some (j, b.clk) else none
    | _, none => none
  let b1 := ((b.setDisp n { d with held := nh, acc := acc }).put (F.DISP_STAT_READY n) d.ready.length).putB
    (F.DISP_STAT_HELD n) held
  let run := b.fld (F.DISP_STAT_RUN_IDX n)
  let pre := b.on (F.DISP_STAT_RUNNING n) &&
    d.ready.any (fun i => b.entPrio n i < b.entPrio n run && b.taskFits n i)
  if pre && !b.on (F.DISP_STAT_PREEMPT_REQ n) then
    (b1.put (F.DISP_STAT_PREEMPT_REQ n) 1).fileSet (mFile (16 + n)) 1
  else b1

/-- Every dispatcher follows a change of H_KC (R245, R247). -/
def Blk.dispSyncAll (b : Blk) : Blk := (List.range 8).foldl Blk.dispSync b

/-- An evaluation round (R233): the deferred requests, then the new ones. -/
def Blk.round (b : Blk) : Blk :=
  if b.on F.WBG_STAT_STARTED then
    let new := b.k.wb.new ++ b.reqWbg.map b.askOf
    let b0 := (b.k.wb.withdrawn.foldl (fun x k => x.slotState k 0) b).setWb
      { b.k.wb with new := [], withdrawn := [] }
    let b1 := { b0 with
      reqWbg := []
      wbgGrants := b.wbgGrants.filter (fun g => g.kind != 2 || b.clk < g.grantAt + tickMs) }
    let x := judgeAll true (b1.askSort b1.wbgQueue) (b1, {})
    let y := judgeAll false (x.1.askSort new) x
    (y.1.put F.WBG_STAT_DEFERRED y.1.wbgQueue.length).headSync.dispSyncAll
  else b

/-! ## Measurements and the model -/

/-- The standby energy grows by `nj` nJ and the channels' increments (R241, R242). -/
def Blk.standbyCount (b : Blk) (nj : Nat) : Blk :=
  let w := b.k.wb
  let ch := (b.eTotal - w.sbLast) / 2 ^ 35
  let tot := w.sbNj + nj + ch * 1000
  let used := tot / 10 ^ 9
  let bud := b.fld F.WBG_SB_BUDGET
  let b1 := (b.setWb { w with sbNj := tot, sbLast := w.sbLast + ch * 2 ^ 35 }).put F.WBG_SB_USED_USED
    (min used (2 ^ 32 - 1))
  let warn := bud * (100 - min 100 (b.fld F.WBG_SB_WARN)) ≤ used * 100
  let b2 := if warn && !w.sbWarned then (b1.setWb { b1.k.wb with sbWarned := true }).raise 231 else b1
  if bud ≤ used && !b.on F.WBG_STAT_SB_EXH then (b2.put F.WBG_STAT_SB_EXH 1).raise 232 else b2

/-- The KC power over the last 10 µs is `p` mW (R223, R238, R241). -/
def Blk.kcPower (b : Blk) (p : Nat) : Blk :=
  let ovr := if b.limKc < p then min 5 (b.k.wb.ovr + 1) else 0
  let b1 := b.setWb { b.k.wb with pMeas := p, ovr := ovr }
  let b2 := if b1.k.wb.course && !b1.excess then b1.setWb { b1.k.wb with course := false } else b1
  let b3 := if ovr = 5 then b2.courseBegin 224 else b2
  (if b3.fld F.SYSCTL_PWR_STATE = 3 then b3.standbyCount (10 * p) else b3).dispSyncAll

/-- 50 µs have passed since the last action of a course (R238). -/
def Blk.courseNext (b : Blk) : Blk :=
  if b.k.wb.course && b.excess && b.k.wb.actAt + 50 * tickUs ≤ b.clk then b.courseAct else b

/-- One step of the model for a node in 10^-12 °C (R228), with the difference of its sensor that it then adds a
quarter of: `num` ÷ `den` is 10^5 ÷ C for the unit of the power, `tau` is R × C ÷ 100 µs, `lid` is in m°C. -/
def nodeStep (t p : Int) (num den tau : Nat) (lid sensor : Int) : Int × Int :=
  let t1 := t + roundDiv (p * num) den - roundDiv (t - lid * 1000000000) tau
  (t1 + roundDiv (sensor - t1) 4, sensor - t1)

/-- Node `j` differs from its sensor by `d`: FS235 after 10 ms beyond 10 K (R228). -/
def Blk.nodeDiff (b : Blk) (j : Nat) (d : Int) : Blk :=
  let w := b.k.wb
  if d.natAbs ≤ 10 * 10 ^ 12 then
    b.setWb { w with diff := w.diff.set (fun _ => none) j none, told := w.told.set (fun _ => false) j false }
  else
    match w.diff.get (fun _ => none) j with
    | none => b.setWb { w with diff := w.diff.set (fun _ => none) j (some b.clk) }
    | some t =>
      if t + 10 * tickMs ≤ b.clk && !w.told.get (fun _ => false) j then
        (b.setWb { w with told := w.told.set (fun _ => false) j true }).raise 235 j
      else b

/-- A temperature in m°C as a byte of WBG_TEMP (R259). -/
def tempByte (t : Int) : Nat := (max 0 (min 255 (roundDiv t 1000 + 50))).toNat

/-- Node `j` stands above its limit or not: FS229 as it rises above it (R229, R249). -/
def Blk.nodeHot (b : Blk) (j : Nat) (hot : Bool) : Blk :=
  let w := b.k.wb
  let b1 := b.setWb { w with hot := if hot then w.hot.insert j else w.hot.erase j }
  if hot && !w.hot.contains j then b1.raise 229 else b1

/-- A thermal model update with the sensors of KC, UH and the lid in m°C; the sensor of BF is the mean of the
DIE_TJ values, and its power that of the field logic and P_cond, in 2^-35 mW (R227, R228). KC above its limit begins a course of revocation, at whose first action FS229 is raised
(R238), or has FS229 raised in the course that runs (R229). -/
def Blk.thermal (b : Blk) (kc uh lid : Int) : Blk :=
  let w := b.k.wb
  let kcS := kc * 1000000000
  let uhS := uh * 1000000000
  let x1 := if w.run then nodeStep w.tKc w.pMeas 1000000 9 3150 lid kcS else (kcS, 0)
  let x2 := if w.run then nodeStep w.tUh w.pUh 1000000 3 12000 lid uhS else (uhS, 0)
  let x3 := if w.run then nodeStep w.tBf (w.pFl * 2 ^ 35 + w.pCond) 50000 (3 * 2 ^ 35) 36000 lid b.bfSensor else (b.bfSensor, 0)
  let b1 := b.setWb { w with run := true, tKc := x1.1, tUh := x2.1, tBf := x3.1, tLid := lid }
  let zero := b1.lidZeroAt ≤ lid
  let b2 := b1.setWb { b1.k.wb with lidZero := zero }
  let b3 := if zero && !w.lidZero then b2.raise 230 else b2
  let b4 := ((b3.nodeDiff 0 x1.2).nodeDiff 1 x2.2).nodeDiff 2 x3.2
  let b5 := (((b4.put F.WBG_TEMP_KC (tempByte (roundDiv x1.1 1000000000))).put F.WBG_TEMP_UH
    (tempByte (roundDiv x2.1 1000000000))).put F.WBG_TEMP_LID (tempByte lid)).put F.WBG_TEMP_BF
    (tempByte (roundDiv x3.1 1000000000))
  let b6 := (b5.nodeHot 1 (decide (125 * 10 ^ 12 < x2.1))).nodeHot 2
    (decide (b5.bfTlim * 1000000000 < x3.1))
  let kcHot := b6.kcTlim * 1000000000 < x1.1
  if kcHot && !b6.k.wb.course then
    (b6.setWb { b6.k.wb with hot := b6.k.wb.hot.insert 0 }).courseBegin 229
  else
    let b7 := b6.nodeHot 0 kcHot
    if b7.k.wb.course && !b7.excess then b7.setWb { b7.k.wb with course := false } else b7

/-- The reports of the field dies reach the weighbridge (R224, R230): P_cond, the bank currents, COND_OVER and
FS226. While KC is down or in reset there is no weighbridge that takes them (R269). -/
def Blk.dissipation (b : Blk) : Blk :=
  let b1 := (List.range 12).foldl Blk.report b
  if !b.kcRun then b1 else
  let p := ((List.range 12).map (fun n => (b1.dieOf n).rep)).sum
  let cur := fun (n : Nat) => ((List.range 16).map (fun j => ((b1.chanOf (16 * n + j)).samples.take 125).sum)).sum
  let bank := (List.range 12).foldl (fun (m : Sparse Int) n => m.set (fun _ => 0) n (cur n)) []
  let b2 := b1.setWb { b1.k.wb with pCond := p, bank := bank }
  let ovr := b2.condLim < p
  let b3 := b2.putB F.WBG_STAT_COND_OVER ovr
  if ovr && !b.on F.WBG_STAT_COND_OVER then b3.raise 226 else b3

/-- The monitors of UH and the field logic report `uh` and `fl` mW (R223, R241). -/
def Blk.budget (b : Blk) (uh fl : Nat) : Blk :=
  let w := b.k.wb
  let uo := min 0x14 (b.fld F.WBG_LIM_UH) * 100 < uh
  let fo := min 0x28 (b.fld F.WBG_LIM_FL) * 100 < fl
  let b1 := b.setWb { w with pUh := uh, pFl := fl, uhOver := uo, flOver := fo }
  let b2 := if (uo && !w.uhOver) || (fo && !w.flOver) then b1.raise 225 else b1
  if b2.fld F.SYSCTL_PWR_STATE = 3 then b2.standbyCount (1000 * (uh + fl)) else b2

/-! ## Slot requests -/

/-- The context of an initiator; the boot ROM and the debug block are CTX000 (R522). -/
def Blk.ctxOf (b : Blk) (i : Init) : Nat := ((b.attr i).getD (true, 0)).2

/-- The slot is claimed by the writer (R240, R262). -/
def Blk.claim (b : Blk) (i : Init) (k st : Nat) : Blk :=
  let c := b.ctxOf i
  ((b.put (F.WBG_SLOT_STAT_CTX k) c).put (F.WBG_SLOT_STAT_CLASS k) (b.classOf c)).slotState k st

/-- A slot's request arrives at the weighbridge. -/
def Blk.slotAsk (b : Blk) (i : Init) (k kind step power : Nat) : Blk :=
  let a : Ask := { id := b.nreq, kind := kind, unit := k, ctx := b.ctxOf i, peak := step, power := power, since := b.clk }
  ({ b with nreq := b.nreq + 1 }.setWb { b.k.wb with new := b.k.wb.new ++ [a] }).claim i k 1

/-- The power of step `st` in mW (R254). -/
def Blk.stepPower (b : Blk) (st : Nat) : Nat :=
  ((b.reg R.WBG_FPWR).extractLsb' (8 * (st % 4)) 8).toNat * 500

/-- A frequency step request (R239). -/
def Blk.freqReq (b : Blk) (i : Init) (k step : Nat) : Blk :=
  let cur := b.fld F.WBG_STAT_STEP
  let st := b.fld F.SYSCTL_PWR_STATE
  if cur ≤ step then (b.put F.WBG_STAT_STEP step).claim i k 6
  else if st = 2 ∨ st = 3 ∨ b.on F.WBG_STAT_HELD_LOW = true then b.claim i k 4
  else b.slotAsk i k 2 step (b.stepPower step - b.stepPower cur)

/-- A write of WBG_SLOT_REQ (R261). -/
def Blk.slotReq (b : Blk) (i : Init) (k kind step dp : Nat) : Blk :=
  if b.on (F.WBG_SLOT_STAT_STATE k) then b
  else if kind = 1 then b.freqReq i k step
  else if kind = 2 then b.slotAsk i k 3 0 (dp * 10)
  else b.claim i k 4

/-- A write of 1 to WBG_SLOT_REL.REL (R237, R240). The grant of a frequency step stays without its slot. -/
def Blk.slotRel (b : Blk) (k : Nat) : Blk :=
  let st := b.fld (F.WBG_SLOT_STAT_STATE k)
  let mine := fun (a : Ask) => (a.kind == 2 || a.kind == 3) && a.unit == k
  if st = 0 then b
  else if st = 1 then
    b.setWb { b.k.wb with
      new := b.k.wb.new.filter (fun a => !mine a), withdrawn := b.k.wb.withdrawn ++ [k] }
  else { b.slotState k 0 with
    wbgQueue := b.wbgQueue.filter (fun a => !mine a)
    wbgGrants := (b.wbgGrants.filter (fun a => !(a.kind == 3 && a.unit == k))).map (fun a =>
      if a.kind = 2 ∧ a.unit = k then { a with unit := 16 } else a) }

/-! ## Meanings -/

/-- The field dies report their dissipation (R224). -/
def execDissipationReport (s : State) : Host.Outcome State Fault Refusal :=
  onBlk true s (fun b => b.dissipation)

/-- An evaluation round (R233). -/
def execEvaluationRound (s : State) : Host.Outcome State Fault Refusal := onBlk true s Blk.round

/-- The KC power over the last 10 µs is `p` mW (R223). -/
def execKcPowerMeasurement (p : Nat) (s : State) : Host.Outcome State Fault Refusal :=
  onBlk true s (fun b => if b.kcRun then b.kcPower p else b)

/-- A further action of a course of revocation (R238). -/
def execRevocationAction (s : State) : Host.Outcome State Fault Refusal := onBlk true s Blk.courseNext

/-- A thermal model update; sensor readings in m°C (R228). The reading of BF is the mean of the DIE_TJ values, which
the state holds (R227), so the command's third operand has no effect (log 92). -/
def execThermalModelUpdate (kc uh _bf lid : Int) (s : State) : Host.Outcome State Fault Refusal :=
  onBlk true s (fun b => if b.kcRun then b.thermal kc uh lid else b)

/-- Every millisecond, the powers of UH and the field logic in mW (R223). -/
def execBudgetReport (uh fl : Nat) (s : State) : Host.Outcome State Fault Refusal :=
  onBlk true s (fun b => if b.kcRun then b.budget uh fl else b)

/-- A write of WBG_SLOT_REQ with KIND 1 (R239). -/
def execFrequencyStepRequest (i : Init) (k step : Nat) (s : State) : Host.Outcome State Fault Refusal :=
  onBlk (k < 16) s (fun b => b.onWrite i (R.WBG_SLOT_REQ k)
    ((F.WBG_SLOT_REQ_KIND k).word 1 ||| (F.WBG_SLOT_REQ_STEP k).word step) (fun b => b.slotReq i k 1 (step % 4) 0))

/-- A write of WBG_SLOT_REQ with KIND 2 (R240). -/
def execMramBulkWriteRequest (i : Init) (k dp : Nat) (s : State) : Host.Outcome State Fault Refusal :=
  onBlk (k < 16) s (fun b => b.onWrite i (R.WBG_SLOT_REQ k)
    ((F.WBG_SLOT_REQ_KIND k).word 2 ||| (F.WBG_SLOT_REQ_DP k).word dp) (fun b => b.slotReq i k 2 0 (dp % 65536)))

/-- A write of WBG_SLOT_REQ with another KIND (R261). -/
def execSlotRequestInvalid (i : Init) (k kind : Nat) (s : State) : Host.Outcome State Fault Refusal :=
  onBlk (k < 16) s (fun b => b.onWrite i (R.WBG_SLOT_REQ k)
    ((F.WBG_SLOT_REQ_KIND k).word (if kind % 16 = 1 ∨ kind % 16 = 2 then 0 else kind % 16)) (fun b =>
    b.slotReq i k (if kind % 16 = 1 ∨ kind % 16 = 2 then 0 else kind % 16) 0 0))

/-- A write of 1 to WBG_SLOT_REL.REL (R240). -/
def execSlotRelease (i : Init) (k : Nat) (s : State) : Host.Outcome State Fault Refusal :=
  onBlk (k < 16) s (fun b => b.onWrite i (R.WBG_SLOT_REL k) 1 (fun b => b.slotRel k))

end Sys2Proof.Machine
end

