-- ==== Sys2Proof/Machine/Dispatcher.lean ====
section
/-!
DEFINITION. Machine/Dispatcher.lean: the dispatcher of the safety cores SC0 to SC7, n = 0 to 7 (R243 to
R248).
-/

namespace Sys2Proof.Machine

/-! ## Tasks -/

/-- Task `i` of core `n` is released (R244), unless its context waits for a restart (R643). -/
def Blk.release (b : Blk) (n i : Nat) : Blk :=
  let d := b.dispOf n
  if b.entEn n i = false || (b.fld (F.FCU_RST_PEND_RST (b.entCtx n i / 32))).testBit (b.entCtx n i % 32) then b
  else if d.ready.contains i || (b.on (F.DISP_STAT_RUNNING n) && b.fld (F.DISP_STAT_RUN_IDX n) == i) then
    (b.incSat (F.DISP_CNT_OVERRUN n)).raise 233 n
  else (b.setDisp n { d with ready := d.ready ++ [i] }).dispSync n

/-- The period of entry `i` in ns; 0 for one that no period releases (R243). -/
def Blk.entPeriod (b : Blk) (n i : Nat) : Nat :=
  let w := b.ent n i 2
  if w.testBit 31 then 0 else w * 1000

/-- A periodic release is due: TB0 has reached a multiple of the period and the task has not been released at
it or later (R244, R430). -/
def Blk.periodic (b : Blk) (n i : Nat) : Blk :=
  let per := b.entPeriod n i
  let d := b.dispOf n
  let q := b.now / (max 1 per)
  if b.on (F.DISP_CTL_EN n) && per != 0 && d.start ≤ q * per && d.last.get (fun _ => 0) i ≤ q * per then
    (b.setDisp n { d with last := d.last.set (fun _ => 0) i (q * per + 1) }).release n i
  else b

/-- Does the dispatcher of core `n` consume identity `id` (R244, R493)? -/
def Blk.consumes (b : Blk) (n id : Nat) : List Nat :=
  if b.on (F.DISP_CTL_EN n) then
    (List.range 1024).filter (fun i =>
      b.entEn n i && (b.ent n i 2).testBit 31 && b.ent n i 2 % 2048 == id && id != 0)
  else []

/-- Identity `id` is delivered to core `n`'s M-level file (R244, R489, R493). -/
def Blk.deliverSc (b : Blk) (n id : Nat) : Blk :=
  match b.consumes n id with
  | [] => b.fileSet (mFile (16 + n)) id
  | l => l.foldl (fun x i => x.release n i) b

/-- Task `i` begins on core `n` in M-mode (R243, R245, R527), which ends a WFI of the core and on a Recut core begins a
slice; what a task in whose place it runs has accrued stays (R246). -/
def Blk.begin (b : Blk) (n i : Nat) (forced : Bool) : Blk :=
  let d := b.dispOf n
  let h := 16 + n
  let c := b.entCtx n i
  let acc := match d.held with
    | some (j, t) => d.acc.set (fun _ => 0) j (d.acc.get (fun _ => 0) j + (b.clk - t))
    | none => d.acc
  let b1 := b.setDisp n { d with
    ready := d.ready.erase i
    held := none
    acc := acc.set (fun _ => 0) i 0
    force := if d.force = some i then none else d.force }
  let b2 := ((b1.put (F.DISP_STAT_RUN_IDX n) i).put (F.DISP_STAT_RUNNING n) 1).putB (F.DISP_STAT_FORCED n) forced
  let x := ((b2.hartOf h).setX 10 (b.ent n i 1)).setX 11 i
  let b3 := (b2.setHart h (({ x with
    ctx := c
    w := b.ctxSecure c
    prv := 3
    gated := false } : Hart).goTo (b.ent n i 0))).put (F.SYSCTL_HART_STAT_STATE h) 1
  (if b3.recut h then b3.newSlice h else b3).dispSyncAll

/-- Core `n` runs and no task runs on it. -/
def Blk.scIdle (b : Blk) (n : Nat) : Bool :=
  b.kcRun && b.on (F.DISP_CTL_EN n) && !b.on (F.DISP_STAT_RUNNING n) &&
    (b.hartState (16 + n) == 1 || b.hartState (16 + n) == 2)

/-- An idle core takes its next task (R245); one that the cluster was forced down for fits (R246). -/
def Blk.dispatch (b : Blk) (n : Nat) : Blk :=
  if b.scIdle n then
    match b.best n ((b.dispOf n).ready.filter (fun i => b.taskFits n i || (b.dispOf n).force == some i)) with
    | some i => (b.dispSync n).begin n i ((b.dispOf n).force == some i)
    | none => b.dispSync n
  else b

/-- The deferral of the highest-priority ready task has reached DEFER_MAX, or the cluster does not run
(R246). -/
def Blk.deferred (b : Blk) (n i : Nat) : Bool :=
  let d := b.dispOf n
  let t := d.acc.get (fun _ => 0) i + (match d.held with
    | some (j, s) => if i = j then b.clk - s else 0
    | none => 0)
  b.entDefer n i != 0 && (b.entDefer n i * 100 * tickUs ≤ t || !b.clusterRuns)

/-- The cluster is forced to step 3 for task `i` of core `n`, once (R246). -/
def Blk.forceLow (b : Blk) (n i : Nat) : Blk :=
  if (b.dispOf n).force = some i then b
  else
    let b1 := ((b.put F.WBG_STAT_STEP 3).put F.WBG_STAT_HELD_LOW 1).incSat (F.DISP_CNT_FORCED_CNT n)
    (b1.setDisp n { b1.dispOf n with force := some i }).raise 234 n

/-- At the deferral bound of its first ready task the cluster goes to step 3, and the task is dispatched once the
core is idle (R246). -/
def Blk.forceDispatch (b : Blk) (n : Nat) : Blk :=
  match b.best n (b.dispOf n).ready with
  | none => b
  | some i =>
    if b.kcRun && b.on (F.DISP_CTL_EN n) && !b.taskFits n i && b.deferred n i then
      let b1 := b.forceLow n i
      if b1.scIdle n then b1.begin n i true else b1
    else b

/-- HELD_LOW falls once no task that the cluster was forced down for waits or runs (R246). -/
def Blk.lowEnd (b : Blk) : Blk :=
  if (List.range 8).any (fun m =>
      (b.dispOf m).force.isSome || (b.on (F.DISP_STAT_RUNNING m) && b.on (F.DISP_STAT_FORCED m))) then b
  else b.put F.WBG_STAT_HELD_LOW 0

/-- A write of DISP_CTL (R264). -/
def Blk.dispCtl (b : Blk) (n : Nat) (v : W32) : Blk :=
  let b1 := b.writeReg (R.DISP_CTL n) v
  if b1.on (F.DISP_CTL_EN n) && !b.on (F.DISP_CTL_EN n) then
    (b1.setDisp n { b.dispOf n with start := b.now }).put (F.SYSCTL_HART_STAT_DISP (16 + n)) 1
  else b1.put (F.SYSCTL_HART_STAT_DISP (16 + n)) (b1.fld (F.DISP_CTL_EN n))

/-- The running task of core `n` ends (R246, R247). -/
def Blk.endTask (b : Blk) (n : Nat) : Blk :=
  if b.on (F.DISP_STAT_RUNNING n) then
    let b1 := ((b.put (F.DISP_STAT_RUNNING n) 0).put (F.DISP_STAT_PREEMPT_REQ n) 0).put (F.DISP_STAT_FORCED n) 0
    (if b.on (F.DISP_STAT_FORCED n) then b1.lowEnd else b1).dispSyncAll
  else b

/-- What a write of `v` to RELEASE (word 2) holds: bits 30:11 are reserved while bit 31 is set (R243). -/
def releaseWord (w : Nat) (v : W32) : W32 := if w = 2 ∧ v.getLsbD 31 then v &&& 0x800007ff else v

/-- A write of word `w` of entry `i` at run time (R248, R527). One that names a context that does not exist (R243) is
ignored as the one of R527 is (DEDUCED from R523, assumption 106). -/
def Blk.tableWrite (b : Blk) (n i w : Nat) (v : W32) : Blk :=
  let d := b.dispOf n
  let busy := d.ready.contains i || (b.on (F.DISP_STAT_RUNNING n) && b.fld (F.DISP_STAT_RUN_IDX n) == i)
  let c := v.toNat % 256
  let bad := w == 3 && (!b.ctxExists c || (b.ctxSecure c && !b.ctxSecure (b.ownOf 0x01 2).ctx))
  if bad || (busy && !(w == 3 && !v.getLsbD 27)) then b.put (F.DISP_STAT_WR_IGN n) 1
  else
    let b1 := b.writeReg (R.DISP_ENT n i w) (releaseWord w v)
    if busy then
      let out := d.force == some i && d.ready.contains i
      let b2 := b1.setDisp n { d with
        ready := d.ready.erase i
        force := if out then none else d.force }
      (if out then b2.lowEnd else b2).dispSync n
    else b1

/-! ## Meanings -/

/-- TB0 reaches a multiple of the period of entry `i` of core `n` (R244). -/
def execPeriodicRelease (n i : Nat) (s : State) : Host.Outcome State Fault Refusal :=
  onBlk (n < 8 && i < 1024) s (fun b => b.periodic n i)

/-- Identity `id` is delivered to core `n` (R244). -/
def execEventRelease (n id : Nat) (s : State) : Host.Outcome State Fault Refusal :=
  onBlk (n < 8) s (fun b => if b.kcRun then b.deliverSc n id else b)

/-- A write of DISP_RELEASE of core `n` (R267). -/
def execDispRelease (i : Init) (n idx : Nat) (s : State) : Host.Outcome State Fault Refusal :=
  onBlk (n < 8) s (fun b => b.onWrite i (R.DISP_RELEASE n) ((F.DISP_RELEASE_IDX n).word idx) (fun b => b.release n (idx % 1024)))

/-- Core `n` is idle and takes the next ready task that fits (R245). -/
def execDispatch (n : Nat) (s : State) : Host.Outcome State Fault Refusal :=
  onBlk (n < 8) s (fun b => b.dispatch n)

/-- The deferral bound of core `n`'s first ready task is reached (R246). -/
def execDeferralBoundDispatch (n : Nat) (s : State) : Host.Outcome State Fault Refusal :=
  onBlk (n < 8) s (fun b => b.forceDispatch n)

/-- A write of word `w` of entry `idx` of core `n`'s table (R248). -/
def execDispTableWrite (i : Init) (n idx w : Nat) (v : W32) (s : State) :
    Host.Outcome State Fault Refusal :=
  onBlk (n < 8 && idx < 1024 && w < 4) s (fun b =>
    b.onWrite i (R.DISP_ENT n idx w) v (fun b => b.tableWrite n idx w v))

end Sys2Proof.Machine
end

