-- ==== Sys2Proof/Machine/Memory.lean ====
section
/-!
DEFINITION. Machine/Memory.lean: the memory regions, the caches, the page ownership table and the accesses to memory
(R22, R39, R473 to R482, R530 to R536).
-/

namespace Sys2Proof.Machine

/-! ## Regions and the POT -/

/-- The memory regions of R22; a TCM with its core and whether the address lies in the ITCM. -/
inductive Region where
  | rom | sram | mram | dram
  | tcm (n : Nat) (itcm : Bool)
deriving DecidableEq, Repr

/-- The memory region that holds address `a`. -/
def regionOf (a : Nat) : Option Region :=
  if a < 0x40000 then some .rom
  else if 0x08000000 ≤ a ∧ a < 0x08800000 then some .sram
  else if 0x0c000000 ≤ a ∧ a < 0x0c200000 then
    some (.tcm ((a - 0x0c000000) / 0x40000) ((a - 0x0c000000) % 0x40000 < 0x20000))
  else if 0x10000000 ≤ a ∧ a < 0x11000000 then some .mram
  else if 0x100000000 ≤ a ∧ a < 0x500000000 then some .dram
  else none

/-- Does the address lie in control space or field space? -/
def isDevice (a : Nat) : Bool := 0x40000000 ≤ a && a < 0x54000000

/-- May hart `h` execute from address `a` (R475)? -/
def mayExec (h a : Nat) : Bool :=
  match regionOf a with
  | some .rom | some .sram => isSafety h
  | some (.tcm n itcm) => isSafety h && n == h - 16 && itcm
  | some .dram => isApp h
  | _ => false

/-- A fetch that the region does not permit its hart (R475): it takes its exception without being judged. Fetches
from the fixed regions of R531 are judged there (DEDUCED, assumption 99). -/
def fetchBarred (i : Init) (a : Nat) : Bool :=
  let no (h : Nat) : Bool := !mayExec h a
  match regionOf a, i with
  | none, _ | some .rom, _ | _, .debug => false
  | some .mram, _ => 0x10420000 ≤ a
  | _, .hart h => no h
  | _, .boot => no 16

/-- The POT index of the page that holds `a` (R530). -/
def potIndex (a : Nat) : Nat :=
  match regionOf a with
  | some .dram => (a - 0x100000000) / 4096
  | some .sram => 0x400000 + (a - 0x08000000) / 4096
  | some (.tcm _ _) => 0x400800 + (a - 0x0c000000) / 4096
  | some .mram => 0x400a00 + (a - 0x10000000) / 4096
  | _ => 0

/-- The target whose POT cache judges the page with index `i`, and that of `a` (R535). -/
def potTargetOf (i : Nat) : Nat :=
  if i < 0x400000 then Config.dramChannel i % 4
  else if i < 0x400800 then 4
  else if i < 0x400a00 then 6 + (i - 0x400800) / 64
  else 5
def potTarget (a : Nat) : Nat := potTargetOf (potIndex a)

/-- SEC_POT_BASE (R531). -/
def Blk.potBase (b : Blk) : Nat :=
  b.fld F.SEC_POT_BASE_HI_BASE * 2 ^ 32 + b.fld F.SEC_POT_BASE_LO_BASE * 2 ^ 16

/-- Does `a` lie in a page that holds the POT? -/
def Blk.inPot (b : Blk) (a : Nat) : Bool := b.potBase ≤ a && a < b.potBase + 0x1007000

/-- Byte `k` of a number. -/
def byteOf (v k : Nat) : Nat := v / 256 ^ k % 256

/-- CHK of R533 for entry bits 23:0 and the index. -/
def potChk (e i : Nat) : Nat :=
  (0x5a ^^^ byteOf e 0 ^^^ byteOf e 1 ^^^ byteOf e 2 ^^^ byteOf i 0 ^^^ byteOf i 1 ^^^ byteOf i 2 ^^^
    byteOf i 3) % 256

/-- Does an entry at index `i` pass its check (R533)? -/
def potOk (e : W32) (i : Nat) : Bool := e.toNat / 2 ^ 24 == potChk e.toNat i && e.toNat % 256 == 0

/-- The rules of R534 from the third on, for an entry that passed its check: the reason of a refusal. -/
def judgeEntry (e : W32) (sec : Bool) (ctx : Nat) (k : Acc) (part : Bool) : Option Nat :=
  let owner := e.toNat / 2 ^ 16 % 256
  let psec := e.getLsbD 14
  let perm := match k with
    | .read | .devRead => e.getLsbD 10
    | .write | .devWrite => e.getLsbD 11
    | .atomic => e.getLsbD 10 && e.getLsbD 11
    | .fetch => e.getLsbD 12
  let byPerm := if perm then none else some 6
  if !e.getLsbD 15 then some 3
  else if !sec && psec then some 2
  else if (k == .devRead || k == .devWrite) && !e.getLsbD 9 then some 5
  else if k == .fetch then (if perm && ctx == owner && sec == psec then none else some 6)
  else if ctx == owner || ctx == 0 then byPerm
  else if ctx == 1 && part && !psec then byPerm
  else if e.getLsbD 8 && e.getLsbD 10 && (k == .read || k == .devRead) && (sec == psec || sec) then none
  else some 1

/-- The verdict on a memory access. -/
inductive Judged where
  | accept
  | busError
  | refuse (reason src : Nat)
  | byEntry
deriving DecidableEq, Repr

/-- The copy of the bench plan that holds `a`, 0 or 1, none outside the copies (R39). -/
def planCopy (a : Nat) : Option Nat :=
  if 0x10000000 ≤ a ∧ a < 0x10200000 then some 0
  else if 0x10200000 ≤ a ∧ a < 0x10400000 then some 1
  else none

/-- Does an access read, and does it write? -/
def accReads (k : Acc) : Bool := k == .read || k == .devRead || k == .atomic
def accWrites (k : Acc) : Bool := k == .write || k == .devWrite || k == .atomic

/-- The fixed rules of R531 and R39, or the page's entry. `sc` says that a safety hart makes it, with
its number. DESIGN CHOICE (log 103): an LR, as every atomic, counts as a write to the active plan copy and to the
journal; R534 says so of pages with an entry only. -/
def Blk.judgeFixed (b : Blk) (sec : Bool) (ctx : Nat) (k : Acc) (a : Nat) (sc : Option Nat) : Judged :=
  let no := Judged.refuse 8 193
  match regionOf a with
  | none => .busError
  | some .rom =>
    if accWrites k then .busError
    else if k == .fetch then (if sec && sc.isSome then .accept else no)
    else if sec then .accept else no
  | some .mram =>
    if a < 0x10400000 then
      if k == .fetch then no
      else if accWrites k && planCopy a == some (b.fld F.BPL_STATUS_ACTIVE) then .refuse 8 203
      else if ctx != 0 then no
      else if !accWrites k then .accept
      else if b.on F.BPL_STAGE_STAGE && !b.on F.BPL_CHECK_BUSY then .accept else no
    else if a < 0x10408000 then (if ctx == 0 && accReads k && !accWrites k then .accept else no)
    else if a < 0x10410000 then .busError
    else if a < 0x10420000 then no
    else if b.on F.SEC_POT_CTL_EN then .byEntry else if sec then .accept else .refuse 7 193
  | some .dram =>
    if b.inPot a then (if ctx == 0 && k != .fetch then .accept else no)
    else if b.on F.SEC_POT_CTL_EN then .byEntry else if sec then .accept else .refuse 7 193
  | some _ =>
    if b.on F.SEC_POT_CTL_EN then .byEntry else if sec then .accept else .refuse 7 193

/-! ## POT caches -/

/-- The set of target `t` that holds index `i`. -/
def potSet (t i : Nat) : Nat := 256 * t + i % 256

/-- The entries of that set. -/
def Blk.potWays (b : Blk) (t i : Nat) : List (Nat × W32) := b.k.pot.get (fun _ => []) (potSet t i)

def Blk.setPotWays (b : Blk) (t i : Nat) (l : List (Nat × W32)) : Blk :=
  { b with k := { b.k with pot := b.k.pot.set (fun _ => []) (potSet t i) l } }

/-- The entry that target `t` holds for index `i`. -/
def Blk.potHit (b : Blk) (t i : Nat) : Option W32 :=
  ((b.potWays t i).find? (fun e => e.1 == i)).map (·.2)

/-- Entry `e` becomes the most recently used of its set; the least recently used of five goes (R535). -/
def Blk.potUse (b : Blk) (t i : Nat) (e : W32) : Blk :=
  b.setPotWays t i (((i, e) :: (b.potWays t i).filter (fun x => x.1 != i)).take 4)

/-- The words of an access of `n` bytes at `a`, of 4 bytes in a TCM, else of 8 (R475). -/
def eccWord (a : Nat) : Nat :=
  match regionOf a with
  | some (.tcm _ _) => a / 4 * 4
  | _ => a / 8 * 8
def wordsOf (a n : Nat) : List Nat := if eccWord a = eccWord (a + n - 1) then [eccWord a]
  else [eccWord a, eccWord (a + n - 1)]

/-- Does a read of `n` bytes at `a` find a poisoned word? -/
def Blk.poisoned (b : Blk) (a n : Nat) : Bool := (wordsOf a n).any b.poison.contains

/-- The entry of index `i` in DRAM. One in a poisoned word fails its check (DESIGN CHOICE, assumption 99). -/
def Blk.potEntry (b : Blk) (m : List Host.Cell) (i : Nat) : W32 :=
  let a := b.potBase + 4 * i
  if b.poisoned a 4 then 0xff else BitVec.ofNat 32 (memLe m a 4)

/-- The POT's judgement with entry `e`: reason and source of a refusal. -/
def potJudge (e : W32) (i : Nat) (sec : Bool) (ctx : Nat) (k : Acc) : Judged :=
  if potOk e i then
    match judgeEntry e sec ctx k (2 ≤ e.toNat / 2 ^ 16 % 256) with
    | none => .accept
    | some r => .refuse r 193
  else .refuse 4 192

/-- A miss fetches the aligned 64-byte line of the POT and is counted (R533, R535): every entry of it that passes its
check and whose page the target serves is cached, that of index `i` as the most recently used. -/
def Blk.potFetch (b : Blk) (m : List Host.Cell) (t i : Nat) : W32 × Blk :=
  let keep (x : Blk) (j : Nat) : Blk :=
    let e := b.potEntry m j
    if potOk e j then x.potUse t j e else x
  let near := ((List.range 16).map (fun j => i / 16 * 16 + j)).filter (fun j =>
    j != i && j < 0x401a00 && potTargetOf j == t && (b.potHit t j).isNone)
  (b.potEntry m i, keep (near.foldl keep (b.incWrap F.SEC_POT_MISS_MISS)) i)

/-! ## Caches -/

/-- The caches that an access of initiator `i` looks in, the nearest first (R473, R475). -/
def cachesOf (i : Init) (k : Acc) : List Nat :=
  match i with
  | .hart h => if isApp h then [if k == .fetch then h else 8 + h, 16 + h / 4, 18] else [18]
  | _ => [18]

/-- Sets and ways of a cache with lines of 64 bytes (R473). -/
def cacheSets (c : Nat) : Nat := if c < 16 then 256 else if c < 18 then 1024 else 8192
def cacheWays (c : Nat) : Nat := if c < 16 then 4 else 16

/-- The cluster of an L1 or L2. -/
def clusterOf (c : Nat) : Nat := if c < 16 then c % 8 / 4 else c - 16

/-- The set of cache `c` that holds `a`, and its lines. -/
def lineSet (c a : Nat) : Nat := 65536 * c + a / 64 % cacheSets c
def Blk.linesOf (b : Blk) (c a : Nat) : List Line := b.k.cache.get (fun _ => []) (lineSet c a)

def Blk.setLines (b : Blk) (c a : Nat) (l : List Line) : Blk :=
  { b with k := { b.k with cache := b.k.cache.set (fun _ => []) (lineSet c a) l } }

/-- The copy of the POT entry under which the nearest cache of `l` that holds the line of `a` filled it (R535). -/
def Blk.lineHit (b : Blk) (l : List Nat) (a : Nat) : Option W32 :=
  if regionOf a = some .dram then
    (l.findSome? (fun c => (b.linesOf c a).find? (fun x => x.at64 == a / 64))).map (·.entry)
  else none

/-- The lines for which `p` holds, given the cache, leave it or lose their copy. -/
def Blk.lineDrop (b : Blk) (p : Nat → Line → Bool) : Blk :=
  { b with k := { b.k with cache :=
      (b.k.cache.map (fun e => (e.1, e.2.filter (fun x => !p (e.1 / 65536) x)))).filter (fun e => e.2 != []) } }

/-- The line of `a` comes into cache `c`, where it is not there. The line that it replaces is a free value (assumption
99); one that an L2 loses leaves the L1s of its cluster. -/
def Blk.lineFill (sec : Bool) (ctx : Nat) (e : W32) (a : Nat) (b : Blk) (c : Nat) : Blk :=
  let l := b.linesOf c a
  let new : Line := ⟨a / 64, sec, ctx, e⟩
  if l.any (fun x => x.at64 == a / 64) then b
  else if l.length < cacheWays c then b.setLines c a (new :: l)
  else
    let v := b.draw.1 % cacheWays c
    let b1 := b.draw.2.setLines c a (new :: l.eraseIdx v)
    match l[v]? with
    | some x => if c = 16 ∨ c = 17 then b1.lineDrop (fun d y => d < 16 && clusterOf d == c - 16 && y.at64 == x.at64) else b1
    | none => b1

/-- A write at `a` by application hart `own`, or by another initiator, takes the line from the other L1 data caches and
the other cluster (R473, R474). -/
def Blk.lineSnoop (b : Blk) (a : Nat) (own : Option Nat) : Blk :=
  if b.k.cache == [] then b
  else b.lineDrop (fun c x => x.at64 == a / 64 && c < 18 &&
    match own with
    | some h => !isApp h || clusterOf c != h / 4 || (8 ≤ c && c < 16 && c != 8 + h)
    | none => true)

/-- The judgement of an access by entry `e` of its page; the caches `l` that it may fill take the line with it. L1 data
caches do not allocate for a write (R473). -/
def Blk.judgeWith (b : Blk) (l : List Nat) (sec : Bool) (ctx : Nat) (k : Acc) (a : Nat) (e : W32) : Judged × Blk :=
  match potJudge e (potIndex a) sec ctx k with
  | .accept =>
    (.accept, if regionOf a = some .dram then
        (l.filter (fun c => 16 ≤ c || !accWrites k)).reverse.foldl (Blk.lineFill sec ctx e a) b
      else b)
  | v => (v, b)

/-- The entry that judges an access without a fetch: a line's copy, or that of the target's POT cache (R535). -/
def Blk.entryHit (b : Blk) (l : List Nat) (a : Nat) : Option (W32 × Blk) :=
  match b.lineHit l a with
  | some e => some (e, b)
  | none => (b.potHit (potTarget a) (potIndex a)).map (fun e => (e, b.potUse (potTarget a) (potIndex a) e))

/-- The judgement of an access whose miss, if any, is fetched at once: a device, or a core in Recut mode; `l` are the
caches that it looks in. -/
def Blk.judgeNow (b : Blk) (m : List Host.Cell) (sec : Bool) (ctx : Nat) (k : Acc) (a : Nat)
    (sc : Option Nat) (l : List Nat := [18]) : Judged × Blk :=
  match b.judgeFixed sec ctx k a sc with
  | .byEntry =>
    let r := (b.entryHit l a).getD (b.potFetch m (potTarget a) (potIndex a))
    r.2.judgeWith l sec ctx k a r.1
  | v => (v, b)

/-- SEC_REF_HI.KIND of an access (R547). -/
def accCode (k : Acc) : Nat :=
  match k with
  | .read => 0
  | .write => 1
  | .fetch => 2
  | .atomic => 3
  | .devRead => 4
  | .devWrite => 5

/-- The log and source of a refusal (R534). -/
def Blk.pageRefused (b : Blk) (sec : Bool) (ctx : Nat) (k : Acc) (a reason src : Nat) : Blk :=
  (b.refLog sec ctx (accCode k) reason a).raise src (a / 256) (some ctx)

/-! ## Memory errors -/

/-- The memory of R497 that a region's own check protects; 6 is the boot ROM, which R497 does not number. -/
def eccOf (r : Region) : Option Nat :=
  match r with
  | .rom => some 6
  | .tcm _ _ => some 2
  | .sram => some 3
  | .mram => some 4
  | .dram => some 5

/-- Can memory `k` hold an error of an access of initiator `i` to `a`? An access to DRAM may meet one in a cache. -/
def eccFits (i : Init) (a k : Nat) : Bool :=
  match regionOf a with
  | some .dram => (k == 0 && (cachesOf i .read).length == 3) || k == 1 || k == 5
  | some r => eccOf r == some k
  | none => false

/-- A corrected error of memory `k` (R478); R497 counts those of memories 0 to 5. FS006 is raised at each that is more
than CE_THR within one second. -/
def Blk.eccCe (b : Blk) (k : Nat) : Blk :=
  if 5 < k then b else
  let l := b.clk :: ((b.k.ceAt.get (fun _ => []) k).filter (fun t => b.clk < t + tickSec))
  let b1 := (b.incSat (F.SYSCTL_ECC_CNT_CE k))
  let b2 := { b1 with k := { b1.k with ceAt := b1.k.ceAt.set (fun _ => []) k l } }
  let thr := b.fld F.SYSCTL_CE_THR_THR
  if thr != 0 && thr < l.length then b2.raise 6 k else b2

/-- An uncorrectable error of memory `k` at `a` (R478): held, its word poisoned and its source raised. -/
def Blk.eccUe (b : Blk) (k a : Nat) : Blk :=
  if 5 < k then b else
  let b1 := ((b.incSat (F.SYSCTL_ECC_CNT_UE k)).put (F.SYSCTL_ECC_ADDR_ADDR k) (a / 256)).raise k (a / 256)
  if b.poison.contains (eccWord a) then b1 else { b1 with poison := b1.poison ++ [eccWord a] }

/-- Does `a` lie in a DRAM block that the background clearing has still to clear (R480)? -/
def Blk.uncleared (b : Blk) (a : Nat) : Bool :=
  regionOf a == some .dram && b.on F.SYSCTL_SCRUB_DRAM_CLR && !b.k.cleared.get (fun _ => false) ((a - 0x100000000) / 65536)

/-- The error that access `x` meets, if its memory can hold it: a read of an uncleared block meets none (R480). -/
def Blk.errOf (b : Blk) (x : MemAcc) : Option (Nat × Bool) :=
  match x.err with
  | some (k, ue) => if eccFits x.init x.addr k && !(b.uncleared x.addr && !accWrites x.kind) then some (k, ue) else none
  | none => none

/-- The error is counted and held (R478); a parity error of an L1 invalidates its line (R473). -/
def Blk.meetErr (b : Blk) (x : MemAcc) : Blk :=
  match b.errOf x with
  | some (k, true) => b.eccUe k x.addr
  | some (k, false) =>
    if k = 0 then (b.eccCe k).lineDrop (fun c l => c < 16 && (cachesOf x.init x.kind).contains c && l.at64 == x.addr / 64)
    else b.eccCe k
  | none => b

/-- A write of `n` bytes at `a`: a word written whole is no longer poisoned. -/
def Blk.unpoison (b : Blk) (a n : Nat) : Blk :=
  let whole (w : Nat) : Bool := a ≤ w && w + (if eccWord (w + 4) = w then 8 else 4) ≤ a + n
  if b.poison.any whole then { b with poison := b.poison.filter (fun w => !whole w) } else b

/-! ## Reservations -/

/-- A write at `a` by another initiator than hart `own` breaks the reservations of its block (R482). -/
def Blk.breakResv (b : Blk) (a : Nat) (own : Option Nat) : Blk :=
  harts.foldl (fun x h =>
    if some h ≠ own ∧ (x.hartOf h).resv = some (a / 64) then
      x.setHart h
        { x.hartOf h with
          resv := none }
    else x) b

/-! ## Performing an access -/

/-- The hart that makes an access. -/
def initHart (i : Init) : Option Nat :=
  match i with
  | .hart h => some h
  | _ => none

/-- The core number of a safety hart. -/
def initSc (i : Init) : Option Nat :=
  match i with
  | .hart h => if 16 ≤ h ∧ h < 24 then some (h - 16) else none
  | .boot => some 0
  | .debug => none

/-- The first write to an uncleared DRAM block (R480). -/
def Blk.clearBlock (b : Blk) (a : Nat) : Blk :=
  if regionOf a = some .dram ∧ b.on F.SYSCTL_SCRUB_DRAM_CLR then
    { b with k := { b.k with cleared := b.k.cleared.set (fun _ => false) ((a - 0x100000000) / 65536) true } }
  else b

/-- A write of `n` bytes at `a` that its target has accepted. -/
def Blk.memStore (b : Blk) (m : List Host.Cell) (a n v : Nat) (own : Option Nat) : Blk × List Host.Cell :=
  ((((b.clearBlock a).breakResv a own).lineSnoop a own).unpoison a n, memWrite m a (leBytes n v))

/-- The value that an AMO stores (RISC-V A extension), on `n` bytes. -/
def amo (op n old v : Nat) : Nat :=
  let w := 8 * n
  let so := toSigned w old
  let sv := toSigned w v
  match op with
  | 2 => v
  | 3 => (old + v) % 2 ^ w
  | 4 => old ^^^ v
  | 5 => old &&& v
  | 6 => old ||| v
  | 7 => if so ≤ sv then old else v
  | 8 => if so ≤ sv then v else old
  | 9 => min old v
  | _ => max old v

/-- The reservation of the hart that makes an access is set or cleared. -/
def Blk.setResv (b : Blk) (i : Init) (r : Option Nat) : Blk :=
  match i with
  | .hart h => b.setHart h
      { b.hartOf h with
        resv := r }
  | _ => b

/-- The reservation of an initiator. -/
def Blk.resvOf (b : Blk) (i : Init) : Option Nat :=
  match i with
  | .hart h => (b.hartOf h).resv
  | _ => none

/-- The attributes of an access: those it was made with where it has waited. -/
def Blk.accAttr (b : Blk) (x : MemAcc) : Option (Bool × Nat) :=
  match x.who with
  | some w => some w
  | none => b.attr x.init

/-- May the context's MRAM write proceed under the throttle of R232? -/
def Blk.mramRoom (b : Blk) (c n : Nat) : Bool :=
  b.wbgGrants.any (fun g => g.kind == 3 && g.ctx == c) ||
    (let u := b.k.mramMs.get (fun _ => (0, 0)) c
     (if u.1 = b.clk / tickMs then u.2 else 0) + n ≤ 65536)

/-- The throttle counts an MRAM write. -/
def Blk.mramCount (b : Blk) (c n : Nat) : Blk :=
  let u := b.k.mramMs.get (fun _ => (0, 0)) c
  let now := b.clk / tickMs
  let l := b.k.mramMs.set (fun _ => (0, 0)) c (Prod.mk now ((if u.1 = now then u.2 else 0) + n))
  { b with k := { b.k with mramMs := l } }

/-- An accepted access is performed; a refused or poisoned word gives the hart an access fault (R475,
R477, R478, R482). -/
def Blk.perform (b : Blk) (m : List Host.Cell) (x : MemAcc) : Blk × List Host.Cell :=
  let b1 := b.meetErr x
  let bad := match b.errOf x with
    | some (_, true) => true
    | _ => false
  let c := ((b.accAttr x).getD (true, 0)).2
  if (accReads x.kind || x.kind == .fetch) && (bad || b1.poisoned x.addr x.size) then ({ b1 with resp := .accessFault }, m)
  else if accWrites x.kind && !(x.kind == .atomic && x.op == 0) && regionOf x.addr == some .mram &&
      !b1.mramRoom c x.size then
    ({ b1 with resp := .pending, k := { b1.k with stall := b1.k.stall ++ [{ x with err := none, who := b.accAttr x }] } }, m)
  else
    let b2 := if accWrites x.kind && regionOf x.addr == some .mram then b1.mramCount c x.size else b1
    let old := memLe m x.addr x.size
    let v := x.val % 2 ^ (8 * x.size)
    match x.kind with
    | .write | .devWrite =>
      let r := b2.memStore m x.addr x.size v (initHart x.init)
      ({ r.1 with resp := .done }, r.2)
    | .atomic =>
      if x.op = 0 then ({ b2.setResv x.init (some (x.addr / 64)) with resp := .data old }, m)
      else if x.op = 1 then
        if b2.resvOf x.init = some (x.addr / 64) then
          let r := (b2.setResv x.init none).memStore m x.addr x.size v (initHart x.init)
          ({ r.1 with resp := .data 0 }, r.2)
        else ({ b2.setResv x.init none with resp := .data 1 }, m)
      else
        let r := b2.memStore m x.addr x.size (amo x.op x.size old v) (initHart x.init)
        ({ r.1 with resp := .data old }, r.2)
    | _ => ({ b2 with resp := .data old }, m)

/-- The exception cause of an access that its target refuses; the misaligned one is 1 less (R481). -/
def accCause (x : MemAcc) : Nat :=
  match x.kind with
  | .fetch => 1
  | .write | .devWrite => 7
  | .atomic => if x.op = 0 then 5 else 7
  | _ => 5

/-- An access that ends with no data, or without its write, raises its exception (R475, R481, R534). -/
def Blk.accEnd (b : Blk) (x : MemAcc) : Blk :=
  match b.resp with
  | .busError | .accessFault => b.except x.init (accCause x) x.addr b.resp
  | .misaligned => b.except x.init (accCause x - 1) x.addr b.resp
  | _ => b

/-- Is an access misaligned (R481)? Instructions of 2 bytes make every even address one of a fetch (R469). -/
def misaligned (x : MemAcc) : Bool := x.addr % (if x.kind = .fetch then 2 else x.size) != 0

/-- Does an older access of the same initiator that still waits touch a byte of `x`? Accesses to one address stay in
program order (R483). -/
def Blk.accBehind (b : Blk) (x : MemAcc) : Bool :=
  (b.k.memWait ++ b.k.stall).any (fun y => y.init == x.init && y.addr < x.addr + x.size && x.addr < y.addr + y.size &&
    (accWrites x.kind || accWrites y.kind))

/-- The end of an access that has been judged. -/
def Blk.endAcc (b : Blk) (m : List Host.Cell) (x : MemAcc) (j : Judged) : Blk × List Host.Cell :=
  let at' := (b.accAttr x).getD (true, 0)
  match j with
  | .accept => b.perform m x
  | .busError => ({ b with resp := .busError }, m)
  | .refuse r s => ({ b.pageRefused at'.1 at'.2 x.kind x.addr r s with resp := .accessFault }, m)
  | .byEntry => (b, m)

/-- A hart's access to a memory region: a misaligned one is not made (R481), nor is one that the PMP or, for a fetch,
the region forbids the hart (R469, R475); the others are judged (R534), a miss of the POT cache after its line has come
(R535). -/
def Blk.memAccess (b : Blk) (m : List Host.Cell) (x : MemAcc) : Blk × List Host.Cell :=
  match b.attr x.init with
  | none => ({ b with resp := .absent }, m)
  | some (sec, ctx) =>
    if misaligned x then ({ b with resp := .misaligned }, m)
    else if !b.pmpOk x.init x.kind x.addr x.size || (x.kind == .fetch && fetchBarred x.init x.addr) then
      ({ b with resp := .accessFault }, m)
    else if b.accBehind x then ({ b with resp := .pending }, m)
    else
      match b.judgeFixed sec ctx x.kind x.addr (initSc x.init) with
      | .byEntry =>
        let l := cachesOf x.init x.kind
        match b.entryHit l x.addr with
        | some r =>
          let j := r.2.judgeWith l sec ctx x.kind x.addr r.1
          j.2.endAcc m x j.1
        | none => ({ b with resp := .pending, k := { b.k with memWait := b.k.memWait ++ [{ x with who := some (sec, ctx) }] } }, m)
      | j => b.endAcc m x j

/-- The POT line of the oldest waiting access arrives (R535, R545). -/
def Blk.potArrive (b : Blk) (m : List Host.Cell) : Blk × List Host.Cell :=
  match b.k.memWait with
  | [] => (b, m)
  | x :: l =>
    let b1 := { b with k := { b.k with memWait := l } }
    match b.accAttr x with
    | none => (b1, m)
    | some (sec, ctx) =>
      let r := b1.potFetch m (potTarget x.addr) (potIndex x.addr)
      let j := r.2.judgeWith (cachesOf x.init x.kind) sec ctx x.kind x.addr r.1
      let q := j.2.endAcc m x j.1
      (q.1.accEnd x, q.2)

/-- MRAM writes that the throttle held proceed as far as the new millisecond allows (R232). -/
def Blk.drainStall (b : Blk) (m : List Host.Cell) : Blk × List Host.Cell :=
  match b.k.stall with
  | [] => (b, m)
  | x :: l =>
    let c := ((b.accAttr x).getD (true, 0)).2
    if b.mramRoom c x.size then ({ b with k := { b.k with stall := l } } : Blk).perform m x else (b, m)

/-! ## Device accesses to memory -/

/-- The judgement of a device access at `a`. One to field space is a bus error that SEC_REF shows with reason 9
(R572). -/
def Blk.devJudge (b : Blk) (m : List Host.Cell) (sec : Bool) (ctx : Nat) (k : Acc) (a : Nat) : Bool × Blk :=
  match b.judgeNow m sec ctx k a none with
  | (.accept, b1) => (true, b1)
  | (.refuse r s, b1) => (false, b1.pageRefused sec ctx k a r s)
  | (_, b1) => (false, if 0x50000000 ≤ a ∧ a < 0x54000000 then b1.refLog sec ctx (accCode k) 9 a else b1)

/-! ## Meanings -/

/-- The POT line of the oldest waiting access arrives (R535). -/
def execPotFetch (s : State) : Host.Outcome State Fault Refusal :=
  onMem true s (fun b m => b.potArrive m)

/-- A write of SEC_POT_INV names `first` (R536): one invalidation at a time. -/
def Blk.potInv (b : Blk) (first : Nat) : Blk :=
  if b.on F.SEC_POT_INV_BUSY then b.put F.SEC_POT_CTL_INV_IGN 1
  else
    let b1 := b.put F.SEC_POT_INV_BUSY 1
    { b1 with k := { b1.k with inv := some (first % 2 ^ 23, max 1 (b.fld F.SEC_POT_INV_CNT_COUNT)) } }

/-- A write of SEC_POT_INV (R536). -/
def execPotInvalidate (i : Init) (first : Nat) (s : State) : Host.Outcome State Fault Refusal :=
  onBlk true s (fun b => b.onWrite i R.SEC_POT_INV (F.SEC_POT_INV_FIRST.word first) (fun b => b.potInv first))

/-- The entries of indices `lo` to `hi` - 1 leave every POT cache, and the copies taken from them every cache (R536). -/
def Blk.potDrop (b : Blk) (lo hi : Nat) : Blk :=
  let within (i : Nat) : Bool := lo ≤ i && i < hi
  ({ b with k := { b.k with pot :=
      (b.k.pot.map (fun e => (e.1, e.2.filter (fun x => !within x.1)))).filter (fun e => e.2 != []) } } : Blk).lineDrop
    (fun _ x => within (potIndex (64 * x.at64)))

/-- The invalidation is complete (R536). -/
def execPotInvalidateDone (s : State) : Host.Outcome State Fault Refusal :=
  onBlk true s (fun b =>
    match b.k.inv with
    | some (f, n) =>
      let b1 := (b.put F.SEC_POT_INV_BUSY 0).potDrop f (f + n)
      { b1 with k := { b1.k with inv := none } }
    | none => b)

/-- A write of SEC_POT_CTL with EN 1 (R531): the bit sets once, a written 1 clears INV_IGN. -/
def execPotEnable (i : Init) (v : W32) (s : State) : Host.Outcome State Fault Refusal :=
  onBlk true s (fun b => b.onWrite i R.SEC_POT_CTL v (fun b => b.writeReg R.SEC_POT_CTL v))

/-- Background clearing of the DRAM completes (R480). -/
def execDramClearComplete (s : State) : Host.Outcome State Fault Refusal :=
  onBlk true s (fun b =>
    if b.kcRun then
      let b1 := b.put F.SYSCTL_SCRUB_DRAM_CLR 0
      { b1 with k := { b1.k with cleared := [] } }
    else b)

/-- Is the word at `a` in memory `k`, and does the scrubber take it (R478, R480)? -/
def Blk.scrubs (b : Blk) (k a : Nat) : Bool :=
  if k = 3 then regionOf a == some .sram && b.on F.SYSCTL_SCRUB_SRAM_EN
  else if k = 5 then
    regionOf a == some .dram && b.on F.SYSCTL_SCRUB_DRAM_EN && !b.uncleared a
  else false

/-- The ticks between two scrubs of memory `k` (R478, R497). -/
def Blk.scrubPeriod (b : Blk) (k : Nat) : Nat :=
  if k = 3 then max 1 (b.fld F.SYSCTL_SCRUB_SRAM_PER) * 100 * tickMs
  else max 1 (b.fld F.SYSCTL_SCRUB_DRAM_PER) * 3600 * tickSec

/-- Is a scrub of memory `k` due: its period has passed since the last one (R478)? -/
def Blk.scrubDue (b : Blk) (k : Nat) : Bool :=
  let t := b.k.scrubAt.get (fun _ => 0) k
  t == 0 || t - 1 + b.scrubPeriod k ≤ b.clk

/-- A scrub of memory `k` has found corrected errors at `ce` and uncorrectable ones at `ue` (R478). -/
def Blk.scrub (b : Blk) (k : Nat) (ce ue : List Nat) : Blk :=
  let b1 := (ce.filter (b.scrubs k)).foldl (fun x _ => x.eccCe k) b
  let b2 := (ue.filter (b.scrubs k)).foldl (fun x a => x.eccUe k a) b1
  { b2 with k := { b2.k with scrubAt := b2.k.scrubAt.set (fun _ => 0) k (b.clk + 1) } }

/-- A scrub of memory `k` (3 safety SRAM, 5 DRAM) ends (R478): once in every period. -/
def execScrubPass (k : Nat) (ce ue : List Nat) (s : State) : Host.Outcome State Fault Refusal :=
  onBlk (k == 3 || k == 5) s (fun b => if b.kcRun && b.scrubDue k then b.scrub k ce ue else b)

end Sys2Proof.Machine
end

