-- ==== Sys2Proof/Machine/Harts.lean ====
section
/-!
DEFINITION. Machine/Harts.lean: release and reset of the harts, timers, the interrupt files and message
delivery (R469 to R472, R489 to R493), and the passages between the worlds (R524 to R540).
-/

namespace Sys2Proof.Machine

/-! ## Release and reset -/

/-- SYSCTL_HART_ENTRY of hart `h`. Bit 0 reads 0. -/
def Blk.entryOf (b : Blk) (h : Nat) : Nat :=
  b.fld (F.SYSCTL_HART_ENTRY_HI_ADDR h) * 2 ^ 32 + 2 * b.fld (F.SYSCTL_HART_ENTRY_LO_ADDR h)

/-- Is a release of hart `h` refused (R471)? -/
def Blk.releaseRefused (b : Blk) (h : Nat) : Bool :=
  let st := b.fld F.SYSCTL_PWR_STATE
  b.hartState h != 0 || (isApp h && (st == 2 || st == 3)) || (isSafety h && b.on (F.DISP_CTL_EN (h - 16))) ||
    !mayExec h (b.entryOf h)

/-- Hart `h` starts at `pc` as CTX000 in the secure world in M-mode; a safety hart in the mode of its
RECUT_MODE entry (R471, R524). -/
def Blk.hartStart (b : Blk) (h pc : Nat) : Blk :=
  let b1 := (b.setHart h (({ stMs := (b.hartOf h).stMs, cycAt := b.clk } : Hart).goTo pc)).put
    (F.SYSCTL_HART_STAT_STATE h) 1
  if isSafety h then
    let r := b.fld (F.RCX_STAT_START_RECUT (h - 16))
    let b2 := b1.put (F.RCX_STAT_MODE (h - 16)) r
    if r = 0 then b2 else b2.newSlice h
  else b1

/-- An accepted or refused release of hart `h` (R471). -/
def Blk.hartRelease (b : Blk) (h : Nat) : Blk :=
  if b.releaseRefused h then b.put (F.SYSCTL_HART_STAT_REFUSED h) 1
  else b.hartStart h (b.entryOf h)

/-- The semaphores that an LR of hart `h` holds are released (R581). -/
def Blk.semRelease (b : Blk) (h : Nat) : Blk :=
  (List.range 16).foldl (fun x k =>
    if x.on (F.BRG_SEM_HELD k) && x.fld (F.BRG_SEM_HART k) == h then x.put (F.BRG_SEM_HELD k) 0 else x) b

/-- SEMS follows the semaphores (R591). -/
def Blk.semSync (b : Blk) : Blk :=
  b.put F.BRG_STAT_SEMS ((List.range 16).filter (fun k => b.on (F.BRG_SEM_HELD k))).length

/-- Hart `h` is in reset with STATE `st`: world, context and CSRs return to reset, a core in Recut mode
discards its held writes (R472, R521, R524). Its self-test stays one a millisecond (R509). The L1s and the L2 of a hart
that is power-gated are lost (R479). -/
def Blk.hartStop (b : Blk) (h st : Nat) : Blk :=
  let b0 := if st = 4 then b.lineDrop (fun c _ => (c < 16 && c % 8 == h) || c == 16 + h / 4) else b
  let b1 := (((b0.setHart h { stMs := (b.hartOf h).stMs, cycAt := b.clk }).put (F.SYSCTL_HART_STAT_STATE h)
    st).semRelease h).semSync
  if isSafety h then (b1.put (F.RCX_STAT_MODE (h - 16)) 0).put (F.RCX_STAT_PHASE (h - 16)) 0 else b1

/-- CMD RESET of hart `h`: its non-posted accesses complete first (R472); during a commit the commit does (R518). -/
def Blk.hartReset (b : Blk) (h : Nat) : Blk :=
  let st := b.hartState h
  if st = 0 ∨ st = 4 then b
  else if isSafety h && b.fld (F.RCX_STAT_PHASE (h - 16)) == 5 then
    b.setHart h
      { b.hartOf h with
        rstAfter := true }
  else if b.waits h then
    b.setHart h
      { b.hartOf h with
        rstWait := true }
  else b.hartStop h 0

/-- The word of SYSCTL_HART_CTL with `key` and `cmd` (R496). -/
def hartCtlWord (h key cmd : Nat) : W32 :=
  (F.SYSCTL_HART_CTL_KEY h).word (if key = 0xc3 then key else 0) ||| (F.SYSCTL_HART_CTL_CMD h).word cmd

/-- SYSCTL_HART_CTL with CMD RELEASE (R471, R496). -/
def execRelease (i : Init) (h key : Nat) (s : State) : Host.Outcome State Fault Refusal :=
  onBlk (isHart h) s (fun b => b.onWrite i (R.SYSCTL_HART_CTL h) (hartCtlWord h key 1) (fun b =>
    if key = 0xc3 then b.hartRelease h else b))

/-- SYSCTL_HART_CTL with CMD RESET (R472, R496). -/
def execReset (i : Init) (h key : Nat) (s : State) : Host.Outcome State Fault Refusal :=
  onBlk (isHart h) s (fun b => b.onWrite i (R.SYSCTL_HART_CTL h) (hartCtlWord h key 2) (fun b =>
    if key = 0xc3 then b.hartReset h else b))

/-- SYSCTL_HART_CTL with CMD 0 or 3 (R496). -/
def execHartCmdNone (i : Init) (h : Nat) (s : State) : Host.Outcome State Fault Refusal :=
  onBlk (isHart h) s (fun b => b.onWrite i (R.SYSCTL_HART_CTL h) 0 (fun b => b))

/-! ## Timers -/

/-- Time reaches a compare of hart `h` (R470): `kind` 0 MTIMECMP, 1 stimecmp, 2 vstimecmp; `cmp` is what
software last wrote to the CSR of kinds 1 and 2. -/
def execTimerInterrupt (h kind cmp : Nat) (s : State) : Host.Outcome State Fault Refusal :=
  onBlk (isHart h && kind < 3 && (kind == 0 || isApp h)) s (fun b =>
    if b.kcRun then
      let x := b.hartOf h
      let y := if kind = 1 then
          { x with
            stimecmp := cmp % 2 ^ 64 }
        else if kind = 2 then
          { x with
            vstimecmp := cmp % 2 ^ 64 }
        else x
      (b.setHart h y).timerSync h
    else b)

/-! ## Interrupt files -/

/-- Does page `p` hold an interrupt file (R488)? -/
def isFile (p : Nat) : Bool :=
  if 0x44100 ≤ p ∧ p < 0x44200 then isHart (p - 0x44100)
  else if 0x44200 ≤ p ∧ p < 0x44240 then (p - 0x44200) % 8 ≤ 4
  else false

/-- Identity `id` becomes pending in the file at page `p`; the dispatcher of a safety core may consume it
(R489, R493). -/
def Blk.fileDeliver (b : Blk) (p id : Nat) : Blk :=
  if 0x44110 ≤ p ∧ p < 0x44118 then b.deliverSc (p - 0x44110) id else b.fileSet p id

/-- The four bytes of a word in the other order. -/
def swap32 (v : Nat) : Nat := byteOf v 0 * 2 ^ 24 + byteOf v 1 * 2 ^ 16 + byteOf v 2 * 2 ^ 8 + byteOf v 3

/-- The file's page that ICU_MSI_TGT of context `c` names, none where it does not exist (R491, R498). -/
def Blk.msiPage (b : Blk) (c : Nat) : Option Nat :=
  let h := b.fld (F.ICU_MSI_TGT_HART c)
  let f := b.fld (F.ICU_MSI_TGT_FILE c)
  if f = 0 then (if isHart h then some (mFile h) else none)
  else if f ≤ 5 ∧ isApp h then some (0x44200 + 8 * h + (f - 1))
  else none

/-- The message of a source that context `c` owns, with identity `id`, is delivered or dropped (R491). -/
def Blk.deliver (b : Blk) (c id : Nat) : Blk :=
  let drop := b.incWrap F.ICU_DROP_DROP
  if !b.on (F.ICU_MSI_TGT_EN c) then drop
  else
    match b.msiPage c with
    | none => drop.raise 7 id (some c)
    | some p =>
      if id = 0 ∨ (c ≠ 0 ∧ p < 0x44108) then drop.raise 7 id (some c) else b.fileDeliver p id

/-- The message of queue pair `q` is delivered (R387, R491). -/
def execMsiDelivery (q : Nat) (s : State) : Host.Outcome State Fault Refusal :=
  onBlk (q < 128) s (fun b =>
    if b.k.msi.contains q then
      ({ b with k := { b.k with msi := b.k.msi.erase q } } : Blk).deliver (b.ownOf 0x05 q).ctx
        (b.fld (F.QP_IRQ_IDENT q))
    else b)

/-! ## Gates to the secure world -/

/-- Does a keystone word stand at an address whose bits 11:4 are `slot`, admitting privilege `prv` and
virtualisation mode `v` (R537)? -/
def keystoneAdmits (w slot prv : Nat) (v : Bool) : Bool :=
  let bit (k : Nat) : Bool := w.testBit k
  w % 2 ^ 7 == 0x0b && w / 2 ^ 7 % 2 ^ 5 == 0 && w / 2 ^ 12 % 2 ^ 3 == 3 && w / 2 ^ 28 % 2 ^ 4 == 0xc &&
    !bit 19 && w / 2 ^ 20 % 2 ^ 8 == slot &&
    (if prv = 0 then bit 15 else if prv = 1 then bit 16 else bit 18) && (!v || bit 17)

/-- Is the word at `pa` a gate entry for hart `h`? Answers the OWNER of its page and the block with the POT
cache used (R535, R538). -/
def Blk.gateTarget (b : Blk) (m : List Host.Cell) (h pa : Nat) : Option Nat × Blk :=
  let i := potIndex pa
  let t := potTarget pa
  if !b.on F.SEC_POT_CTL_EN || b.inPot pa || !mayExec h pa || regionOf pa == some .rom then (none, b)
  else
    let r := match b.potHit t i with
      | some e => (e, b.potUse t i e)
      | none => b.potFetch m t i
    let e := r.1
    if !potOk e i then (none, r.2.raise 192 (pa / 256))
    else if e.getLsbD 15 && e.getLsbD 14 && e.getLsbD 13 && e.getLsbD 12 then
      (some (e.toNat / 2 ^ 16 % 256), r.2)
    else (none, r.2)

/-- A refused gate (R538): an instruction access fault with trap value `rs1`. -/
def Blk.gateRefused (b : Blk) (h pc rs1 : Nat) : Blk :=
  let c := (b.hartOf h).ctx
  { ((b.refLog false c 2 11 rs1).raise 195 (rs1 / 256) (some c)).trapAt h pc 1 rs1 with resp := .accessFault }

/-- Hart `h` executes at `pc` a GATE whose rs1 holds `rs1`, translated to `pa`, none on a translation
fault; `err` is an uncorrectable error met by the keystone fetch (R538, R540). -/
def Blk.gate (b : Blk) (m : List Host.Cell) (h pc rs1 : Nat) (pa : Option Nat) (err : Bool) : Blk :=
  let x := b.hartOf h
  if x.w then { b.draw.2.trapAt h pc 2 b.draw.1 with resp := .illegal }
  else
    match pa with
    | none => { b.trapAt h pc 12 rs1 with resp := .pageFault }
    | some a =>
      let r := b.gateTarget m h a
      let b1 := if err then
          (((regionOf a).bind eccOf).map (fun k => r.2.eccUe k a)).getD r.2
        else r.2
      match r.1 with
      | none => b1.gateRefused h pc rs1
      | some own =>
        if rs1 % 16 ≠ 0 || err || b1.poisoned a 4 ||
            !keystoneAdmits (memLe m a 4) (rs1 / 16 % 256) x.prv x.v then b1.gateRefused h pc rs1
        else
          { b1.setHart h
              (({ x with
                retCtx := x.ctx
                retW := false
                retPrv := x.prv
                retV := x.v
                retPie := x.mie
                retPc := pc + 4
                w := true
                ctx := own
                prv := 3
                v := false
                mie := false
                gated := true } : Hart).goTo a) with
            resp := .done }

/-- Is a GATE.RET of hart `h` refused (R539)? -/
def Blk.gateRetRefused (b : Blk) (h : Nat) : Bool :=
  let x := b.hartOf h
  !b.ctxExists x.retCtx || b.ctxSecure x.retCtx != x.retW || x.retPrv == 2 ||
    (isApp h && !x.retW && x.retPrv == 3) || (x.retV && x.retW) ||
    (isSafety h && (x.retPrv == 1 || x.retV))

/-- Hart `h` executes GATE.RET (R539). -/
def Blk.gateRet (b : Blk) (h : Nat) : Blk :=
  let x := b.hartOf h
  let bad (b : Blk) : Blk := { b.draw.2.trap h 2 b.draw.1 with resp := .illegal }
  if !x.w || x.prv != 3 then bad b
  else if b.gateRetRefused h then bad (b.raise 197 0 (some x.ctx))
  else
    { b.setHart h
        (({ x with
          w := x.retW
          ctx := x.retCtx
          prv := x.retPrv
          v := x.retV
          mie := x.retPie
          gated := false } : Hart).goTo x.retPc) with
      resp := .done }

/-- GATE.RET of hart `h` after software has written `wr` to mgret and mgretpc, which no command of the table
does (R527, R539). -/
def Blk.gateRetWith (b : Blk) (h : Nat) (wr : Option (Nat × Nat)) : Blk :=
  match wr with
  | some (g, pc) =>
    if (b.hartOf h).w && (b.hartOf h).prv == 3 then (b.setHart h ((b.hartOf h).setRet g pc)).gateRet h
    else { b.draw.2.trap h 2 b.draw.1 with resp := .illegal }
  | none => b.gateRet h

/-- A keystone word is executed other than as the target of a GATE (R537). -/
def execKeystone (h : Nat) (s : State) : Host.Outcome State Fault Refusal :=
  onBlk (isHart h) s (fun b => { b with resp := if b.runs h then .done else .absent })

/-- Hart `h` writes `v` to hvctx (R526, R527). -/
def execHvctxWrite (h v : Nat) (s : State) : Host.Outcome State Fault Refusal :=
  onBlk (isHart h) s (fun b =>
    if !b.runs h then { b with resp := .absent }
    else
      match (b.hartOf h).csrBar h 0x6c0 true with
      | none => { b.hvctxSet h v with resp := .done }
      | some 22 => b.draw.2.except (.hart h) 22 b.draw.1 .virtualInstr
      | some _ => b.illegal h)

end Sys2Proof.Machine
end

