-- ==== Sys2Proof/Machine/Recut.lean ====
section
/-!
DEFINITION. Machine/Recut.lean: the instructions and phases of Recut execution (R500 to R521), up to the commit,
whose held writes `Machine/Access.lean` performs; the gates and fences (R474, R484, R537).
-/

namespace Sys2Proof.Machine

/-! ## Instructions -/

/-- Act `a` of hart `h`, a GATE or GATE.RET at `pc` (none where no command gives it), which ends the slice of a core in
Recut mode after itself as a trap does and takes effect at the commit (R510, R537); in Single mode `f` is its effect. An
interrupt to be taken is taken first (R540), in a group after the group (R512). -/
def Blk.endWith (b : Blk) (h : Nat) (a : Act) (pc : Option Nat) (f : Blk → Blk) : Blk :=
  if b.recut h then
    b.atOne h (fun b =>
      let b1 := b.segment h
      if (b1.hartOf h).ending then { b1 with resp := .pending }
      else if (b.irq h).isSome && !b.on (F.RCX_STAT_GROUP (h - 16)) then { b1.endSlice h with resp := .pending }
      else (b1.cmdOp h).endAct h a)
  else if (b.irq h).isSome then { b.draw.2.takeIrqAt h (pc.getD b.draw.1) with resp := .pending }
  else f b

/-- GATE on hart `h` (R538). -/
def execGate (h pc rs1 : Nat) (pa : Option Nat) (err : Bool) (s : State) :
    Host.Outcome State Fault Refusal :=
  onBlk (isHart h) s (fun b =>
    if b.runs h then b.endWith h (.gate pc rs1 pa err) (some pc) (fun b => b.gate s.mem h pc rs1 pa err)
    else { b with resp := .absent })

/-- GATE.RET on hart `h` (R539). `wr` is what software has written to mgret and mgretpc before it. -/
def execGateRet (h : Nat) (wr : Option (Nat × Nat)) (s : State) : Host.Outcome State Fault Refusal :=
  onBlk (isHart h) s (fun b =>
    if b.runs h then b.endWith h (.gateRet wr) none (fun b => b.gateRetWith h wr) else { b with resp := .absent })

/-- RECUT.BEGIN in pass one (R512): one inside an open group has no effect. -/
def Blk.groupBegin (b : Blk) (h : Nat) : Blk :=
  let b1 := b.cmdOp h
  let b2 := if b.on (F.RCX_STAT_GROUP (h - 16)) then b1
    else (b1.put (F.RCX_STAT_GROUP (h - 16)) 1).setHart h
      { b1.hartOf h with
        split := false }
  { b2.redoGo h with resp := .done }

/-- RECUT.BEGIN on hart `h` (R512). -/
def execRecutBegin (h : Nat) (s : State) : Host.Outcome State Fault Refusal :=
  onBlk (isHart h) s (fun b =>
    if !b.runs h then { b with resp := .absent }
    else if isApp h then b.illegal h
    else if !b.recut h then { b with resp := .done }
    else b.atOne h (fun b => b.groupBegin h))

/-- RECUT.END in pass one: the instructions before it have run, and the slice ends after it (R501). -/
def Blk.groupEnd (b : Blk) (h : Nat) : Blk :=
  let b1 := b.segment h
  if (b1.hartOf h).ending then { b1 with resp := .pending } else (b1.cmdOp h).endAct h .recutEnd

/-- RECUT.END on hart `h` (R517): in Recut mode the status comes at the commit. -/
def execRecutEnd (h : Nat) (s : State) : Host.Outcome State Fault Refusal :=
  onBlk (isHart h) s (fun b =>
    if !b.runs h then { b with resp := .absent }
    else if isApp h then b.illegal h
    else if !b.recut h then
      let st := b.recutStatus h false false false
      { b.giveRd h st with resp := .data st }
    else b.atOne h (fun b => b.groupEnd h))

/-- RECUT.MODE on hart `h` with rs1 `v` (R513). -/
def execRecutMode (h v : Nat) (s : State) : Host.Outcome State Fault Refusal :=
  onBlk (isHart h) s (fun b =>
    let n := h - 16
    let give (b : Blk) (refused : Bool) : Blk :=
      let st := b.recutStatus h refused false false
      { b.giveRd h st with resp := .data st }
    if !b.runs h then { b with resp := .absent }
    else if isApp h || (b.hartOf h).prv != 3 then b.illegal h
    else if b.recut h then b.serialise h (.mode (v % 2 == 1)) 0 v
    else if !b.on (F.RCX_STAT_SWITCHABLE n) then give b true
    else if v % 2 = 1 then
      let b1 := give ((b.ranAlone h).put (F.RCX_STAT_MODE n) 1) false
      b1.newSlice h
    else give b false)

/-- FENCE on hart `h` (R484): every access of the hart before it is performed. -/
def Blk.fence (b : Blk) (h : Nat) : Blk := { b with resp := if b.waits h then .pending else .done }

/-- FENCE on hart `h` (R484, R502). -/
def execFence (h : Nat) (s : State) : Host.Outcome State Fault Refusal :=
  onBlk (isHart h) s (fun b =>
    if !b.runs h then { b with resp := .absent }
    else if b.recut h then b.serialise h .fence 0 0
    else b.fence h)

/-- FENCE.I on hart `h`, once its stores are performed (R474): its L1 instruction cache is empty, so that its fetches
read them. -/
def Blk.fenceI (b : Blk) (h : Nat) : Blk :=
  let b1 := b.fence h
  if b.waits h || !isApp h then b1 else b1.lineDrop (fun c _ => c == h)

/-- FENCE.I on hart `h` (R474, R502). -/
def execFenceI (h : Nat) (s : State) : Host.Outcome State Fault Refusal :=
  onBlk (isHart h) s (fun b =>
    if !b.runs h then { b with resp := .absent }
    else if b.recut h then b.serialise h .fenceI 0 0
    else b.fenceI h)

/-! ## Phases -/

/-- The comparator self-test in the hand-over of hart `h` (R509); `ok` says that both comparators flag the
flipped entry. -/
def Blk.selfTest (b : Blk) (h : Nat) (ok : Bool) : Blk :=
  let n := h - 16
  let ms := b.now / 1000000 + 1
  if b.on (F.RCX_CTL_INJ_EN n) && (b.hartOf h).stMs != ms then
    let b1 := (b.incWrap (F.RCX_ST_CNT_DONE n)).setHart h
      { b.hartOf h with
        stMs := ms }
    if ok then b1.put (F.RCX_ST_TIME_TIME n) b.now
    else ((b1.incSat (F.RCX_ST_CNT_FAIL n)).put (F.RCX_STAT_ST_FAIL n) 1).raise 8 n none (some n)
  else b

/-- An event of R501 has ended pass one of hart `h`, and the core hands over to pass two (R500, R501, R503, R509); an
event other than RECUT.END splits an open group (R512). -/
def Blk.handOver (b : Blk) (h : Nat) (ok : Bool) : Blk :=
  let n := h - 16
  let x := b.hartOf h
  if b.runs h && b.recut h && (b.phase h == 1 || b.phase h == 2) && x.ending && !b.waits h then
    let split := b.on (F.RCX_STAT_GROUP n) && x.act != some .recutEnd
    let b1 := if split then b.put (F.RCX_STAT_GROUP n) 0 else b
    ((b1.setHart h
      { x with
        split := x.split || split
        phAt := b.clk }).selfTest h ok).put (F.RCX_STAT_PHASE n) 3
  else b

/-- Pass one of hart `h` ends (R501). -/
def execPassOneEnd (h : Nat) (ok : Bool) (s : State) : Host.Outcome State Fault Refusal :=
  onBlk (isSafety h) s (fun b => b.handOver h ok)

/-- Pass one of hart `h` has run 65,536 cycles (R501). -/
def execPassOneCycleLimit (h : Nat) (s : State) : Host.Outcome State Fault Refusal :=
  onBlk (isSafety h) s (fun b => if b.passOne h then b.endBefore h else b)

/-- The echo log of hart `h` holds 512 entries (R501). -/
def execEchoLogFull (h : Nat) (s : State) : Host.Outcome State Fault Refusal :=
  onBlk (isSafety h) s (fun b => if b.passOne h then b.endSlice h else b)

/-- Hart `h` is in pass two, or in the hand-over before it. -/
def Blk.passTwoNow (b : Blk) (h : Nat) : Bool := b.runs h && b.recut h && (b.phase h == 3 || b.phase h == 4)

/-- The mismatch registers (R520): KIND and ADDR are those of the logged entry; `kind` and `addr` where the log has no
such entry. -/
def Blk.mmInfo (b : Blk) (h : Nat) (raw sig timing log : Bool) (entry kind addr : Nat) : Blk :=
  let n := h - 16
  let e := ((b.hartOf h).echo[entry]?).getD ⟨kind, 0, addr, 0⟩
  ((((((b.put (F.RCX_MM_INFO_ENTRY n) entry).put (F.RCX_MM_INFO_KIND n) e.kind).putB (F.RCX_MM_INFO_LOG n)
    log).putB (F.RCX_MM_INFO_TIMING n) timing).putB (F.RCX_MM_INFO_SIG n) sig).putB (F.RCX_MM_INFO_RAW n)
    raw).put (F.RCX_MM_ADDR_ADDR n) (e.addr / 256)

/-- A mismatch in pass two of hart `h` (R508): which comparators flag it, whether the timing or the log is
at fault, and the index of the entry compared. -/
def Blk.mismatch (b : Blk) (h : Nat) (raw sig timing log : Bool) (entry kind addr : Nat) : Blk :=
  let n := h - 16
  if b.passTwoNow h then
    let x := b.hartOf h
    let b0 := b.mmInfo h raw sig timing log entry kind addr
    let b1 := if raw != sig then b0.raise 11 n none (some n) else b0
    if x.rerun then
      ((b1.incSat (F.RCX_RETRY_SECOND n)).hartStop h 0).raise 12 n none (some n)
    else
      let b2 := ((b1.incSat (F.RCX_RETRY_RETRIES n)).putB (F.RCX_STAT_GROUP n) x.group0).put
        (F.RCX_STAT_PHASE n) 1
      (b2.setHart h
        { x.restore with
          phAt := b.clk }).raise 9 n none (some n)
  else b

/-- Pass two of hart `h` has run to its end (R503, R505, R506): it has run the slice's instructions on transformed
values; the comparators have compared each of its outputs with the log's entry and compare what the two passes leave.
The first difference is a mismatch; ENTRY of the final states reads 0x200 (R520). -/
def Blk.passTwo (b : Blk) (h : Nat) : Blk :=
  if b.passTwoNow h then
    let x := b.hartOf h
    match x.badAt with
    | some k =>
      let o := (x.outs2[k]?).getD ⟨0, 0, 0, 0⟩
      b.mismatch h (x.rawAt k) (x.sigAt k) (x.lost k) false k o.kind o.addr
    | none =>
      if x.rawEnd || x.sigEnd then b.mismatch h x.rawEnd x.sigEnd false false 0x200 0 0
      else (b.put (F.RCX_STAT_PHASE (h - 16)) 5).setHart h { x with p2 := x.passTwo.r }
  else b

/-- Pass two of hart `h` ends (R505, R506). -/
def execPassTwoComplete (h : Nat) (s : State) : Host.Outcome State Fault Refusal :=
  onBlk (isSafety h) s (fun b => b.passTwo h)

/-- A mismatch in pass two of hart `h` (R508). -/
def execSliceMismatch (h : Nat) (raw sig timing log : Bool) (entry kind addr : Nat) (s : State) :
    Host.Outcome State Fault Refusal :=
  onBlk (isSafety h) s (fun b => b.mismatch h raw sig timing log entry kind addr)

/-- A debug halt of hart `h` (R494, R514): allowed once debug is unlocked (R626). -/
def Blk.haltReq (b : Blk) (h : Nat) : Blk :=
  if !(b.runs h || b.hartState h == 2) || b.fld F.KV_STAT_DBG_LEVEL == 0 then b
  else
    let b0 := ({ b with k := { b.k with dm :=
      { b.k.dm with
        hartsel := h
        haltreq := b.k.dm.haltreq ||| 2 ^ h } } } : Blk).put (F.SYSCTL_HART_STAT_STATE h) 1
    if b.recut h then
      let b1 := b0.setHart h
        { b.hartOf h with
          dbgReq := true }
      if b1.passOne h && !(b.hartOf h).rerun then b1.endBefore h else b1
    else b0.put (F.SYSCTL_HART_STAT_STATE h) 3

/-- A debug halt of hart `h` (R494, R514). -/
def execDebugHaltRequest (h : Nat) (s : State) : Host.Outcome State Fault Refusal :=
  onBlk (isHart h) s (fun b => b.haltReq h)

/-- A write of DISP_END of core `n` (R247): on a core in Recut mode it ends the slice and takes effect at
the commit. -/
def execDispEnd (i : Init) (n : Nat) (s : State) : Host.Outcome State Fault Refusal :=
  onBlk (n < 8) s (fun b =>
    let b1 := b.onWrite i (R.DISP_END n) 1 (fun b => b.endTask n)
    match b.recutInit i with
    | some h => if b1.resp = .done then b1.endSlice h else b1
    | none => b1)

end Sys2Proof.Machine
end

