-- ==== Sys2Proof/Machine/Cores.lean ====
section
/-!
DEFINITION. Machine/Cores.lean: what the cores do of themselves on a tick (R469 to R472, R485, R494, R500 to R514, R516,
R537): the system instructions that no row of the table names, the interrupts that they take, the phases of a slice that
time ends, and what a debugger does. Which instruction a core executes on a tick is a free value (assumption 106).
-/

namespace Sys2Proof.Machine

/-! ## System instructions -/

/-- Is `w` an encoding of the custom-0 space that the spec gives hart `h`: FENCE.FIELD (R485), RECUT.BEGIN, RECUT.END
and RECUT.MODE (R516), GATE, GATE.RET and the keystone word (R537)? -/
def customLegal (h w : Nat) : Bool :=
  let rd := w / 2 ^ 7 % 32
  let rs1 := w / 2 ^ 15 % 32
  let top := w / 2 ^ 20
  match w / 2 ^ 12 % 8 with
  | 1 => top == 0 && rd == 0
  | 2 => top == 0 && rs1 == 0 && rd == 0
  | 3 => top / 2 ^ 8 == 0xc && rd == 0
  | 4 => top == 0 && rs1 == 0
  | 5 => isSafety h && top == 0 && rs1 == 0 && rd == 0
  | 6 => isSafety h && top == 0 && rs1 == 0
  | 7 => isSafety h && top == 0
  | _ => false

/-- The exception that bars hart state `x` of hart `h` from instruction `o`: 2 illegal instruction, 22 virtual
instruction. -/
def Hart.sysBar (x : Hart) (h : Nat) (o : SysOp) : Option Nat :=
  let app := isApp h
  let m (k : Nat) : Bool := (x.c.get 0x300).testBit k
  let hs (k : Nat) : Bool := (x.c.get 0x600).testBit k
  match o with
  | .csr n _ _ => x.csrBar h n true
  | .wfi =>
    if x.prv = 3 then none
    else if m 21 then some 2
    else if x.v && (x.prv == 0 || hs 21) then some 22
    else if app && x.prv == 0 then some 2
    else none
  | .mret => if x.prv = 3 then none else some 2
  | .sret =>
    if !app then some 2
    else if x.prv = 3 then none
    else if x.v && (x.prv == 0 || hs 22) then some 22
    else if x.prv = 0 || (!x.v && m 22) then some 2
    else none
  | .word w => if w % 2 ^ 7 = 0x0b ∧ customLegal h w = false then some 2 else none
  | .ecall | .ebreak => none

/-- The trap value of an instruction that is barred: 0 or the instruction, a free value where the model does not hold its
word (assumption 106). -/
def Blk.sysTval (b : Blk) (o : SysOp) : Nat × Blk :=
  match o with
  | .word w => (w, b)
  | _ => b.draw

/-- The cause of an ECALL of hart state `x`. -/
def Hart.ecallCause (x : Hart) : Nat := if x.prv = 1 then (if x.v then 10 else 9) else 8 + x.prv

/-- An enabled interrupt of hart `h` is pending, taken or not: WFI ends. -/
def Blk.wakes (b : Blk) (h : Nat) : Bool := b.mip h &&& (b.hartOf h).c.get 0x304 != 0

/-- What instruction `o` of hart `h` at `epc` does, where nothing bars it. A CSR write answers the old value. -/
def Blk.sysAct (b : Blk) (h epc : Nat) (o : SysOp) : Blk :=
  let x := b.hartOf h
  match o with
  | .csr n v op =>
    let old := b.csrGet h n
    { b.csrSet h n (if op = 0 then v else if op = 1 then old ||| v else old - (old &&& v)) with resp := .data old }
  | .wfi => if b.wakes h then b else b.put (F.SYSCTL_HART_STAT_STATE h) 2
  | .ecall => b.trapAt h epc x.ecallCause 0
  | .ebreak => if x.dbgBrk then b.haltReq h else b.draw.2.trapAt h epc 3 b.draw.1
  | .mret => b.setHart h x.mret
  | .sret => b.setHart h x.sret
  | .word _ => b

/-- The old value of a CSR goes to a register of hart `h`, which no command names (assumption 97). -/
def Blk.giveOld (b : Blk) (h : Nat) : Blk :=
  match b.resp with
  | .data v =>
    if isApp h then
      b.draw.2.setHart h { b.hartOf h with xa := (b.hartOf h).xa.set (fun _ => 0) (b.draw.1 % 31 + 1) v }
    else b.giveRd h v
  | _ => b

/-- Hart `h` executes instruction `o`: in Recut mode it is serialising and acts at the commit (R502). An encoding of the
custom-0 space for which the table has a row does here nothing. -/
def Blk.doSys (b : Blk) (h : Nat) (o : SysOp) : Blk :=
  match (b.hartOf h).sysBar h o, o with
  | some c, o => (b.sysTval o).2.except (.hart h) c (b.sysTval o).1 .illegal
  | none, .word _ => b
  | none, o =>
    if b.recut h then
      b.serialise h (.sys o) 0 (match o with
        | .csr _ v _ => v
        | _ => 0)
    else (b.draw.2.sysAct h b.draw.1 o).giveOld h

/-! ## The debugger -/

/-- The debugger's other requests (R494, R514), once debug is unlocked (R626): a halted hart resumes, in Single mode, or
runs one instruction; EBREAK enters debug mode or not. -/
def Blk.dbgAct (b : Blk) (o : DbgOp) : Blk :=
  if b.fld F.KV_STAT_DBG_LEVEL == 0 then b
  else
    match o with
    | .resume h =>
      if isHart h && b.hartState h == 3 then
        ({ b with k := { b.k with dm :=
          { b.k.dm with
            hartsel := h
            haltreq := b.k.dm.haltreq - (b.k.dm.haltreq &&& 2 ^ h)
            resumed := b.k.dm.resumed ||| 2 ^ h } } } : Blk).put (F.SYSCTL_HART_STAT_STATE h) 1
      else b
    | .step h => if isSafety h && b.hartState h == 3 then b.ranAlone h else b
    | .ebreaks h e =>
      if isHart h then
        b.setHart h
          { b.hartOf h with
            dbgBrk := e }
      else b

/-- What the debugger does on this tick. -/
def Blk.dbgTick (b : Blk) : Blk :=
  if b.kcRun && b.fld F.KV_STAT_DBG_LEVEL != 0 then ((Config.dbgOp b.clk).map b.dbgAct).getD b else b

/-! ## A tick of a hart -/

/-- Time ends the start phase and the hand-over of hart `h`, 16 core clocks each (R500). -/
def Blk.phaseTick (b : Blk) (h : Nat) : Blk :=
  if b.clk < (b.hartOf h).phAt + 8 then b
  else if b.phase h = 1 then (b.beginOne h).redoGo h
  else if b.phase h = 3 then b.put (F.RCX_STAT_PHASE (h - 16)) 4
  else b

/-- An interrupt to be taken ends pass one of hart `h` outside a group; it does not shorten a re-run (R508, R510). -/
def Blk.irqEnds (b : Blk) (h : Nat) : Bool :=
  b.passOne h && (b.irq h).isSome && !b.on (F.RCX_STAT_GROUP (h - 16)) && !(b.hartOf h).rerun

/-- Hart `h` executes what instruction the tick brings, if it is one of the system. -/
def Blk.sysTick (b : Blk) (h : Nat) : Blk := ((Config.sysOp h b.clk).map (b.doSys h)).getD b

/-- A tick of hart `h` that runs: in Single mode it takes its interrupt first; one that waits for an access executes
nothing. -/
def Blk.runTick (b : Blk) (h : Nat) : Blk :=
  if b.recut h then
    let b1 := b.phaseTick h
    if b1.irqEnds h then b1.endBefore h else if b1.passOne h then b1.sysTick h else b1
  else if b.waits h then b
  else if (b.irq h).isSome then b.draw.2.takeIrqAt h b.draw.1
  else if (b.hartOf h).ffWait.isSome then b
  else b.sysTick h

/-- A tick of hart `h`: a CMD RESET that waited for its accesses acts (R472), a WFI ends. -/
def Blk.hartTick (b : Blk) (h : Nat) : Blk :=
  if (b.hartOf h).rstWait then (if b.waits h then b else b.hartStop h 0)
  else if b.hartState h == 2 then (if b.wakes h then b.put (F.SYSCTL_HART_STAT_STATE h) 1 else b)
  else if b.runs h then b.runTick h
  else b

/-- A tick of the cores and their debugger; what an instruction of theirs answers is no answer to a command. -/
def Blk.coresTick (b : Blk) : Blk :=
  if b.kcRun then { harts.foldl Blk.hartTick b.dbgTick with resp := b.resp } else b

end Sys2Proof.Machine
end

