-- ==== Sys2Proof/Machine/Atu.lean ====
section
/-!
DEFINITION. Machine/Atu.lean: the address translation unit and the DMA of devices (R550 to R570).
-/

namespace Sys2Proof.Machine

/-- The OWN type of a device, by SRC of R568: queue pair, CAN group, CVU ring, crypto queue. -/
def devType (src : Nat) : Nat :=
  match src with
  | 1 => 0x05
  | 2 => 0x06
  | 3 => 0x09
  | _ => 0x0a

/-- Does resource `u` of SRC `src` exist (R550)? -/
def devExists (src u : Nat) : Bool :=
  ((src == 1 || src == 2) && u < 128) || ((src == 3 || src == 4) && u < 16)

/-- The context that owns a device. -/
def Blk.devCtx (b : Blk) (src u : Nat) : Nat := (b.ownOf (devType src) u).ctx

def Blk.setAtu (b : Blk) (f : Atu → Atu) : Blk := { b with k := { b.k with atu := f b.k.atu } }

/-- GEN of context `c` (R558). -/
def Blk.genOf (b : Blk) (c : Nat) : Nat := b.fld (F.ATU_CTX_STAT_GEN c)

/-- The root of context `c` acts as MODE 8 (R555, R568). -/
def Blk.rootOn (b : Blk) (c : Nat) : Bool :=
  let t := b.fld (F.ATU_ROOT_HI_TCTX c)
  b.fld (F.ATU_ROOT_LO_MODE c) == 8 && (t == 0 || t == 1 || t == c)

/-- INFLIGHT follows the bursts past the ATU; it saturates. Once it has reached 0 the wait after a BUMP is over
(R560). -/
def Blk.flySync (b : Blk) (c : Nat) : Blk :=
  let n := (b.k.atu.fly.filter (fun x => x.ctx == c)).length +
    (b.k.atu.stall.filter (fun x => x.1.ctx == c)).length
  (b.put (F.ATU_CTX_STAT_INFLIGHT c) (min 65535 n)).setAtu (fun a =>
    if n = 0 then { a with bumpAt := a.bumpAt.set (fun _ => 0) c 0 } else a)

/-! ## TLB -/

/-- The VPN with the bits that a leaf of level `l` does not compare made 0. -/
def vpnAt (vpn l : Nat) : Nat := vpn / 2 ^ (9 * l) * 2 ^ (9 * l)

/-- The set of a leaf at level `l` (R556). -/
def tlbSet (c vpn l : Nat) : Nat := (vpn / 2 ^ (10 * l) % 1024) ^^^ (c * 4 % 1024)

def Blk.tlbWays (b : Blk) (k : Nat) : List TlbEntry := b.k.atu.tlb.get (fun _ => []) k

def Blk.setTlbWays (b : Blk) (k : Nat) (l : List TlbEntry) : Blk :=
  b.setAtu (fun a =>
    { a with
      tlb := a.tlb.set (fun _ => []) k l })

/-- The entry that translates `vpn` for context `c`. -/
def Blk.tlbHit (b : Blk) (c vpn : Nat) : Option TlbEntry :=
  [0, 1, 2].findSome? (fun l =>
    (b.tlbWays (tlbSet c vpn l)).find? (fun e =>
      e.ctx == c && e.level == l && e.vpn == vpnAt vpn l && e.gen == b.genOf c))

/-- Entry `e` becomes the most recently used of its set (R556). -/
def Blk.tlbUse (b : Blk) (e : TlbEntry) : Blk :=
  let k := tlbSet e.ctx e.vpn e.level
  b.setTlbWays k ((e :: (b.tlbWays k).filter (fun x =>
    !(x.ctx == e.ctx && x.level == e.level && x.vpn == e.vpn))).take 4)

/-- The TLB without the entries that `p` names. -/
def Blk.tlbDrop (b : Blk) (p : TlbEntry → Bool) : Blk :=
  b.setAtu (fun a =>
    { a with
      tlb := (a.tlb.map (fun e => (e.1, e.2.filter (fun x => !p x)))).filter (fun e => e.2 != []) })

/-- The ATU keeps no entry after a fault (R556). -/
def Blk.tlbForget (b : Blk) (e : TlbEntry) : Blk :=
  b.tlbDrop (fun x => x.ctx == e.ctx && x.level == e.level && x.vpn == e.vpn)

/-! ## Table walk -/

/-- The end of a table walk: a leaf, or the reason of a translation fault (R554). -/
inductive Walk where
  | leaf (e : TlbEntry)
  | bad (reason : Nat)
deriving DecidableEq, Repr

/-- The levels of a walk from `l` down, the table at `t` (R554, R555). A poisoned table entry ends it as one that may
not be read does (R478). -/
def Blk.walkLevel (b : Blk) (m : List Host.Cell) (c vpn : Nat) (write : Bool) :
    Nat → Nat → Walk × Blk
  | l, t =>
    let tc := b.fld (F.ATU_ROOT_HI_TCTX c)
    let a := t + 8 * (vpn / 2 ^ (9 * l) % 512)
    let r := b.judgeNow m (b.ctxSecure tc) tc .read a none
    match r.1 with
    | .accept =>
      if r.2.poisoned a 8 then (.bad 7, r.2) else
      let p := memLe m a 8
      let ppn := p / 2 ^ 10 % 2 ^ 44
      let rr := p.testBit 1
      let ww := p.testBit 2
      if !p.testBit 0 || (ww && !rr) then (.bad 3, r.2)
      else if p / 2 ^ 54 ≠ 0 ∨ 2 ^ 28 ≤ ppn then (.bad 6, r.2)
      else if !rr && !p.testBit 3 then
        match l with
        | 0 => (.bad 3, r.2)
        | l + 1 => r.2.walkLevel m c vpn write l (ppn * 4096)
      else if ppn % 2 ^ (9 * l) ≠ 0 then (.bad 6, r.2)
      else if (!write && !rr) || (write && !ww) then (.bad 4, r.2)
      else if !p.testBit 6 || (write && !p.testBit 7) then (.bad 5, r.2)
      else (.leaf ⟨c, vpnAt vpn l, l, ppn, rr, ww, p.testBit 7, b.genOf c⟩, r.2)
    | .refuse n s => (.bad 7, r.2.pageRefused (b.ctxSecure tc) tc .read a n s)
    | _ => (.bad 7, r.2)
  termination_by structural l => l

/-- The root table of context `c`. -/
def Blk.rootOf (b : Blk) (c : Nat) : Nat :=
  b.fld (F.ATU_ROOT_HI_ADDR c) * 2 ^ 32 + b.fld (F.ATU_ROOT_LO_ADDR c) * 4096

/-- The translation that a TLB entry gives, or the fault its permissions give (R554). -/
def TlbEntry.use (e : TlbEntry) (vpn : Nat) (write : Bool) : Except Nat Nat :=
  if (!write && !e.r) || (write && !e.w) then .error 4
  else if write && !e.d then .error 5
  else .ok (e.ppn + vpn % 2 ^ (9 * e.level))

/-- Does the address fail the check of its upper bits (R554, reason 2)? -/
def vaBad (va : Nat) : Bool := va / 2 ^ 38 % 2 ^ 26 != 0 && va / 2 ^ 38 % 2 ^ 26 != 2 ^ 26 - 1

/-- The first free log entry of R568. -/
def Blk.atuSlot (b : Blk) : Option Nat :=
  (List.range 16).find? (fun k => !b.on (F.ATU_FLT_INFO_VALID k))

/-- A translation fault is logged and raises FS199 (R567, R568). -/
def Blk.atuFault (b : Blk) (x : Dma) (reason : Nat) : Blk :=
  let b1 := ((b.incWrap (F.ATU_TFLT_TFLT x.ctx)).setBit F.ATU_EVT_EVT 0).raise 199 (x.va / 4096) (some x.ctx)
  match b1.atuSlot with
  | none => b1.incWrap F.ATU_FLT_LOST_LOST
  | some k =>
    ((((((((b1.put (F.ATU_FLT_VA_LO_VA k) x.va).put (F.ATU_FLT_VA_HI_VA k) (x.va / 2 ^ 32)).put
      (F.ATU_FLT_INFO_VALID k) 1).putB (F.ATU_FLT_INFO_WRITE k) x.write).put (F.ATU_FLT_INFO_SRC k)
      (if reason = 7 then 5 else x.src)).put (F.ATU_FLT_INFO_UNIT k) x.unit).put (F.ATU_FLT_INFO_REASON k)
      reason).put (F.ATU_FLT_INFO_GEN k) x.gen).put (F.ATU_FLT_INFO_CTX k) x.ctx

/-! ## A burst at its target -/

/-- The bitmap bit of a device write (R563, R564): the block after it, and whether the write goes on. -/
def Blk.dirtyMark (b : Blk) (m : List Host.Cell) (x : Dma) (pa : Nat) : Bool × Blk × List Host.Cell :=
  let c := x.ctx
  if b.on (F.ATU_DIRTY_CTL_EN c) && x.write && regionOf pa == some .dram then
    let i := potIndex pa
    let f := b.fld (F.ATU_DIRTY_FIRST_FIRST c)
    if f ≤ i ∧ i < f + b.fld (F.ATU_DIRTY_COUNT_COUNT c) then
      let j := i - f
      let a := b.fld (F.ATU_DIRTY_BASE_HI_ADDR c) * 2 ^ 32 + b.fld (F.ATU_DIRTY_BASE_LO_ADDR c) * 4096 + j / 8
      let o := (b.ownOf 0x01 8).ctx
      let r := b.judgeNow m (b.ctxSecure o) o .atomic a none
      match (if r.1 = .accept ∧ r.2.poisoned a 1 = true then .busError else r.1) with
      | .accept =>
        let q := r.2.memStore m a 1 ((memByte m a).toNat ||| 2 ^ (j % 8)) none
        (true, q.1, q.2)
      | v =>
        let b1 := match v with
          | .refuse n s => r.2.pageRefused (b.ctxSecure o) o .atomic a n s
          | _ => r.2
        (false, (((((b1.put (F.ATU_DIRTY_CTL_ERR c) 1).put (F.ATU_DIRTY_CTL_EN c) 0).setBit F.ATU_EVT_EVT 1).raise
          206 (x.va / 4096) (some c)).atuFault x 8), m)
    else (true, b.put (F.ATU_DIRTY_CTL_OOR c) 1, m)
  else (true, b, m)

/-- What became of a burst: its data (none for a write), refused, or abandoned because its context is stopped or its
GEN is stale (R552). -/
inductive DmaEnd where
  | ok (data : List Byte)
  | refused
  | held
deriving DecidableEq, Repr

/-- A write of bytes by a device. -/
def Blk.devStore (b : Blk) (m : List Host.Cell) (a : Nat) (l : List Byte) : Blk × List Host.Cell :=
  ((((b.clearBlock a).breakResv a none).lineSnoop a none).unpoison a l.length, memWrite m a l)

/-- Does the throttle stall the write at `pa`, or does an earlier stalled write of its context stand before it
(R232)? -/
def Blk.throttled (b : Blk) (x : Dma) (pa : Nat) : Bool :=
  x.write && regionOf pa == some .mram && (!b.mramRoom x.ctx x.n || b.k.atu.stall.any (fun y => y.1.ctx == x.ctx))

/-- A write beyond the throttle waits (R232). -/
def Blk.stallDma (b : Blk) (x : Dma) (pa : Nat) : Blk :=
  (b.setAtu (fun a => { a with stall := a.stall ++ [(x, pa)] })).flySync x.ctx

/-- A translated burst: dirty mark, judgement at the target, the access (R554, R563); the throttle counts a write
of MRAM (R232). -/
def Blk.atTarget (b : Blk) (m : List Host.Cell) (x : Dma) (pa : Nat) : DmaEnd × Blk × List Host.Cell :=
  let d := b.dirtyMark m x pa
  if d.1 then
    let r := d.2.1.devJudge d.2.2 (b.ctxSecure x.ctx) x.ctx (if x.write then .devWrite else .devRead) pa
    if r.1 then
      if x.write then
        let q := (if regionOf pa == some .mram then r.2.mramCount x.ctx x.n else r.2).devStore d.2.2 pa x.data
        (.ok [], q.1, q.2)
      else if r.2.poisoned pa x.n then (.refused, r.2, d.2.2)
      else (.ok (memBytes d.2.2 pa x.n), r.2, d.2.2)
    else (.refused, r.2, d.2.2)
  else (.refused, d.2.1, d.2.2)

/-- A translated burst of a device's own command: a write that the throttle stalls is judged and lands when the
throttle lets it (R232, log 64). -/
def Blk.toTarget (b : Blk) (m : List Host.Cell) (x : Dma) (pa : Nat) : DmaEnd × Blk × List Host.Cell :=
  if b.throttled x pa then
    let r := b.devJudge m (b.ctxSecure x.ctx) x.ctx .devWrite pa
    if r.1 then (.ok [], r.2.stallDma x pa, m) else (.refused, r.2, m)
  else b.atTarget m x pa

/-- A burst whose walk, if it needs one, is made at once: GEN, stop, translation, target (R554 to R564). DEDUCED: the
device abandons one that finds its context stopped, and it is counted (R552, R561; log 99). -/
def Blk.burst (b : Blk) (m : List Host.Cell) (x : Dma) : DmaEnd × Blk × List Host.Cell :=
  let vpn := x.va / 4096 % 2 ^ 27
  if x.gen ≠ b.genOf x.ctx then (.held, b.incWrap (F.ATU_STALE_REQ_REQ x.ctx), m)
  else if b.on (F.ATU_CTX_STAT_STOPPED x.ctx) then (.held, b.incWrap (F.ATU_STALE_REQ_REQ x.ctx), m)
  else if !b.rootOn x.ctx then (.refused, b.atuFault x 1, m)
  else if vaBad x.va then (.refused, b.atuFault x 2, m)
  else
    let go (b : Blk) (e : TlbEntry) : DmaEnd × Blk × List Host.Cell :=
      match e.use vpn x.write with
      | .ok ppn => (b.tlbUse e).toTarget m x (ppn * 4096 + x.va % 4096)
      | .error r => (.refused, (b.tlbForget e).atuFault x r, m)
    match b.tlbHit x.ctx vpn with
    | some e => go b e
    | none =>
      match b.walkLevel m x.ctx vpn x.write 2 (b.rootOf x.ctx) with
      | (.leaf e, b1) => go b1 e
      | (.bad r, b1) => (.refused, b1.atuFault x r, m)

/-! ## DMA of a device, as the commands of the devices use it -/

/-- How many bytes of `n` from `va` on one burst takes (R551). -/
def burstLen (va n : Nat) : Nat := min n (64 - va % 64)

/-- A device reads `n` bytes at `va`, burst by burst (`fuel` bounds the bursts). -/
def Blk.dmaRead (b : Blk) (m : List Host.Cell) (src u va n : Nat) : Nat → DmaEnd × Blk × List Host.Cell
  | 0 => (.ok [], b, m)
  | fuel + 1 =>
    if n = 0 then (.ok [], b, m)
    else
      let k := burstLen va n
      let c := b.devCtx src u
      match b.burst m ⟨src, u, c, b.genOf c, va, false, [], k, false⟩ with
      | (.ok d, b1, m1) =>
        match b1.dmaRead m1 src u (va + k) (n - k) fuel with
        | (.ok d', b2, m2) => (.ok (d ++ d'), b2, m2)
        | r => r
      | r => r

/-- A device writes bytes at `va`, burst by burst. -/
def Blk.dmaWrite (b : Blk) (m : List Host.Cell) (src u va : Nat) (l : List Byte) :
    Nat → DmaEnd × Blk × List Host.Cell
  | 0 => (.ok [], b, m)
  | fuel + 1 =>
    if l = [] then (.ok [], b, m)
    else
      let k := burstLen va l.length
      let c := b.devCtx src u
      match b.burst m ⟨src, u, c, b.genOf c, va, true, l.take k, k, false⟩ with
      | (.ok _, b1, m1) => b1.dmaWrite m1 src u (va + k) (l.drop k) fuel
      | r => r

/-- The bursts that `n` bytes may take. -/
def dmaFuel (n : Nat) : Nat := n / 64 + 2

/-- A read of `n` bytes. -/
def Blk.rd (b : Blk) (m : List Host.Cell) (src u va n : Nat) : DmaEnd × Blk × List Host.Cell :=
  b.dmaRead m src u va n (dmaFuel n)

/-- A write of bytes. -/
def Blk.wr (b : Blk) (m : List Host.Cell) (src u va : Nat) (l : List Byte) :
    DmaEnd × Blk × List Host.Cell :=
  b.dmaWrite m src u va l (dmaFuel l.length)

/-! ## Bursts one by one -/

/-- A burst past the ATU reaches `pa`, and its completion is on its way (R560). -/
def Blk.flyTo (b : Blk) (m : List Host.Cell) (x : Dma) (pa : Nat) : Blk × List Host.Cell :=
  let r := b.atTarget m x pa
  match r.1 with
  | .ok d =>
    ((r.2.1.setAtu (fun a =>
      { a with
        fly := a.fly ++ [{ x with
          data := d }] })).flySync x.ctx, r.2.2)
  | _ => (r.2.1.flySync x.ctx, r.2.2)

/-- A translated burst that has passed the ATU is in flight until its completion is taken (R560); the MRAM throttle
holds a write beyond it (R232). -/
def Blk.launch (b : Blk) (m : List Host.Cell) (x : Dma) (e : TlbEntry) : Blk × List Host.Cell :=
  match e.use (x.va / 4096 % 2 ^ 27) x.write with
  | .error r => ((b.tlbForget e).atuFault x r, m)
  | .ok ppn =>
    let pa := ppn * 4096 + x.va % 4096
    let b1 := b.tlbUse e
    if b1.throttled x pa then (b1.stallDma x pa, m) else b1.flyTo m x pa

/-- The oldest device write that the throttle held proceeds as far as the new millisecond allows (R232). -/
def Blk.drainDma (b : Blk) (m : List Host.Cell) : Blk × List Host.Cell :=
  match b.k.atu.stall with
  | [] => (b, m)
  | (x, pa) :: l =>
    if b.mramRoom x.ctx x.n then
      (b.setAtu (fun a =>
        { a with
          stall := l })).flyTo m x pa
    else (b, m)

/-- A burst reaches the ATU (R554, R560, R562). -/
def Blk.dmaArrive (b : Blk) (m : List Host.Cell) (x : Dma) : Blk × List Host.Cell :=
  if x.gen ≠ b.genOf x.ctx then (b.incWrap (F.ATU_STALE_REQ_REQ x.ctx), m)
  else if b.on (F.ATU_CTX_STAT_STOPPED x.ctx) then
    (b.setAtu (fun a =>
      { a with
        hold := a.hold ++ [x] }), m)
  else if !b.rootOn x.ctx then (b.atuFault x 1, m)
  else if vaBad x.va then (b.atuFault x 2, m)
  else
    match b.tlbHit x.ctx (x.va / 4096 % 2 ^ 27) with
    | some e => b.launch m x e
    | none =>
      (b.setAtu (fun a =>
        { a with
          walk := a.walk ++ [x] }), m)

/-- The oldest walk ends (R554, R557, R566). -/
def Blk.walkEnd (b : Blk) (m : List Host.Cell) : Blk × List Host.Cell :=
  match b.k.atu.walk with
  | [] => (b, m)
  | x :: l =>
    if x.again then
      (b.setAtu (fun a =>
        { a with
          walk := l ++ [{ x with
            again := false }] }), m)
    else
      let b1 := b.setAtu (fun a =>
        { a with
          walk := l })
      if x.gen ≠ b.genOf x.ctx then (b1.incWrap (F.ATU_STALE_REQ_REQ x.ctx), m)
      else
        match b1.walkLevel m x.ctx (x.va / 4096 % 2 ^ 27) x.write 2 (b1.rootOf x.ctx) with
        | (.leaf e, b2) => b2.launch m x e
        | (.bad r, b2) => (b2.atuFault x r, m)

/-- The oldest completion returns to its device (R560, R561); a stale one is discarded. -/
def Blk.dmaComplete (b : Blk) : Blk :=
  match b.k.atu.fly with
  | [] => b
  | x :: l =>
    let b1 := (b.setAtu (fun a =>
      { a with
        fly := l })).flySync x.ctx
    if x.gen = b.genOf x.ctx then { b1 with resp := if x.write then .done else .data (leNat x.data) }
    else
      let b2 := b1.incWrap (F.ATU_STALE_CPL_CPL x.ctx)
      if b.k.atu.told.get (fun _ => true) x.ctx then b2
      else (b2.setAtu (fun a =>
        { a with
          told := a.told.set (fun _ => true) x.ctx true })).raise 207 x.unit (some x.ctx)

/-! ## Operations on a context -/

/-- Is a BUMP of context `c` refused (R559)? -/
def Blk.bumpRefused (b : Blk) (c : Nat) : Bool :=
  let old (x : Dma) : Bool := x.ctx == c && x.gen != b.genOf c
  b.k.atu.walk.any old || b.k.atu.hold.any old || b.k.atu.fly.any old || b.k.atu.stall.any (fun x => old x.1)

/-- GEN of context `c` goes on (R559). -/
def Blk.bump (b : Blk) (c : Nat) : Blk :=
  (b.incWrap (F.ATU_CTX_STAT_GEN c)).setAtu (fun a =>
    { a with
      bumpAt := a.bumpAt.set (fun _ => 0) c (if b.on (F.ATU_CTX_STAT_INFLIGHT c) then b.clk + 1 else 0)
      told := a.told.set (fun _ => true) c false })

/-- The held bursts of context `c` proceed, in order (R562). -/
def Blk.unhold (b : Blk) (m : List Host.Cell) (c : Nat) : Blk × List Host.Cell :=
  let mine := b.k.atu.hold.filter (fun x => x.ctx == c)
  let b1 := b.setAtu (fun a =>
    { a with
      hold := a.hold.filter (fun x => x.ctx != c) })
  mine.foldl (fun r x => r.1.dmaArrive r.2 x) (b1, m)

/-- An operation of context `c` takes effect (R562). -/
def Blk.ctxOp (b : Blk) (m : List Host.Cell) (c op : Nat) : Blk × List Host.Cell :=
  match op with
  | 1 => (b.put (F.ATU_CTX_STAT_STOPPED c) 1, m)
  | 2 =>
    if b.rootOn c then
      ((b.put (F.ATU_CTX_STAT_STOPPED c) 0).put (F.ATU_CTX_STAT_REMOVED c) 0).unhold m c
    else (b.put (F.ATU_CTX_STAT_REFUSED c) 1, m)
  | 3 => if b.bumpRefused c then (b.put (F.ATU_CTX_STAT_REFUSED c) 1, m) else (b.bump c, m)
  | _ =>
    if b.bumpRefused c then (b.put (F.ATU_CTX_STAT_REFUSED c) 1, m)
    else
      ((((((b.put (F.ATU_CTX_STAT_STOPPED c) 1).bump c).tlbDrop (fun e => e.ctx == c)).put
        (F.ATU_CTX_STAT_REMOVED c) 1).put (F.ATU_ROOT_LO_MODE c) 0), m)

/-- An operation is written (R562): BUSY until it has taken effect. -/
def Blk.ctxWrite (b : Blk) (c op : Nat) : Blk :=
  (b.put (F.ATU_CTX_STAT_BUSY c) 1).setAtu (fun a =>
    { a with
      ops := a.ops ++ [(c, op)] })

/-- The oldest operation of context `c` takes effect. -/
def Blk.ctxDone (b : Blk) (m : List Host.Cell) (c : Nat) : Blk × List Host.Cell :=
  match b.k.atu.ops.find? (fun x => x.1 == c) with
  | none => (b, m)
  | some x =>
    let l := b.k.atu.ops.erase x
    let b1 := b.setAtu (fun a =>
      { a with
        ops := l })
    (b1.putB (F.ATU_CTX_STAT_BUSY c) (l.any (fun y => y.1 == c))).ctxOp m c x.2

/-! ## Meanings -/

/-- A device issues a burst (R551, R554): the resource, the GEN it carries, the device address, and the data
of a write or the length of a read. -/
def execDeviceDmaRequest (src u gen va : Nat) (write : Bool) (data : List Byte) (n : Nat) (s : State) :
    Host.Outcome State Fault Refusal :=
  onMem (devExists src u) s (fun b m =>
    let k := if write then data.length else n
    if b.kcRun && 0 < k && k ≤ burstLen va 64 then
      b.dmaArrive m ⟨src, u, b.devCtx src u, gen % 256, va % 2 ^ 64, write, if write then data else [], k, false⟩
    else (b, m))

/-- A table walk ends (R554). -/
def execPageWalkComplete (s : State) : Host.Outcome State Fault Refusal :=
  onMem true s (fun b m => b.walkEnd m)

/-- A completion returns (R560). -/
def execDmaCompletion (s : State) : Host.Outcome State Fault Refusal :=
  onBlk true s (fun b => b.dmaComplete)

/-- A write of ATU_INV (R557): one invalidation at a time; a walk that it concerns is made again. -/
def Blk.atuInv (b : Blk) (all range : Bool) (c : Nat) : Blk :=
  if b.on F.ATU_INV_BUSY then b
  else
    (b.put F.ATU_INV_BUSY 1).setAtu (fun a =>
      { a with
        inv := some (all, range, c % 256, b.fld F.ATU_INV_VA_HI_VA * 2 ^ 20 + b.fld F.ATU_INV_VA_LO_VA,
          max 1 (b.fld F.ATU_INV_CNT_CNT))
        walk := a.walk.map (fun x => if all || x.ctx == c % 256 then { x with
          again := true } else x) })

/-- A write of ATU_INV (R557). -/
def execAtuInvalidate (i : Init) (all range : Bool) (c : Nat) (s : State) :
    Host.Outcome State Fault Refusal :=
  onBlk true s (fun b => b.onWrite i R.ATU_INV
    (F.ATU_INV_ALL.word all.toNat ||| F.ATU_INV_RANGE.word range.toNat ||| F.ATU_INV_CTX.word c) (fun b => b.atuInv all range c))

/-- Does the entry overlap `n` pages from page `v` (R557)? -/
def TlbEntry.inRange (e : TlbEntry) (v n : Nat) : Bool :=
  e.vpn < v + n && v < e.vpn + 2 ^ (9 * e.level)

/-- The removal is complete (R557). -/
def execAtuInvalidateDone (s : State) : Host.Outcome State Fault Refusal :=
  onBlk true s (fun b =>
    match b.k.atu.inv with
    | none => b
    | some (all, range, c, v, n) =>
      ((b.put F.ATU_INV_BUSY 0).setAtu (fun a =>
        { a with
          inv := none })).tlbDrop (fun e => all || (e.ctx == c && (!range || e.inRange v n))))

/-- ATU_CTX_CTL of context `c` with OP STOP (R562). -/
def execStop (i : Init) (c : Nat) (s : State) : Host.Outcome State Fault Refusal :=
  onBlk (c < 256) s (fun b => b.onWrite i (R.ATU_CTX_CTL c) ((F.ATU_CTX_CTL_OP c).word 1) (fun b => b.ctxWrite c 1))

/-- ATU_CTX_CTL of context `c` with OP START (R562). -/
def execStart (i : Init) (c : Nat) (s : State) : Host.Outcome State Fault Refusal :=
  onBlk (c < 256) s (fun b => b.onWrite i (R.ATU_CTX_CTL c) ((F.ATU_CTX_CTL_OP c).word 2) (fun b => b.ctxWrite c 2))

/-- ATU_CTX_CTL of context `c` with OP BUMP (R559). -/
def execBump (i : Init) (c : Nat) (s : State) : Host.Outcome State Fault Refusal :=
  onBlk (c < 256) s (fun b => b.onWrite i (R.ATU_CTX_CTL c) ((F.ATU_CTX_CTL_OP c).word 3) (fun b => b.ctxWrite c 3))

/-- ATU_CTX_CTL of context `c` with OP REMOVE (R562). -/
def execRemove (i : Init) (c : Nat) (s : State) : Host.Outcome State Fault Refusal :=
  onBlk (c < 256) s (fun b => b.onWrite i (R.ATU_CTX_CTL c) ((F.ATU_CTX_CTL_OP c).word 4) (fun b => b.ctxWrite c 4))

/-- ATU_CTX_CTL of context `c` with another OP (R562). -/
def execCtxOpIgnored (i : Init) (c : Nat) (s : State) : Host.Outcome State Fault Refusal :=
  onBlk (c < 256) s (fun b => b.onWrite i (R.ATU_CTX_CTL c) 0 (fun b => b))

/-- The oldest operation of context `c` takes effect (R562). -/
def execCtxOpDone (c : Nat) (s : State) : Host.Outcome State Fault Refusal :=
  onMem (c < 256) s (fun b m => b.ctxDone m c)

/-- INFLIGHT of context `c` has not reached 0 within 1 ms of a BUMP (R560). -/
def execDrainTimeout (c : Nat) (s : State) : Host.Outcome State Fault Refusal :=
  onBlk (c < 256) s (fun b =>
    let t := b.k.atu.bumpAt.get (fun _ => 0) c
    if t ≠ 0 ∧ t + tickMs ≤ b.clk + 1 ∧ b.on (F.ATU_CTX_STAT_INFLIGHT c) then
      ((b.setAtu (fun a =>
        { a with
          bumpAt := a.bumpAt.set (fun _ => 0) c 0 })).setBit F.ATU_EVT_EVT 2).raise 208 c (some c)
    else b)

/-- A write of ATU_DIRTY_CTL of context `c` with SYNC 1 (R565). -/
def execSync (i : Init) (c : Nat) (v : W32) (s : State) : Host.Outcome State Fault Refusal :=
  onBlk (c < 256) s (fun b => b.onWrite i (R.ATU_DIRTY_CTL c) (v ||| (F.ATU_DIRTY_CTL_SYNC c).word 1) (fun b =>
    (b.writeReg (R.ATU_DIRTY_CTL c) v).put (F.ATU_DIRTY_CTL_BUSY c) 1))

/-- The SYNC of context `c` takes hold (R565). -/
def execSyncDone (c : Nat) (s : State) : Host.Outcome State Fault Refusal :=
  onBlk (c < 256) s (fun b => b.put (F.ATU_DIRTY_CTL_BUSY c) 0)

end Sys2Proof.Machine
end

