-- ==== Sys2Proof/Machine/Bridge.lean ====
section
/-!
DEFINITION. Machine/Bridge.lean: the field bridge (R571 to R592): its queues, late errors, semaphores,
interrupt messages and FENCE.FIELD. `Machine/Access.lean` applies its transactions at their targets.
-/

namespace Sys2Proof.Machine

def Blk.setBrg (b : Blk) (f : Brg → Brg) : Blk := { b with k := { b.k with brg := f b.k.brg } }

/-- The target of a field-space address: 0 to 7 a UH sub-block, 16 + n die BFn. -/
def fieldTarget (a : Nat) : Nat :=
  match dieOfAddr a with
  | some n => 16 + n
  | none => (a - 0x50000000) / 0x10000

/-- Has a transaction still to reach its target? -/
def Tx.down (x : Tx) : Bool := !x.applied && x.fail == 0

/-- Must transaction `x` wait for the earlier `y` (R577)? -/
def Tx.behind (x y : Tx) : Bool :=
  y.down && fieldTarget x.addr == fieldTarget y.addr && (!x.posted || y.posted || x.addr == y.addr)

/-- Posted writes to target `t` not yet applied. -/
def Blk.postedTo (b : Blk) (t : Nat) : Nat :=
  (b.k.brg.tx.filter (fun x => x.posted && x.down && fieldTarget x.addr == t)).length

/-- The posted writes that the queues behind the KC side cannot take: a die and its link hold 12, the
die-to-die segment 32 (R571). -/
def Blk.kcSide (b : Blk) : Nat :=
  let excess := ((List.range 28).map (fun t => b.postedTo t - (if 16 ≤ t then 12 else 0))).foldl (· + ·) 0
  excess - 32

/-- Tags in use (R576). -/
def Blk.tags (b : Blk) : Nat := (b.k.brg.tx.filter (fun x => !x.posted && !x.dead)).length

/-- BRG_STAT follows the queues (R591). -/
def Blk.brgSync (b : Blk) : Blk :=
  (b.put F.BRG_STAT_TAGS b.tags).put F.BRG_STAT_PQ
    (min 255 (b.k.brg.tx.filter (fun x => x.posted && !x.dead)).length)

/-- Is a write to field address `a` non-posted (R573, R574)? -/
def Blk.nonPosted (b : Blk) (a : Nat) : Bool :=
  let off := (a - 0x50000000) / 4096
  !b.on F.BPL_STATUS_APPLIED || b.on F.BRG_CTL_NP_ALL ||
    match (List.range 16).find? (fun k =>
      b.on (F.BRG_RD_CTL_EN k) && b.fld (F.BRG_RD_BASE_BASE k) ≤ off && off ≤ b.fld (F.BRG_RD_LIMIT_LIMIT k)) with
    | some k => b.on (F.BRG_RD_CTL_NP k)
    | none => false

/-- CPL_TMO in ticks (R591). -/
def Blk.cplTmo (b : Blk) : Nat := max 10 (min 200 (b.fld F.BRG_CTL_CPL_TMO)) * tickUs

/-- The offset bits 25:2 of a word of field space, and its semaphore (R581). -/
def wordOf (a : Nat) : Nat := (a - 0x50000000) / 4
def semOf (a : Nat) : Nat := a / 4 % 16

/-- A write to the word at `a` is accepted: a reservation of it breaks (R581). -/
def Blk.semBreak (b : Blk) (a : Nat) : Blk :=
  let k := semOf a
  if b.on (F.BRG_SEM_HELD k) && b.fld (F.BRG_SEM_WORD k) == wordOf a then (b.put (F.BRG_SEM_HELD k) 0).semSync
  else b

/-- A transaction enters the bridge. -/
def Blk.txAdd (b : Blk) (x : Tx) : Blk :=
  (b.setBrg (fun g =>
    { g with
      tx := g.tx ++ [x] })).brgSync

/-- A field-space write that the KC side has judged (R571, R573 to R575). -/
def Blk.fieldWrite (b : Blk) (i : Init) (a v : Nat) : Blk :=
  let c := ((b.attr i).getD (true, 0)).2
  if b.nonPosted a then
    if 32 ≤ b.tags then { b with resp := .pending }
    else
      { (b.semBreak a).txAdd
          { init := i, mark := i == .boot, write := true, posted := false, addr := a, val := v, ctx := c, gen := b.genOf c,
            tick := b.clk, late := (b.recutInit i).isSome } with
        resp := .pending }
  else if 64 ≤ b.kcSide then { b with resp := .pending }
  else
    let q := (b.k.brg.seq + 1) % 65536
    { ((b.semBreak a).setBrg (fun g =>
        { g with
          seq := q })).txAdd
          { init := i, mark := i == .boot, write := true, posted := true, addr := a, val := v, ctx := c, gen := b.genOf c,
            bseq := q, tick := b.clk } with
      resp := .done }

/-- A field-space read that the KC side has judged (R576). -/
def Blk.fieldRead (b : Blk) (i : Init) (a : Nat) : Blk :=
  let c := ((b.attr i).getD (true, 0)).2
  if 32 ≤ b.tags then { b with resp := .pending }
  else
    { b.txAdd
        { init := i, mark := i == .boot, write := false, posted := false, addr := a, val := 0, ctx := c, gen := b.genOf c,
          tick := b.clk } with
      resp := .pending }

/-- Has the KC side room for both halves of a 64-bit access (R571, R576, R580)? -/
def Blk.roomForTwo (b : Blk) (a : Nat) (wr : Bool) : Bool :=
  let np := if wr then (b.nonPosted a).toNat + (b.nonPosted (a + 4)).toNat else 2
  b.tags + np ≤ 32 && b.kcSide + (2 - np) ≤ 64

/-! ## The way up -/

/-- The link that answers of `x` take up: a die's own, or 0 for the UH sub-blocks (R578). -/
def Tx.link (x : Tx) : Nat := if 16 ≤ fieldTarget x.addr then fieldTarget x.addr else 0

/-- Is an answer of the kind of `x` (a completion or a notice) on its way up the same link since before tick `t`? A
later one does not pass it (R578). -/
def Blk.upBefore (b : Blk) (link : Nat) (posted : Bool) (t : Nat) : Bool :=
  b.k.brg.tx.any (fun y => y.posted == posted && !y.dead && !y.down && y.link == link && y.ended < t)

/-! ## Late errors -/

/-- The fault source of a reason of R586. -/
def failSrc (r : Nat) : Nat := if r = 4 then 172 else if r = 5 then 176 else 173

/-- The source and event of a failed transaction (R586, R591). -/
def Blk.failed (b : Blk) (x : Tx) (r : Nat) : Blk :=
  let b1 := b.raise (failSrc r) (x.addr / 256) (some x.ctx)
  if r = 4 then b1.setBit F.BRG_EVT_EVT 1 else if r = 1 ∨ r = 5 then b1.setBit F.BRG_EVT_EVT 2 else b1

/-- A posted write has failed after acceptance (R587). -/
def Blk.lateError (b : Blk) (x : Tx) (r : Nat) : Blk :=
  let b1 := (((b.failed x r).setBit (F.BRG_LATE_ERR_LATE_ERR (x.ctx / 32)) (x.ctx % 32)).setBit F.BRG_EVT_EVT 0).raise
    170 (x.addr / 256) (some x.ctx)
  match (List.range 16).find? (fun k => !b.on (F.BRG_LL_INFO_VALID k)) with
  | none => b1.incWrap F.BRG_LATE_LOST_LOST
  | some k =>
    (((((((b1.put (F.BRG_LL_ADDR_ADDR k) (x.addr - 0x50000000)).put (F.BRG_LL_INFO_VALID k) 1).put
      (F.BRG_LL_INFO_REASON k) r).put (F.BRG_LL_INFO_GEN k) x.gen).put (F.BRG_LL_INFO_CTX k) x.ctx).put
      (F.BRG_LL_SEQ_BSEQ k) x.bseq).put (F.BRG_LL_DATA_DATA k) x.val).setBrg (fun g =>
        { g with
          late := k :: g.late.filter (· != k) })

/-- LSEQ of context `c` (R486): the newest valid entry. -/
def Blk.lseq (b : Blk) (c : Nat) : Nat :=
  match b.k.brg.late.find? (fun k => b.on (F.BRG_LL_INFO_VALID k) && b.fld (F.BRG_LL_INFO_CTX k) == c) with
  | some k => b.fld (F.BRG_LL_SEQ_BSEQ k) % 256
  | none => 0

/-- The transaction at index `k` leaves the list. -/
def Blk.txDel (b : Blk) (k : Nat) : Blk :=
  (b.setBrg (fun g =>
    { g with
      tx := g.tx.eraseIdx k })).brgSync

/-- The transaction at index `k` becomes `x`. -/
def Blk.txPut (b : Blk) (k : Nat) (x : Tx) : Blk :=
  (b.setBrg (fun g =>
    { g with
      tx := g.tx.set k x })).brgSync

/-! ## FENCE.FIELD -/

/-- Posted writes of hart `h` whose notices have not returned (R588). -/
def Blk.outstanding (b : Blk) (h : Nat) : Nat :=
  (b.k.brg.tx.filter (fun x => x.posted && !x.dead && x.init == .hart h)).length

/-- FENCE.FIELD of hart `h` ends (R485, R486): its status goes to rd, and the commit of a core in Recut mode has no
act left. -/
def Blk.ffEnd (b : Blk) (h rd : Nat) (tmo : Bool) : Blk :=
  let x := b.hartOf h
  let c := x.ctx
  let err := (b.fld (F.BRG_LATE_ERR_LATE_ERR (c / 32))).testBit (c % 32)
  let st := (if err then b.lseq c * 256 else 0) + 2 * tmo.toNat + err.toNat
  let y := if 16 ≤ h then x.setX rd st
    else if rd = 0 then x
    else
      { x with
        xa := x.xa.set (fun _ => 0) rd st }
  let b1 := b.setHart h
    { y with
      ffWait := none
      act := none }
  if rd = 0 then { b1 with resp := .done }
  else { b1.clrBit (F.BRG_LATE_ERR_LATE_ERR (c / 32)) (c % 32) with resp := .data st }

/-- FENCE.FIELD of hart `h` acts (R485). -/
def Blk.ffBegin (b : Blk) (h rd : Nat) : Blk :=
  if b.outstanding h = 0 && !b.waits h then b.ffEnd h rd false
  else
    { b.setHart h
        { b.hartOf h with
          ffWait := some (rd, b.clk) } with
      resp := .pending }

/-- The wait of hart `h` ends once its writes are applied or failed, or after 200 µs (R485). -/
def Blk.ffCheck (b : Blk) (h : Nat) : Blk :=
  match (b.hartOf h).ffWait with
  | none => b
  | some (rd, t) =>
    if b.outstanding h = 0 && !b.waits h then b.ffEnd h rd false
    else if t + 200 * tickUs ≤ b.clk then b.ffEnd h rd true
    else b

/-- FENCE.FIELD rd on hart `h` (R485, R502). -/
def execFenceField (h rd : Nat) (s : State) : Host.Outcome State Fault Refusal :=
  onBlk (isHart h && rd < 32) s (fun b =>
    if !b.runs h then { b with resp := .absent }
    else if b.recut h then b.serialise h (.fenceField rd) 0 0 (some rd)
    else b.ffBegin h rd)

/-- The wait of a FENCE.FIELD ends (R485). -/
def execFenceFieldComplete (h : Nat) (s : State) : Host.Outcome State Fault Refusal :=
  onBlk (isHart h) s (fun b => b.ffCheck h)

/-! ## Notices, timeouts, links -/

/-- The apply notice of the transaction at index `k` reaches KC (R578, R587); one that has timed out no longer holds
later ones back. -/
def Blk.notice (b : Blk) (k : Nat) : Blk :=
  match b.k.brg.tx[k]? with
  | none => b
  | some x =>
    if !x.posted || x.down || b.upBefore x.link true x.ended ||
        (b.k.brg.tx.take k).any (fun y => y.posted && !y.dead && fieldTarget y.addr == fieldTarget x.addr) then b
    else if x.dead || x.fail == 0 then b.txDel k
    else (b.txDel k).lateError x x.fail

/-- An apply notice reaches KC (R587). -/
def execApplyNotice (k : Nat) (s : State) : Host.Outcome State Fault Refusal :=
  onBlk true s (fun b => b.notice k)

/-- CPL_TMO has passed for the transaction at index `k` (R576, R588). -/
def Blk.cplTimeout (b : Blk) (k : Nat) : Blk :=
  match b.k.brg.tx[k]? with
  | none => b
  | some x =>
    if x.dead || b.clk < x.tick + b.cplTmo then b
    else
      let b1 := b.txPut k
        { x with
          dead := true }
      if x.posted || x.late then b1.lateError x 4
      else (b1.failed x 4).waitFault x.init (if x.write then 7 else 5) x.addr

/-- A completion or notice has not arrived within CPL_TMO (R576, R588). -/
def execCompletionTimeout (k : Nat) (s : State) : Host.Outcome State Fault Refusal :=
  onBlk true s (fun b => b.cplTimeout k)

/-- A frame on link `l` fails its CRC and is sent again; `last` says that it has failed after 8 resends
(R17, R586, R591). -/
def execLinkFrameResend (l : Nat) (last : Bool) (s : State) : Host.Outcome State Fault Refusal :=
  onBlk (l < 13) s (fun b =>
    if b.kcRun then
      if last then (b.incSat (F.BRG_LINK_FAIL l)).setBit F.BRG_EVT_EVT 2 else b.incSat (F.BRG_LINK_RESENT l)
    else b)

/-- Semaphore `k` is released, and its reservation broken, once 10 µs have passed since its LR (R581). -/
def Blk.semExpire (b : Blk) (k : Nat) : Blk :=
  if b.on (F.BRG_SEM_HELD k) && b.k.brg.semAt.get (fun _ => 0) k + 10 * tickUs ≤ b.clk then
    ((b.put (F.BRG_SEM_HELD k) 0).semSync).raise 174 k
  else b

/-- 10 µs have passed since the LR that holds semaphore `k` (R581). -/
def execReservationTimeout (k : Nat) (s : State) : Host.Outcome State Fault Refusal :=
  onBlk (k < 16) s (fun b => b.semExpire k)

/-! ## Interrupt messages -/

/-- The register unit that holds message source `n`, as TYPE and index of R46 (R583). -/
def msgUnit (n : Nat) : Nat × Nat :=
  if n < 0xc0 then (0x07, n)
  else if n < 0xf0 then (0x0c, n - 0xc0)
  else if n = 0x100 then (0x0b, 1)
  else if n = 0x101 then (0x0b, 2)
  else if n = 0x102 then (0x0b, 4)
  else if n = 0x103 then (0x0b, 5)
  else if n = 0x104 then (0x0b, 7)
  else if n = 0x105 then (0x0b, 0)
  else (0x0b, 6)

/-- The link that message source `n` uses: that of its die, or 0 for UH (R583). -/
def msgLink (n : Nat) : Nat := if n < 0xc0 then 16 + n / 16 else if n < 0xf0 then 16 + (n - 0xc0) / 4 else 0

/-- May the message of source `n` arrive now? It passes neither an earlier message nor an earlier completion of its
link (R578, R585). -/
def Blk.msgReady (b : Blk) (n : Nat) : Bool :=
  match b.msgOut.find? (fun x => x.1 == n) with
  | none => false
  | some x =>
    !(b.msgOut.takeWhile (fun y => y.1 != n)).any (fun y => msgLink y.1 == msgLink n) &&
      !b.upBefore (msgLink n) false (x.2 + 1)

/-- The message of source `n` reaches KC and is delivered (R491, R583, R585). -/
def execFieldInterruptMessage (n : Nat) (s : State) : Host.Outcome State Fault Refusal :=
  onBlk true s (fun b =>
    if b.kcRun && b.msgReady n then
      ({ b with msgOut := b.msgOut.filter (fun x => x.1 != n) } : Blk).deliver
        (b.ownOf (msgUnit n).1 (msgUnit n).2).ctx (b.fld (F.BRG_MID_IDENT n))
    else b)

end Sys2Proof.Machine
end

