-- ==== Sys2Proof/Machine/Cvu.lean ====
section
/-!
DEFINITION. Machine/Cvu.lean: the check-value units (R593 to R607). A command runs the next descriptor of
a unit as one step.
-/

namespace Sys2Proof.Machine

/-- Profile `p` (R595, R605). -/
def Blk.profile (b : Blk) (p : Nat) : Crc :=
  match p with
  | 0 => crc32c
  | 1 => crc32
  | 2 => crc16
  | 3 => crc8
  | _ =>
    let k := p - 4
    ⟨b.fld (F.CVU_PROF_CFG_WIDTH k), b.fld (F.CVU_PROF_POLY_POLY k), b.fld (F.CVU_PROF_INIT_INIT k),
      b.on (F.CVU_PROF_CFG_REFIN k), b.on (F.CVU_PROF_CFG_REFOUT k), b.fld (F.CVU_PROF_XOR_XOROUT k),
      b.on (F.CVU_PROF_CFG_ORDER k)⟩

/-- Is the width of a profile one that R594 has? -/
def Crc.ok (c : Crc) : Bool := c.width == 8 || c.width == 16 || c.width == 32

/-- The check as it is stored (R594). -/
def Crc.stored (c : Crc) (v : Nat) : List Byte :=
  let l := leBytes (c.width / 8) v
  if c.msb then l.reverse else l

/-- A field of `n` bytes at offset `o` of some bytes, least significant byte first. -/
def fieldAt (l : List Byte) (o n : Nat) : Nat := leNat ((l.drop o).take n)

/-- Bytes with `v` in place of those from offset `o` on. -/
def patch (l : List Byte) (o : Nat) (v : List Byte) : List Byte := l.take o ++ v ++ l.drop (o + v.length)

/-- A CVU descriptor (R597). -/
structure CvuDesc where
  src : Nat
  dst : Nat
  len : Nat
  stride : Nat
  fold : Nat
  count : Nat
  op : Nat
  prof : Nat
  foldSrc : Nat
  foldPos : Bool
  irq : Bool
  hw : Bool
  resBad : Bool
deriving DecidableEq, Repr

/-- The descriptor that 64 bytes give. -/
def cvuDesc (l : List Byte) : CvuDesc :=
  let ctrl := fieldAt l 0x1e 2
  let len := fieldAt l 0x10 4
  { src := fieldAt l 0 8, dst := fieldAt l 8 8, len := len % 2 ^ 24, stride := fieldAt l 0x14 4,
    fold := fieldAt l 0x18 4, count := max 1 (fieldAt l 0x1c 2), op := ctrl % 8, prof := ctrl / 8 % 8,
    foldSrc := ctrl / 64 % 4, foldPos := ctrl.testBit 8, irq := ctrl.testBit 9, hw := ctrl.testBit 15,
    resBad := len / 2 ^ 24 != 0 || ctrl / 2 ^ 10 % 32 != 0 || fieldAt l 0x29 23 != 0 }

/-- A record's footprint (R599). -/
def CvuDesc.foot (d : CvuDesc) (c : Crc) : Nat := if d.op = 1 then d.len else d.len + c.width / 8

/-- Is the descriptor's argument bad (R599)? -/
def CvuDesc.bad (d : CvuDesc) (c : Crc) : Bool :=
  d.op == 0 || 5 ≤ d.op || d.len == 0 || !c.ok || d.resBad || (d.stride != 0 && d.stride < d.foot c)

/-- The device address of record `i` (R597, R599). -/
def CvuDesc.recAt (d : CvuDesc) (c : Crc) (i : Nat) : Nat :=
  (d.src + i * (if d.stride = 0 then d.foot c else d.stride)) % 2 ^ 64

/-- The fold bytes of record `i` (R596). -/
def CvuDesc.foldBytes (d : CvuDesc) (c : Crc) (i : Nat) : List Byte :=
  match d.foldSrc with
  | 0 => []
  | 1 => leBytes 4 d.fold
  | 2 => leBytes 4 (d.fold + i)
  | _ => leBytes 4 (d.recAt c i)

/-- The check of a record's data (R598). -/
def CvuDesc.check (d : CvuDesc) (c : Crc) (i : Nat) (data : List Byte) : Nat :=
  let f := d.foldBytes c i
  c.of (if d.foldPos then f ++ data else data ++ f)

/-- What the records so far have given. -/
structure CvuAcc where
  result : Option Nat := none
  fails : Nat := 0
  first : Nat := 0xffff
deriving DecidableEq, Repr

/-- One record (R598): the accumulated results, how its accesses ended, the state. -/
def Blk.cvuRecord (b : Blk) (m : List Host.Cell) (r : Nat) (d : CvuDesc) (c : Crc) (i : Nat) (a : CvuAcc) :
    DmaEnd × CvuAcc × Blk × List Host.Cell :=
  let w := c.width / 8
  let at' := d.recAt c i
  match b.rd m 3 r at' (if d.op = 3 ∨ d.op = 4 then d.len + w else d.len) with
  | (.ok l, b1, m1) =>
    let data := l.take d.len
    let v := d.check c i data
    let a1 := { a with result := some v }
    if d.op = 1 then
      match b1.wr m1 3 r ((d.dst + i * w) % 2 ^ 64) (c.stored v) with
      | (e, b2, m2) => (e, a1, b2, m2)
    else if d.op = 2 then
      match b1.wr m1 3 r ((at' + d.len) % 2 ^ 64) (c.stored v) with
      | (e, b2, m2) => (e, a1, b2, m2)
    else if l.drop d.len = c.stored v then
      if d.op = 4 then
        match b1.wr m1 3 r ((d.dst + i * d.len) % 2 ^ 64) data with
        | (e, b2, m2) => (e, a1, b2, m2)
      else (.ok [], a1, b1, m1)
    else
      (.ok [], { a1 with
        fails := min 0xffff (a.fails + 1)
        first := if a.fails = 0 then i else a.first }, b1.incWrap (F.RING_FAILS_FAILS r), m1)
  | (e, b1, m1) => (e, a, b1, m1)

/-- The records from `i` on, `n` of them. -/
def Blk.cvuRecords (b : Blk) (m : List Host.Cell) (r : Nat) (d : CvuDesc) (c : Crc) :
    Nat → Nat → CvuAcc → DmaEnd × CvuAcc × Blk × List Host.Cell
  | 0, _, a => (.ok [], a, b, m)
  | n + 1, i, a =>
    match b.cvuRecord m r d c i a with
    | (.ok _, a1, b1, m1) => b1.cvuRecords m1 r d c n (i + 1) a1
    | e => e

/-- 2^SIZE of a ring (R606). -/
def Blk.ringLen (b : Blk) (r : Nat) : Nat :=
  let n := b.fld (F.RING_CTL_SIZE r)
  2 ^ (if 4 ≤ n ∧ n ≤ 12 then n else 4)

/-- Has ring `r` a descriptor to run (R593, R600)? -/
def Blk.cvuReady (b : Blk) (r : Nat) : Bool :=
  b.on (F.RING_CTL_EN r) && !b.on (F.RING_STAT_FETCH_ERR r) && !b.k.cvuWait.get (fun _ => false) r &&
    b.fld (F.RING_HEAD_HEAD r) % b.ringLen r != b.fld (F.RING_TAIL_TAIL r) % b.ringLen r

/-- The ring whose turn it is on unit `k` (R593). -/
def Blk.cvuNext (b : Blk) (k : Nat) : Option Nat :=
  let t := b.k.cvuTurn.get (fun _ => 0) k
  ((List.range 4).map (fun q => 4 * k + (t + q) % 4)).find? b.cvuReady

/-- The turn of unit `k` passes behind ring `r`. -/
def Blk.cvuPass (b : Blk) (k r : Nat) : Blk :=
  { b with k := { b.k with cvuTurn := b.k.cvuTurn.set (fun _ => 0) k ((r + 1) % 4) } }

/-- The device address of the descriptor at HEAD. -/
def Blk.ringAt (b : Blk) (r : Nat) : Nat :=
  b.fld (F.RING_BASE_HI_BASE r) * 2 ^ 32 + b.fld (F.RING_BASE_LO_BASE r) * 64 +
    64 * (b.fld (F.RING_HEAD_HEAD r) % b.ringLen r)

/-- HEAD goes on (R600). -/
def Blk.ringHead (b : Blk) (r : Nat) : Blk :=
  b.put (F.RING_HEAD_HEAD r) ((b.fld (F.RING_HEAD_HEAD r) + 1) % b.ringLen r)

/-- The ring stops on a refused access (R601). -/
def Blk.ringErr (b : Blk) (r : Nat) : Blk :=
  ((b.put (F.RING_STAT_FETCH_ERR r) 1).setBit (F.RING_EVT_EVT r) 2).raise 13 r (some (b.devCtx 3 r))

/-- The descriptor with its result fields filled and HW cleared (R597, R600). -/
def cvuBack (l : List Byte) (result fails first status : Nat) : List Byte :=
  let l1 := patch l 0x1e (leBytes 2 (fieldAt l 0x1e 2 % 2 ^ 15))
  patch l1 0x20 (leBytes 4 result ++ leBytes 2 fails ++ leBytes 2 first ++ leBytes 1 status)

/-- The end of a descriptor: the result fields, the write-back, HEAD and the events (R600, R601). A RESULT
of no record is a free value (assumption 4). -/
def Blk.cvuEnd (b : Blk) (m : List Host.Cell) (r : Nat) (l : List Byte) (d : CvuDesc) (a : CvuAcc)
    (status : Nat) : Blk × List Host.Cell :=
  let f := match a.result with
    | some v => (v, b)
    | none => b.draw
  match f.2.wr m 3 r (f.2.ringAt r) (cvuBack l f.1 a.fails a.first status) with
  | (.ok _, b1, m1) =>
    let b2 := b1.ringHead r
    if status = 2 then (b2.ringErr r, m1)
    else
      let b3 := b2.incWrap (F.RING_DONE_DONE r)
      let b4 := if d.irq then b3.setBit (F.RING_EVT_EVT r) 0 else b3
      let b5 := if a.fails ≠ 0 then b4.setBit (F.RING_EVT_EVT r) 1 else b4
      (if a.fails ≠ 0 ∧ b.on (F.RING_CTL_MM_FS r) then b5.raise 14 r (some (b.devCtx 3 r)) else b5, m1)
  | (.refused, b1, m1) => (b1.ringErr r, m1)
  | (.held, b1, m1) => (b1, m1)

/-- Unit `k` runs its next descriptor, if `p` holds of its operation and of its bad argument. -/
def Blk.cvuRun (b : Blk) (m : List Host.Cell) (k : Nat) (p : Nat → Bool → Bool) : Blk × List Host.Cell :=
  if !b.kcRun || b.gateOff (0x48 + k) then (b, m)
  else
    match b.cvuNext k with
    | none => (b, m)
    | some r =>
      match b.rd m 3 r (b.ringAt r) 64 with
      | (.refused, b1, m1) => ((b1.cvuPass k r).ringErr r, m1)
      | (.held, b1, m1) => (b1, m1)
      | (.ok l, b1, m1) =>
        let d := cvuDesc l
        let c := b1.profile d.prof
        let bad := d.bad c
        if !d.hw then
          let b2 := b1.cvuPass k r
          ({ b2 with k := { b2.k with cvuWait := b2.k.cvuWait.set (fun _ => false) r true } }, m1)
        else if !p d.op bad then (b, m)
        else
          let b2 := b1.cvuPass k r
          if bad then b2.cvuEnd m1 r l d {} 3
          else
            match b2.cvuRecords m1 r d c d.count 0 {} with
            | (.ok _, a, b3, m3) => b3.cvuEnd m3 r l d a (if a.fails = 0 then 0 else 1)
            | (.refused, a, b3, m3) => b3.cvuEnd m3 r l d a 2
            | (.held, _, b3, m3) => (b3, m3)

/-! ## Meanings -/

/-- A write of RING_TAIL of ring `r` (R600). -/
def execCvuRingTailWrite (i : Init) (r : Nat) (v : W32) (s : State) : Host.Outcome State Fault Refusal :=
  onBlk (r < 16) s (fun b => b.onWrite i (R.RING_TAIL r) v (fun b =>
    let b1 := b.writeReg (R.RING_TAIL r) v
    { b1 with k := { b1.k with cvuWait := b1.k.cvuWait.set (fun _ => false) r false } }))

/-- Unit `k` runs a GEN descriptor (R598). -/
def execGen (k : Nat) (s : State) : Host.Outcome State Fault Refusal :=
  onMem (k < 4) s (fun b m => b.cvuRun m k (fun op bad => op == 1 && !bad))

/-- Unit `k` runs an APPEND descriptor (R598). -/
def execAppend (k : Nat) (s : State) : Host.Outcome State Fault Refusal :=
  onMem (k < 4) s (fun b m => b.cvuRun m k (fun op bad => op == 2 && !bad))

/-- Unit `k` runs a CHECK descriptor (R598). -/
def execCheck (k : Nat) (s : State) : Host.Outcome State Fault Refusal :=
  onMem (k < 4) s (fun b m => b.cvuRun m k (fun op bad => op == 3 && !bad))

/-- Unit `k` runs a STRIP descriptor (R598). -/
def execStrip (k : Nat) (s : State) : Host.Outcome State Fault Refusal :=
  onMem (k < 4) s (fun b m => b.cvuRun m k (fun op bad => op == 4 && !bad))

/-- Unit `k` runs a descriptor with a bad argument (R599). -/
def execCvuBadArgument (k : Nat) (s : State) : Host.Outcome State Fault Refusal :=
  onMem (k < 4) s (fun b m => b.cvuRun m k (fun _ bad => bad))

/-- A write of RING_CTL of ring `r` with EN 0 stops the ring and clears FETCH_ERR (R603, R606). -/
def Blk.ringCtl (b : Blk) (r : Nat) (v : W32) : Blk :=
  let b1 := b.writeReg (R.RING_CTL r) v
  if b1.on (F.RING_CTL_EN r) then b1 else b1.put (F.RING_STAT_FETCH_ERR r) 0

/-- A write of RING_CTL of ring `r` with EN 0 (R603). -/
def execRingDisable (i : Init) (r : Nat) (v : W32) (s : State) : Host.Outcome State Fault Refusal :=
  onBlk (r < 16) s (fun b => b.onWrite i (R.RING_CTL r) (v &&& 0x7fffffff) (fun b =>
    b.ringCtl r (v &&& 0x7fffffff)))

end Sys2Proof.Machine
end

