-- ==== Sys2Proof/Machine/Sleep.lean ====
section
/-!
DEFINITION. Machine/Sleep.lean: the wake recorder, the wakes, the fail-safe transceiver sleep and the RTC
with its alarm (R100, R455 to R462, R672). SLEEP entry itself is in Machine/Power.lean.
-/

namespace Sys2Proof.Machine

/-! ## The wake recorder -/

/-- WK_HEAD and COUNT show the FIFO (R467). -/
def Blk.wkSync (b : Blk) : Blk :=
  let h : WkEntry := b.wkFifo.headD ⟨0, 0, 0⟩
  (((b.setReg R.WK_HEAD h.word).put F.WK_HEAD_SEC_SEC h.sec).put F.WK_HEAD_SUB_SUB h.sub).put F.WK_STAT_COUNT
    b.wkFifo.length

/-- The code of a recorder entry (R460). -/
def WkEntry.code (e : WkEntry) : Nat := e.word.toNat % 256

/-- The FIFO with a new entry: after the entries that came before it and, among those of its own always-on tick, after
those with no higher code (R461). -/
def wkInsert (l : List WkEntry) (e : WkEntry) : List WkEntry :=
  let after := (l.reverse.takeWhile (fun x => x.sec == e.sec && x.sub == e.sub && e.code < x.code)).reverse
  l.take (l.length - after.length) ++ e :: after

/-- A wake of source `code` enters the recorder with the flag bits `flags` of WK_HEAD; of 33 entries the last is
not made (R461). -/
def Blk.wkAdd (b : Blk) (code : Nat) (flags : W32) (sec sub : Nat) : Blk :=
  let l := wkInsert b.wkFifo (WkEntry.mk (0x80000000 ||| flags ||| BitVec.ofNat 32 code) sec sub)
  let b1 := { b with wkFifo := l.take 32 }.wkSync
  let b2 := (l.drop 32).foldl (fun x e => ((x.incSat F.WK_STAT_OVF).setBit (F.WK_PEND_PEND (e.code / 32))
    (e.code % 32)).raiseF 247 e.code) b1
  if b.on F.WK_IEN_EN && b2.wkFifo != b.wkFifo then b2.msg 0x100 else b2

/-- The head is removed (R467). -/
def Blk.wkPop (b : Blk) : Blk := { b with wkFifo := b.wkFifo.tail }.wkSync

def flagStorm : W32 := 0x1000
def flagStandby : W32 := 0x800
def flagFailsafe : W32 := 0x400
def flagAbort : W32 := 0x200
def flagLate : W32 := 0x100

/-! ## Sources -/

/-- Was source `code` put to sleep by the mask pair `can`, `lin` (R455, R459)? -/
def busAsleep (code can lin : Nat) : Bool :=
  (0x10 ≤ code && code < 0x20 && can.testBit (code - 0x10)) ||
    (0x20 ≤ code && code < 0x2c && lin.testBit (code - 0x20))

/-- Was source `code` put to sleep at STANDBY entry (R455)? -/
def Blk.sbAsleep (b : Blk) (code : Nat) : Bool :=
  busAsleep code b.slp.sbCan b.slp.sbLin || (0x60 ≤ code && code < 0x74 && b.slp.sbEth.testBit (code - 0x60))

/-- Are the enabled sources armed: from step 1 of an entry until the wake, or until the cores have resumed after one that
aborts the entry (R456 to R458; assumption 105)? -/
def Blk.arms (b : Blk) : Bool := b.slp.armed || b.slp.abortAt.any (fun t => b.clk < t + 20 * tickUs)

/-- Is source `code` armed, so that its event is a wake (R455, R456, R459, R460)? -/
def Blk.armed (b : Blk) (code : Nat) : Bool :=
  b.arms || b.sbAsleep code || busAsleep code b.slp.fsCan b.slp.fsLin

/-- Source `code` makes a wake if it is armed; UH takes it as WAKE_EVENT. -/
def Blk.wakeFrom (b : Blk) (code : Nat) : Blk :=
  if b.armed code then
    { b with wakeDue := b.wakeDue ++ [Due.mk code b.clk (b.fld F.AON_RTC_SEC_SEC) b.rtcSub false] }
  else b

/-! ## Transceiver modes -/

/-- The present modes of the transceivers. -/
def Blk.canModes (b : Blk) : List Nat := (List.range 16).map (fun n => b.fld (F.XC_CTL_MODE n))
def Blk.linModes (b : Blk) : List Nat := (List.range 12).map (fun n => b.fld (F.XL_CTL_MODE n))

/-- The transceivers take the modes given. -/
def Blk.setModes (b : Blk) (can lin : List Nat) : Blk :=
  let b1 := (List.range can.length).foldl (fun x n => x.put (F.XC_CTL_MODE n) (can.getD n 1)) b
  (List.range lin.length).foldl (fun x n => x.put (F.XL_CTL_MODE n) (lin.getD n 1)) b1

/-- Has CAN transceiver `n` a wake setting (R456)? -/
def Blk.canWakes (b : Blk) (n : Nat) : Bool := b.on (F.XC_CTL_WUP_EN n) || b.on (F.XC_CTL_SW_EN n)

/-- Has transceiver `n` an enabled wake filter? -/
def Blk.anyFilter (b : Blk) (n : Nat) : Bool := (List.range 8).any (fun k => b.on (F.XF_ID_EN n k))

/-- SW_ERR shows selective wake with no filter enabled (R412). -/
def Blk.xcSync (b : Blk) (n : Nat) : Blk :=
  b.putB (F.XC_STAT_SW_ERR n) (b.on (F.XC_CTL_SW_EN n) && !b.anyFilter n)

/-! ## Wakes -/

/-- A wake before the point of no return aborts the entry (R457). -/
def Blk.sleepAbort (b : Blk) : Blk :=
  let b1 := (((b.setModes b.slp.can b.slp.lin).ringRestart.put F.SYSCTL_PWR_BUSY 0).put F.SYSCTL_PWR_STATE
    b.slp.src).put F.AON_PSTATE_STATE b.slp.src
  { (b1.put F.WK_STAT_ABORTED 1).raiseF 249 with
    slp := { b.slp with armed := false, abortAt := some b.clk, detect := 0, can := [], lin := [] }
    pwr := { b.pwr with trans := none }
    keeper := { b.keeper with last := b.clk } }

/-- The module begins to wake from SLEEP (R93, R458, R462): TB0 resumes, RAIL_EN rises, the transceivers
return to their modes, NM_CONSENT is cleared, the ring engines start in ALIVE. -/
def Blk.wakeBegin (b : Blk) (cause : Nat) : Blk :=
  let b1 := ((b.setModes b.slp.can b.slp.lin).put F.NM_CONSENT_CONSENT 0).ringRestart
  { (b1.put F.AON_PSTATE_STATE 7).put F.AON_PSTATE_CAUSE cause with
    asleep := false
    slp := { b.slp with armed := false, detect := 0, latch := none, late := false, can := [], lin := [] }
    pwr := { b.pwr with railEn := true, trans := none } }

/-- The module's sleep is being ended by this wake: it becomes WK_LAST, unless a tamper alarm of this
SLEEP stands there (R462). -/
def Blk.wkLast (b : Blk) (code : Nat) (flags : W32) : Blk :=
  if b.slp.lastSet then b
  else { b.setReg R.WK_LAST (0x80000000 ||| flags ||| BitVec.ofNat 32 code) with
    slp := { b.slp with lastSet := true } }

/-- Step 6 of R456 is reached 40 µs after the point of no return; a wake up to then is late. -/
def Blk.isLate (b : Blk) (d : Due) : Bool :=
  match b.slp.latch with
  | some t => d.tick ≤ t + 40 * tickUs
  | none => false

/-- A source that R455 put to sleep returns to its previous mode alone; an Ethernet port brings its link up again. -/
def Blk.sbWake (b : Blk) (code : Nat) : Blk :=
  if 0x60 ≤ code then
    let p := code - 0x60
    let b1 := { b with slp := { b.slp with sbEth := b.slp.sbEth - 2 ^ p } }
    if !b1.on (F.ETH_CTL_EN p) || b1.fld (F.ETH_STAT_STATE p) != 5 then b1
    else if p < 4 then
      let x := b1.k.port.get (fun _ => {}) p
      ({ b1 with k := { b1.k with port := b1.k.port.set (fun _ => {}) p { x with
        retryAt := some b1.clk } } } : Blk).put (F.ETH_STAT_STATE p) 0
    else b1.put (F.ETH_STAT_STATE p) 0
  else if 0x20 ≤ code then
    let n := code - 0x20
    { b.put (F.XL_CTL_MODE n) (b.slp.sbLinMode.getD n 1) with
      slp := { b.slp with sbLin := b.slp.sbLin - 2 ^ n } }
  else
    let n := code - 0x10
    { b.put (F.XC_CTL_MODE n) (b.slp.sbCanMode.getD n 1) with
      slp := { b.slp with sbCan := b.slp.sbCan - 2 ^ n } }

/-- UH takes the wake `d` (R455, R457, R458, R459, R461, R462). -/
def Blk.wakeTake (b : Blk) (d : Due) : Blk :=
  if d.storm then b.wkAdd d.code flagStorm d.sec d.sub
  else if b.slp.armed && b.slp.latch.isNone then (b.wkAdd d.code flagAbort d.sec d.sub).sleepAbort
  else if b.slp.latch.isSome then
    if b.slp.late || b.isLate d then
      let b1 := ((b.wkAdd d.code flagLate d.sec d.sub).put F.WK_STAT_LATE 1).wkLast d.code flagLate
      if b.slp.late then b1
      else { b1.raiseF 249 with slp := { b1.slp with late := true } }
    else ((b.wkAdd d.code 0 d.sec d.sub).wkLast d.code 0).wakeBegin 4
  else if busAsleep d.code b.slp.fsCan b.slp.fsLin then b.wkAdd d.code flagFailsafe d.sec d.sub
  else if b.sbAsleep d.code then (b.wkAdd d.code flagStandby d.sec d.sub).sbWake d.code
  else b.wkAdd d.code 0 d.sec d.sub

/-- The wake that enters next: of those on the oldest always-on tick, the one with the lowest code
(R461). -/
def nextDue (l : List Due) : Option Due :=
  match l with
  | [] => none
  | d :: _ => (l.filter (fun e => e.sec == d.sec && e.sub == d.sub)).foldl
      (fun m e => if e.code < (m.getD d).code then some e else m) (some d)

/-- UH takes the next wake, if any. -/
def Blk.wakeNext (b : Blk) : Blk :=
  match nextDue b.wakeDue with
  | none => b
  | some d => { b with wakeDue := b.wakeDue.erase d }.wakeTake d

/-- RAIL_EN has been low for 1 ms after a late wake (R458). -/
def Blk.lateRestart (b : Blk) : Blk :=
  if b.slp.late && b.slp.lowAt + tickMs ≤ b.clk then b.wakeBegin 4 else b

/-- A tamper alarm in SLEEP enters the recorder and does not wake (R461, R462). -/
def Blk.wkTamper (b : Blk) : Blk :=
  let b1 := b.wkAdd 3 0 (b.fld F.AON_RTC_SEC_SEC) b.rtcSub
  { b1.setReg R.WK_LAST 0x80000003 with slp := { b1.slp with lastSet := true } }

/-! ## Fail-safe transceiver sleep -/

/-- FSS_TMO has passed since the keeper timeout (R459). -/
def Blk.failSafe (b : Blk) : Blk :=
  match b.slp.lostAt with
  | none => b
  | some t =>
    let tmo := b.fld F.NM_GCFG_FSS_TMO
    if tmo ≠ 0 ∧ t + tmo * 100 * tickMs ≤ b.clk ∧ b.slp.armed = false then
      let hub := b.respActive
      let can := (List.range 16).map (fun n => if n == 15 && hub then b.fld (F.XC_CTL_MODE 15) else 1)
      let b1 := (b.ringAllOff.setModes can (List.replicate 12 1)).put F.NM_STAT_FSS 1
      { (b1.nmEvt 1).raiseF 246 with
        slp := { b.slp with lostAt := none, fsCan := if hub then 0x7fff else 0xffff, fsLin := 0xfff } }
    else b

/-! ## RTC -/

/-- The RTC seconds become `sec` (R672). -/
def Blk.setSec (b : Blk) (sec : Nat) : Blk :=
  let b1 := b.put F.AON_RTC_SEC_SEC sec
  { b1 with
    alarmDue := b.on F.WK_ALARM_CTL_EN && !b.on F.WK_ALARM_CTL_FIRED &&
      b1.fld F.AON_RTC_SEC_SEC == b.fld F.WK_ALARM_SEC }

/-- A write of AON_RTC_SEC sets the seconds, and the sub-second count to 0 on the next always-on tick (R100). -/
def Blk.rtcSet (b : Blk) (sec : Nat) : Blk := { b.setSec sec with rtcZero := true }

/-- 2 ns pass for the RTC: 32,768 counts are 500,000,000 ticks (R100). -/
def Blk.rtcTick (b : Blk) : Blk :=
  let f := b.rtcFrac + 32768
  if f < 500000000 then { b with rtcFrac := f }
  else
    let s := b.rtcSub + 1
    if b.rtcZero then { b with rtcFrac := f - 500000000, rtcSub := 0, rtcZero := false }
    else if s < 32768 then { b with rtcFrac := f - 500000000, rtcSub := s }
    else { b.setSec (b.fld F.AON_RTC_SEC_SEC + 1) with rtcFrac := f - 500000000, rtcSub := 0 }

/-- Is the alarm a wake: an entry has begun and no wake has come on an earlier always-on tick (R672)? -/
def Blk.alarmWakes (b : Blk) : Bool :=
  b.slp.armed && !b.slp.late &&
    b.wakeDue.all (fun d => d.storm || (d.sec == b.fld F.AON_RTC_SEC_SEC && d.sub == b.rtcSub))

/-- The alarm fires (R672). -/
def Blk.alarmFire (b : Blk) : Blk :=
  let b1 := b.put F.WK_ALARM_CTL_FIRED 1
  if b.alarmWakes then { b1 with alarmDue := false }.wakeFrom 2 else { b1 with alarmDue := false }

/-- A write of WK_ALARM_CTL (R672): EN written 1 while the seconds equal SEC fires at once. -/
def Blk.alarmCtl (b : Blk) (v : W32) : Blk :=
  let b1 := b.writeReg R.WK_ALARM_CTL v
  let b2 := { b1 with alarmDue := b1.alarmDue && b1.on F.WK_ALARM_CTL_EN && !b1.on F.WK_ALARM_CTL_FIRED }
  if F.WK_ALARM_CTL_EN.get v = 1 ∧ b2.on F.WK_ALARM_CTL_FIRED = false ∧
      b.fld F.AON_RTC_SEC_SEC = b.fld F.WK_ALARM_SEC then b2.alarmFire
  else b2

/-! ## Meanings -/

/-- A read of AON_RTC_SEC (R100). -/
def execRtcSecRead (i : Init) (s : State) : Host.Outcome State Fault Refusal :=
  onBlk true s (fun b => b.onRead i R.AON_RTC_SEC (fun b =>
    { b.put F.AON_RTC_SUB_SUB b.rtcSub with resp := .data (b.fld F.AON_RTC_SEC_SEC) }))

/-- A write of AON_RTC_SEC (R100). -/
def execRtcSecWrite (i : Init) (v : W32) (s : State) : Host.Outcome State Fault Refusal :=
  onBlk true s (fun b => b.onWrite i R.AON_RTC_SEC v (fun b => b.rtcSet v.toNat))

/-- The RTC seconds have reached WK_ALARM.SEC (R672). -/
def execRtcAlarmFire (s : State) : Host.Outcome State Fault Refusal :=
  onBlk true s (fun b => if b.alarmDue then b.alarmFire else b)

/-- A write of WK_ALARM_CTL with EN 1 (R672). -/
def execAlarmEnable (i : Init) (v : W32) (s : State) : Host.Outcome State Fault Refusal :=
  onBlk true s (fun b => b.onWrite i R.WK_ALARM_CTL v (fun b => b.alarmCtl v))

/-- UH takes the next wake (R460). -/
def execWakeEvent (s : State) : Host.Outcome State Fault Refusal := onBlk true s Blk.wakeNext

/-- RAIL_EN has stayed low for 1 ms after a late wake (R458). -/
def execLateWakeRestart (s : State) : Host.Outcome State Fault Refusal := onBlk true s Blk.lateRestart

/-- FSS_TMO passes without a keepalive (R459). -/
def execFailSafeSleep (s : State) : Host.Outcome State Fault Refusal := onBlk true s Blk.failSafe

/-- A write of 1 to WK_POP.POP (R467). -/
def execPop (i : Init) (s : State) : Host.Outcome State Fault Refusal :=
  onBlk true s (fun b => b.onWrite i R.WK_POP (F.WK_POP_POP.word 1) (fun b => b.wkPop))

/-! ## Power states -/

/-- STATE of the module. -/
def Blk.setPState (b : Blk) (st : Nat) : Blk := (b.put F.SYSCTL_PWR_STATE st).put F.AON_PSTATE_STATE st

/-- The STORE or UNSTORE that KC's reset interrupts: how many of its words are written is free (R619, R631). A key
vault without SK, or one that a tamper alarm has closed, writes none. -/
def Blk.tear (b : Blk) : Blk :=
  match b.k.kvCmd with
  | some (op, n, _) =>
    if (op = 4 ∨ op = 5) ∧ b.k.sk.isSome ∧ b.on F.KV_STAT_TAMPERED = false ∧
        (op = 5 ∨ b.on (F.KV_SLOT_FULL n) = true) then
      let r := b.draw
      { r.2 with torn := some ⟨op == 5, n, (b.reg (R.KV_SLOT n)).toNat / 2 ^ 8 % 2 ^ 20, (b.ownOf 0x08 n).ctx,
        b.k.keys.get (fun _ => []) n, r.1⟩ }
    else b
  | none => b

/-- The boot ROM, halted or in a start, stops and KC enters QUARANTINE (R84, R624). -/
def Blk.quarEnter (b : Blk) : Blk :=
  { b.setPState 6 with
    kc := .quar
    mark := false }

end Sys2Proof.Machine
end

