-- ==== Sys2Proof/Machine/Keys.lean ====
section
/-!
DEFINITION. Machine/Keys.lean: the key vault, tamper and attestation (R608 to R626, R630).
-/

namespace Sys2Proof.Machine

/-! ## Slots and byte registers -/

/-- `n` bytes of a run of registers whose `k`-th word is the field `f k`, from byte 0. -/
def Blk.regBytes (b : Blk) (f : Nat → Fld) (words : Nat) : List Byte :=
  (List.range words).flatMap (fun k => leBytes 4 (b.fld (f k)))

/-- Bytes written to such a run from word 0 on. -/
def Blk.putBytes (b : Blk) (f : Nat → Fld) (words : Nat) (l : List Byte) : Blk :=
  (List.range words).foldl (fun x k => x.put (f k) (fieldAt l (4 * k) 4)) b

/-- KV_DATA: 256 bytes. -/
def Blk.kvData (b : Blk) : List Byte := b.regBytes F.KV_DATA_DATA 64

/-- The first bytes of KV_DATA take `l`; the others keep their values. -/
def Blk.setKvData (b : Blk) (l : List Byte) : Blk :=
  b.putBytes F.KV_DATA_DATA ((l.length + 3) / 4) l

/-- KV_DATA zeroed. -/
def Blk.zeroKvData (b : Blk) : Blk := b.putBytes F.KV_DATA_DATA 64 []

/-- Measurement MAj (R88). -/
def Blk.ma (b : Blk) (j : Nat) : List Byte := b.regBytes (F.KV_MA_MA j) 12

/-- MAj extended with a 48-byte value (R88). -/
def Blk.extend (b : Blk) (j : Nat) (v : List Byte) : Blk :=
  b.putBytes (F.KV_MA_MA j) 12 (Config.sha384 (b.ma j ++ v))

/-- Bytes used of a key type (R610). -/
def keyLen (t : Nat) : Nat := if t = 1 then 32 else if t = 4 then 64 else 48

/-- The key bytes of slot `n`. -/
def Blk.keyOf (b : Blk) (n : Nat) : List Byte := b.k.keys.get (fun _ => []) n

def Blk.setKey (b : Blk) (n : Nat) (l : List Byte) : Blk :=
  { b with k := { b.k with keys := b.k.keys.set (fun _ => []) n l } }

/-- The attribute bits 27:8 of a KV_SLOT word set from a stage word; bit fields as KV_SLOT lays out. -/
def Blk.setAttr (b : Blk) (n attr : Nat) : Blk :=
  ((((b.put (F.KV_SLOT_TYPE n) (attr / 2 ^ 16 % 16)).put (F.KV_SLOT_MSEC_PORT n) (attr / 2 ^ 11 % 32)).put
    (F.KV_SLOT_HUB n) (attr / 2 ^ 10 % 2)).put (F.KV_SLOT_DERIVE n) (attr / 2 ^ 9 % 2)).put
    (F.KV_SLOT_ENG n) (attr % 16)

/-- The attribute bits 27:8 of slot `n`. -/
def Blk.attrOf (b : Blk) (n : Nat) : Nat := (b.reg (R.KV_SLOT n)).toNat / 2 ^ 8 % 2 ^ 20

/-- Slot `n` is filled with key bytes and attributes. -/
def Blk.fill (b : Blk) (n attr : Nat) (key : List Byte) : Blk :=
  ((b.setAttr n attr).put (F.KV_SLOT_FULL n) 1).setKey n key

/-- Slot `n` is zeroed and empty: its attributes return to reset (R615). -/
def Blk.emptySlot (b : Blk) (n : Nat) : Blk :=
  ((b.setAttr n (0x1f * 2 ^ 11)).put (F.KV_SLOT_FULL n) 0).setKey n []

/-- The owner of slot `n` (R609). -/
def Blk.slotOwner (b : Blk) (n : Nat) : Nat := (b.ownOf 0x08 n).ctx

/-- Does slot `n` hold a usable key of type `t` (R611)? -/
def Blk.slotHas (b : Blk) (n t : Nat) : Bool := b.on (F.KV_SLOT_FULL n) && b.fld (F.KV_SLOT_TYPE n) == t

/-- The status bits that mirror UH and the keys (R634). -/
def Blk.kvSync (b : Blk) : Blk :=
  (((((b.putB F.KV_STAT_DS_OFF (b.on F.TAMPER_STAT_HARD)).putB F.KV_STAT_TAMPERED
    (b.on F.TAMPER_STAT_PENDING || b.k.tampered)).putB F.KV_STAT_AK_VALID b.k.ak.isSome).putB
    F.KV_STAT_SK_VALID b.k.sk.isSome).putB F.KV_STAT_HK_VALID b.hk0.isSome)

/-- Is DS disabled (R608)? -/
def Blk.dsOff (b : Blk) : Bool := b.on F.TAMPER_STAT_HARD

/-! ## Derivation -/

/-- The L bytes that R613 takes for a type. -/
def okmLen (t : Nat) : Nat := if t = 1 then 32 else if t = 2 then 48 else if t = 3 then 56 else 64

/-- The key that R613 derives: salt, input key, context, world, slot number, type, label. -/
def derivedKey (salt ikm : List Byte) (c world n t : Nat) (label : List Byte) : List Byte :=
  let info := [0x43, 0x5a, 0x4b, 0x44] ++ leBytes 1 c ++ leBytes 1 world ++ leBytes 1 n ++ leBytes 1 t ++
    leBytes 1 label.length ++ label
  let okm := Config.hkdf ikm salt info (okmLen t)
  if t = 3 then Config.ecdsaKey okm else okm

/-- The salt of a MA_SEL value. -/
def Blk.maSalt (b : Blk) (sel : Nat) : List Byte :=
  if sel % 256 = 0 then List.replicate 48 0
  else Config.sha384 ((List.range 8).flatMap (fun j => if sel.testBit j then b.ma j else []))

/-- AK and SK (R614). -/
def akKey : List Byte := derivedKey (List.replicate 48 0) Config.deviceSecret 0 1 0xfe 3 [0x41, 0x4b]
def skKey : List Byte := derivedKey (List.replicate 48 0) Config.deviceSecret 0 1 0xff 1 [0x50, 0x4b, 0x53]

/-! ## Persistent store -/

/-- Address of copy `k` of slot `n` (R617). -/
def copyAt (n k : Nat) : Nat := 0x10410000 + 0x100 * n + 0x80 * k

/-- The IV of a copy (R617). -/
def copyIv (n seq k : Nat) : List Byte := leBytes 4 n ++ leBytes 4 seq ++ leBytes 4 k

/-- The CRC of a copy's first 0x78 bytes, folded with its slot (R617). -/
def copyCrc (n : Nat) (l : List Byte) : Nat := crc32c.of (l.take 0x78 ++ leBytes 4 n)

/-- The padded key of a valid copy, none if the copy is not valid (R618); one with a poisoned word is not (R478). -/
def Blk.copyKey (b : Blk) (m : List Host.Cell) (n k : Nat) : Option (List Byte) :=
  let l := memBytes m (copyAt n k) 0x80
  match b.k.sk with
  | none => none
  | some sk =>
    if b.poisoned (copyAt n k) 0x80 = false ∧ fieldAt l 0x78 4 = copyCrc n l ∧ fieldAt l 4 1 = n ∧ fieldAt l 5 1 = k then
      Config.gcmDec sk (copyIv n (fieldAt l 0 4) k) (l.take 16) ((l.drop 0x10).take 64) ((l.drop 0x50).take 16)
    else none

/-- SEQ of a copy. -/
def copySeq (m : List Host.Cell) (n k : Nat) : Nat := memLe m (copyAt n k) 4

/-- The winning copy of slot `n`, if one is valid (R618). -/
def Blk.winner (b : Blk) (m : List Host.Cell) (n : Nat) : Option Nat :=
  match b.copyKey m n 0, b.copyKey m n 1 with
  | some _, some _ => if copySeq m n 0 < copySeq m n 1 then some 1 else some 0
  | some _, none => some 0
  | none, some _ => some 1
  | none, none => none

/-- The copy that STORE and UNSTORE write, and the SEQ they give it (R619). -/
def Blk.storeTo (b : Blk) (m : List Host.Cell) (n : Nat) : Nat × Nat :=
  match b.copyKey m n 0, b.copyKey m n 1 with
  | some _, some _ => (if copySeq m n 0 < copySeq m n 1 then 0 else 1, max (copySeq m n 0) (copySeq m n 1) + 1)
  | some _, none => (1, copySeq m n 0 + 1)
  | none, some _ => (0, copySeq m n 1 + 1)
  | none, none => (0, 1)

/-- The 128 bytes of a copy (R617). -/
def copyBytes (sk : List Byte) (n k seq attr owner : Nat) (key : List Byte) : List Byte :=
  let hdr := leBytes 4 seq ++ leBytes 1 n ++ leBytes 1 k ++ leBytes 2 0 ++ leBytes 4 (attr * 2 ^ 8) ++
    leBytes 1 owner ++ leBytes 3 0
  let pad := key ++ List.replicate (64 - key.length) 0
  let body := hdr ++ Config.gcmEnc sk (copyIv n seq k) hdr pad ++ List.replicate 24 0
  body ++ leBytes 4 (copyCrc n body) ++ leBytes 4 0

/-- Slot `n` is loaded from the persistent store (R618). -/
def Blk.loadSlot (b : Blk) (m : List Host.Cell) (n : Nat) : Blk :=
  match b.winner m n with
  | none =>
    if copySeq m n 0 ≠ 0 ∨ copySeq m n 1 ≠ 0 then b.raise 212 n (some (b.slotOwner n)) else b
  | some k =>
    let a := copyAt n k
    let attr := memLe m (a + 8) 4 / 2 ^ 8 % 2 ^ 20
    let t := attr / 2 ^ 16 % 16
    let b1 := if (b.copyKey m n (1 - k)).isNone && copySeq m n (1 - k) != 0 then b.raise 211 n (some (b.slotOwner n))
      else b
    if t = 0 then b
    else if 4 < t ∨ memLe m (a + 12) 1 ≠ b.slotOwner n then b1.raise 213 n (some (b.slotOwner n))
    else (b1.fill n attr (((b.copyKey m n k).getD []).take (keyLen t))).put (F.KV_SLOT_PERSIST n) 1

/-- KV loads every slot at the end of step 2 of R60 (R618). -/
def Blk.loadStore (b : Blk) (m : List Host.Cell) : Blk :=
  if b.dsOff || b.on F.TAMPER_STAT_PENDING then b
  else (List.range 64).foldl (fun x n => x.loadSlot m n) b

/-- The words of 8 bytes that a STORE of slot `n`, or an UNSTORE where `un`, writes, in order: the copy with its CRC
word last, then the CRC word of the other copy (R619, R620). -/
def Blk.storeWords (b : Blk) (m : List Host.Cell) (sk : List Byte) (un : Bool) (n attr owner : Nat) (key : List Byte) :
    List (Nat × List Byte) :=
  let r := b.storeTo m n
  let l := copyBytes sk n r.1 r.2 (if un then attr % 2 ^ 16 else attr) owner (if un then [] else key)
  (List.range 16).map (fun w => (copyAt n r.1 + 8 * w, (l.drop (8 * w)).take 8)) ++
    (if un then [(copyAt n (1 - r.1) + 0x78, leBytes 8 0)] else [])

/-- Writes of KV into MRAM, in order. -/
def Blk.kvWrites (b : Blk) (m : List Host.Cell) (l : List (Nat × List Byte)) : Blk × List Host.Cell :=
  l.foldl (fun r x => (r.1.unpoison x.1 x.2.length, memWrite r.2 x.1 x.2)) (b, m)

/-- What of an interrupted STORE or UNSTORE of slot `n` is in MRAM: its first words, `w` of them modulo their number
(R631); none where SEQ is exhausted. -/
def Blk.storePart (b : Blk) (m : List Host.Cell) (sk : List Byte) (un : Bool) (n attr owner : Nat) (key : List Byte)
    (w : Nat) : Blk × List Host.Cell :=
  if 0xfffffffe < (b.storeTo m n).2 then (b, m)
  else
    let l := b.storeWords m sk un n attr owner key
    b.kvWrites m (l.take (w % (l.length + 1)))

/-- At its start KC finds in MRAM what an interrupted STORE or UNSTORE had written (R631). -/
def Blk.mend (b : Blk) (m : List Host.Cell) : Blk × List Host.Cell :=
  match b.torn with
  | none => (b, m)
  | some t =>
    let r := ({ b with k := { b.k with sk := some skKey } } : Blk).storePart m skKey t.un t.slot t.attr t.owner t.key
      t.words
    ({ b with
      torn := none
      poison := r.1.poison }, r.2)

/-! ## Attestation -/

/-- The record of R630 but for its signature, with KIND and the nonce. -/
def Blk.attestBody (b : Blk) (kind : Nat) (nonce : List Byte) : List Byte :=
  let flags := (if b.on F.KV_STAT_DBG_LEVEL then 1 else 0) + 2 * b.fld F.TAMPER_STAT_PENDING +
    4 * b.fld F.TAMPER_STAT_HARD + (if b.on F.TAMPER_STAT_ACK then 8 else 0)
  let bits (f : Nat → Fld) : Nat := ((List.range 8).map (fun n => b.fld (f n) * 2 ^ n)).sum
  let w (a : Nat) : List Byte := leBytes 4 (b.reg a).toNat
  [0x43, 0x5a, 0x41, 0x54] ++ leBytes 2 1 ++ leBytes 2 0x2d0 ++ leBytes 1 kind ++ leBytes 1 flags ++
    leBytes 1 (bits F.RCX_STAT_DBG_BROKEN) ++ leBytes 1 (bits F.RCX_STAT_MODE) ++ w R.SYSCTL_ID ++
    Config.deviceUid ++ (nonce ++ List.replicate (48 - nonce.length) 0).take 48 ++ w R.BPL_STATUS ++
    w R.BPL_FUSE ++ w R.BPL_PLAN_SEQ ++ w R.BPL_DBG_UNLOCK ++ w R.AON_PSTATE ++ w R.TAMPER_STAT ++
    w R.AON_RTC_SEC ++ leBytes 4 b.now ++ (List.range 8).flatMap b.ma ++
    (if b.dsOff then List.replicate 96 0 else Config.ecdsaPub akKey) ++ List.replicate 16 0

/-- The whole record (R630). -/
def Blk.attest (b : Blk) (kind : Nat) (nonce : List Byte) : List Byte :=
  let body := b.attestBody kind nonce
  if b.dsOff then body ++ List.replicate 112 0
  else body ++ leBytes 4 1 ++ List.replicate 12 0 ++ Config.ecdsaSign akKey (Config.sha384 body)

/-! ## Commands -/

/-- A write of KV_CMD: a command starts, unless one runs (R615). -/
def Blk.kvStart (b : Blk) (op slot : Nat) (srcDs : Bool) (src arg : Nat) : Blk :=
  if b.on F.KV_CMD_BUSY then b
  else
    let b1 := b.put F.KV_CMD_BUSY 1
    { b1 with k := { b1.k with kvCmd := some (op, slot % 64, srcDs, src % 64, arg % 256) } }

/-- The type and the other attributes in KV_ATTR_STAGE. -/
def Blk.stageAttr (b : Blk) : Nat := b.fld F.KV_ATTR_STAGE_ATTR
def Blk.stageType (b : Blk) : Nat := b.stageAttr / 2 ^ 16 % 16

/-- A key use that R611 refuses. -/
def Blk.useRefused (b : Blk) (n : Nat) : Nat × Blk := (3, b.raise 214 n (some (b.slotOwner n)))

/-- DERIVE into slot `n` (R613): the result code. -/
def Blk.derive (b : Blk) (n : Nat) (srcDs : Bool) (src : Nat) : Nat × Blk :=
  let t := b.stageType
  let ll := b.fld F.KV_DERIVE_LLEN
  if t = 0 ∨ 4 < t ∨ 32 < ll then (2, b)
  else if srcDs && b.dsOff then (5, b)
  else if !srcDs && !((b.slotHas src 2 || b.slotHas src 4) && b.on (F.KV_SLOT_DERIVE src) &&
      b.slotOwner src == b.slotOwner n) then b.useRefused src
  else
    let c := b.slotOwner n
    let ikm := if srcDs then Config.deviceSecret else b.keyOf src
    let key := derivedKey (b.maSalt (b.fld F.KV_DERIVE_MA_SEL)) ikm c (b.ctxSecure c).toNat n t (b.kvData.take ll)
    (0, b.fill n b.stageAttr key)

/-- STORE of slot `n` (R619). -/
def Blk.store (b : Blk) (m : List Host.Cell) (n : Nat) : Nat × Blk × List Host.Cell :=
  match b.k.sk with
  | none => (5, b, m)
  | some sk =>
    if !b.on (F.KV_SLOT_FULL n) then (4, b, m)
    else
      let r := b.storeTo m n
      if 0xfffffffe < r.2 then (7, b, m)
      else
        let q := (b.put (F.KV_SLOT_PERSIST n) 1).kvWrites m
          (b.storeWords m sk false n (b.attrOf n) (b.slotOwner n) (b.keyOf n))
        (0, q.1, q.2)

/-- UNSTORE of slot `n` (R620). -/
def Blk.unstore (b : Blk) (m : List Host.Cell) (n : Nat) : Nat × Blk × List Host.Cell :=
  match b.k.sk with
  | none => (5, b, m)
  | some sk =>
    let r := b.storeTo m n
    if 0xfffffffe < r.2 then (7, b, m)
    else
      let q := (b.put (F.KV_SLOT_PERSIST n) 0).kvWrites m
        (b.storeWords m sk true n (b.attrOf n) (b.slotOwner n) (b.keyOf n))
      (0, q.1, q.2)

/-- Is the signer at index `g` fused and not revoked, and does the key hash to it (R53)? -/
def Blk.signerOk (b : Blk) (g : Nat) (key : List Byte) : Bool :=
  g < 4 && (b.fld F.BPL_FUSE_PRESENT).testBit g && !(b.fld F.BPL_FUSE_REVOKED).testBit g &&
    Config.sha384 key == Config.signerHash g

/-- DBG_RESP with level `lvl` (R626). -/
def Blk.dbgResp (b : Blk) (lvl : Nat) : Nat × Blk :=
  let d := b.kvData
  let used := b.fld F.BPL_DBG_UNLOCK_USED
  let b1 := { b with k := { b.k with chal := none } }
  if lvl ≠ 1 ∧ lvl ≠ 2 then (2, b)
  else if used = b.fld F.BPL_DBG_UNLOCK_LIMIT then (9, b1.raise 216 lvl)
  else
    match b.k.chal with
    | none => (8, b1.raise 216 lvl)
    | some ch =>
      let msg := [0x43, 0x5a, 0x44, 0x55] ++ ch ++ Config.deviceUid ++ leBytes 1 lvl ++ leBytes 1 used
      if b.signerOk (fieldAt d 192 1) (d.take 96) &&
          Config.ecdsaVerify (d.take 96) (Config.sha384 msg) ((d.drop 96).take 96) then
        let b2 := (List.range 64).foldl (fun x n => if x.ctxSecure (x.slotOwner n) then x.emptySlot n else x) b1
        (0, ((b2.put F.BPL_DBG_UNLOCK_USED (used + 1)).put F.KV_STAT_DBG_LEVEL lvl).raise 217 lvl)
      else (8, b1.raise 216 lvl)

/-- A command's outcome: the code, the block, the memory (R615). -/
def Blk.kvDo (b : Blk) (m : List Host.Cell) (op n : Nat) (srcDs : Bool) (src arg : Nat) :
    Nat × Blk × List Host.Cell :=
  let keep (r : Nat × Blk) : Nat × Blk × List Host.Cell := (r.1, r.2, m)
  if b.on F.KV_STAT_TAMPERED && op != 9 then (6, b, m)
  else
    match op with
    | 1 => (0, b.emptySlot n, m)
    | 2 =>
      let t := b.stageType
      if t = 0 ∨ 4 < t then (2, b, m)
      else (0, (b.fill n b.stageAttr (b.kvData.take (keyLen t))).zeroKvData, m)
    | 3 => keep (b.derive n srcDs src)
    | 4 => b.store m n
    | 5 => b.unstore m n
    | 6 =>
      if b.slotHas n 1 && b.on (F.KV_SLOT_HUB n) then (0, { b with hk0 := some (b.keyOf n) }.kvSync, m)
      else keep (b.useRefused n)
    | 7 =>
      if !b.on (F.KV_SLOT_FULL n) then (4, b, m)
      else if b.slotHas n 3 then (0, b.setKvData (Config.ecdsaPub (b.keyOf n)), m)
      else keep (b.useRefused n)
    | 8 => if 4 ≤ arg ∧ arg ≤ 7 then (0, b.extend arg (b.kvData.take 48), m) else (2, b, m)
    | 9 =>
      (0, b.putBytes F.KV_ATT_ATT 180 (b.attest (b.fld F.KV_STAT_TAMPERED) (b.kvData.take 48)), m)
    | 10 =>
      let ch := Config.random b.nrand 32
      let b1 := b.setKvData ch
      (0, { b1 with nrand := b1.nrand + 1, k := { b1.k with chal := some ch } }, m)
    | 11 => keep (b.dbgResp arg)
    | _ => (2, b, m)

/-- The command in progress ends (R615). -/
def Blk.kvComplete (b : Blk) (m : List Host.Cell) : Blk × List Host.Cell :=
  match b.k.kvCmd with
  | none => (b, m)
  | some (op, n, ds, src, arg) =>
    let r := b.kvDo m op n ds src arg
    let b1 := ((r.2.1.put F.KV_RESULT_CODE r.1).put F.KV_CMD_BUSY 0).setBit F.KV_EVT_EVT 0
    ({ b1 with k := { b1.k with kvCmd := none } }, r.2.2)

/-! ## Tamper -/

/-- The level of tamper source `c` (R634). -/
def Blk.tamperLevel (b : Blk) (c : Nat) : Nat := (b.reg R.TAMPER_CFG).toNat / 4 ^ c % 4

/-- The zeroize path on KC (R623): the slots, AK, SK, KV_DATA, KV_ATT, and the KV command in progress, which
ends with code 6. -/
def Blk.zeroize (b : Blk) : Blk :=
  let b1 := (List.range 64).foldl (fun x n => x.emptySlot n) b
  let b2 := (b1.zeroKvData.putBytes F.KV_ATT_ATT 180 []).put F.KV_CMD_BUSY 0
  let b3 := if b.k.kvCmd.isSome then (b2.put F.KV_RESULT_CODE 6).setBit F.KV_EVT_EVT 0 else b2
  { b3 with k := { b3.k with keys := [], ak := none, sk := none, kvCmd := none, chal := none } }

/-- An entry of the tamper log, or FS218 where it is full (R624). -/
def Blk.tamperLog (b : Blk) (c lvl : Nat) : Blk :=
  let n := b.fld F.TAMPER_STAT_COUNT
  if n < 64 then
    (((((b.put (F.TAMPER_LOG_LO_SOURCE n) c).put (F.TAMPER_LOG_LO_STATE n) (b.fld F.AON_PSTATE_STATE)).put
      (F.TAMPER_LOG_LO_LEVEL n) lvl).put (F.TAMPER_LOG_HI_SEC n) (b.fld F.AON_RTC_SEC_SEC)).put
      F.TAMPER_STAT_COUNT (n + 1)).put F.TAMPER_STAT_PENDING 1
  else b.raiseF 218 c

/-- A segment of the quarantine service (R625): OP, index, count, payload, 64 bytes. -/
def quarSegment (op i n : Nat) (l : List Byte) : List Byte :=
  leBytes 1 op ++ leBytes 1 i ++ leBytes 1 n ++ (l ++ List.replicate (61 - l.length) 0).take 61

/-- A payload cut into segments of 61 bytes, `n` of them from index `i`. -/
def quarCut (op i total : Nat) : Nat → List Byte → List (List Byte)
  | 0, _ => []
  | n + 1, l => quarSegment op i total (l.take 61) :: quarCut op (i + 1) total n (l.drop 61)

/-! ## Meanings -/

/-- A write of KV_CMD (R615). -/
def Blk.kvCmd (b : Blk) (i : Init) (op slot : Nat) (ds : Bool) (src arg : Nat) : Blk :=
  b.onWrite i R.KV_CMD (F.KV_CMD_OP.word op ||| F.KV_CMD_SLOT.word slot ||| F.KV_CMD_SRC_DS.word ds.toNat ||| F.KV_CMD_SRC.word src |||
    F.KV_CMD_ARG.word arg) (fun b => b.kvStart op slot ds src arg)

/-- KV_CMD with OP 1 (R615). -/
def execClear (i : Init) (slot : Nat) (s : State) : Host.Outcome State Fault Refusal :=
  onBlk true s (fun b => b.kvCmd i 1 slot false 0 0)

/-- KV_CMD with OP 2 (R615). -/
def execLoad (i : Init) (slot : Nat) (s : State) : Host.Outcome State Fault Refusal :=
  onBlk true s (fun b => b.kvCmd i 2 slot false 0 0)

/-- KV_CMD with OP 3 (R613). -/
def execDerive (i : Init) (slot : Nat) (ds : Bool) (src : Nat) (s : State) :
    Host.Outcome State Fault Refusal :=
  onBlk true s (fun b => b.kvCmd i 3 slot ds src 0)

/-- KV_CMD with OP 4 (R619). -/
def execStore (i : Init) (slot : Nat) (s : State) : Host.Outcome State Fault Refusal :=
  onBlk true s (fun b => b.kvCmd i 4 slot false 0 0)

/-- KV_CMD with OP 5 (R620). -/
def execUnstore (i : Init) (slot : Nat) (s : State) : Host.Outcome State Fault Refusal :=
  onBlk true s (fun b => b.kvCmd i 5 slot false 0 0)

/-- KV_CMD with OP 6 (R616). -/
def execHkLoad (i : Init) (slot : Nat) (s : State) : Host.Outcome State Fault Refusal :=
  onBlk true s (fun b => b.kvCmd i 6 slot false 0 0)

/-- KV_CMD with OP 7 (R615). -/
def execPubkey (i : Init) (slot : Nat) (s : State) : Host.Outcome State Fault Refusal :=
  onBlk true s (fun b => b.kvCmd i 7 slot false 0 0)

/-- KV_CMD with OP 8 (R615). -/
def execExtend (i : Init) (arg : Nat) (s : State) : Host.Outcome State Fault Refusal :=
  onBlk true s (fun b => b.kvCmd i 8 0 false 0 arg)

/-- KV_CMD with OP 9 (R630). -/
def execAttest (i : Init) (s : State) : Host.Outcome State Fault Refusal :=
  onBlk true s (fun b => b.kvCmd i 9 0 false 0 0)

/-- KV_CMD with OP 10 (R626). -/
def execDbgChal (i : Init) (s : State) : Host.Outcome State Fault Refusal :=
  onBlk true s (fun b => b.kvCmd i 10 0 false 0 0)

/-- KV_CMD with OP 11 (R626). -/
def execDbgResp (i : Init) (level : Nat) (s : State) : Host.Outcome State Fault Refusal :=
  onBlk true s (fun b => b.kvCmd i 11 0 false 0 level)

/-- KV_CMD with another OP (R615). -/
def execKvCmdInvalid (i : Init) (s : State) : Host.Outcome State Fault Refusal :=
  onBlk true s (fun b => b.kvCmd i 0 0 false 0 0)

/-- The KV command in progress ends (R615). -/
def execKvCommandComplete (s : State) : Host.Outcome State Fault Refusal :=
  onMem true s (fun b m => b.kvComplete m)

/-- DS_OFF is blown (R622). -/
def execDsOffBlow (s : State) : Host.Outcome State Fault Refusal :=
  onBlk true s (fun b =>
    if b.dsOffDue then
      let b1 := ({ b with dsOffDue := false } : Blk).put F.TAMPER_STAT_HARD 1
      if b.kc = .down ∨ b.kc = .held then b1
      else
        { b1 with k := { b1.k with ak := none, sk := none } }.kvSync
    else b)

/-- Quarantine OP 0x01 (R625). -/
def execQuarantineStatus (s : State) : Host.Outcome State Fault Refusal :=
  onBlk true s (fun b =>
    if b.kc = .quar then
      let n := b.fld F.TAMPER_STAT_COUNT
      let l := (List.range n).flatMap (fun k =>
        leBytes 4 (b.reg (R.TAMPER_LOG_LO k)).toNat ++ leBytes 4 (b.reg (R.TAMPER_LOG_HI k)).toNat)
      let segs := (l.length + 60) / 61
      let out := quarSegment 1 0 (segs + 1) (leBytes 4 (b.reg R.TAMPER_STAT).toNat) ::
        quarCut 1 1 (segs + 1) segs l
      { b with k := { b.k with quarOut := out } }
    else b)

/-- Quarantine OP 0x02 with a nonce (R625). -/
def execQuarantineAttest (nonce : List Byte) (s : State) : Host.Outcome State Fault Refusal :=
  onBlk true s (fun b =>
    if b.kc = .quar then { b with k := { b.k with quarOut := quarCut 2 0 12 12 (b.attest 1 nonce) } } else b)

end Sys2Proof.Machine
end

