-- ==== Sys2Proof/Machine/Crypto.lean ====
section
/-!
DEFINITION. Machine/Crypto.lean: the crypto engines and their job queues (R627 to R629), and the tamper
alarm, which aborts their jobs (R621 to R624).
-/

namespace Sys2Proof.Machine

/-- A CRY descriptor (R627). -/
structure CryDesc where
  src : Nat
  dst : Nat
  aux : Nat
  len : Nat
  auxLen : Nat
  iv : List Byte
  slot : Nat
  op : Nat
  irq : Bool
  hw : Bool
  resBad : Bool
  tag : List Byte
deriving DecidableEq, Repr

/-- The descriptor that 64 bytes give. -/
def cryDesc (l : List Byte) : CryDesc :=
  let len := fieldAt l 0x18 4
  let fl := fieldAt l 0x2e 1
  { src := fieldAt l 0 8, dst := fieldAt l 8 8, aux := fieldAt l 0x10 8, len := len % 2 ^ 24,
    auxLen := fieldAt l 0x1c 4, iv := (l.drop 0x20).take 12, slot := fieldAt l 0x2c 1 % 64,
    op := fieldAt l 0x2d 1, irq := fl.testBit 0, hw := fl.testBit 7,
    resBad := len / 2 ^ 24 != 0 || fl / 2 % 64 != 0 || 64 ≤ fieldAt l 0x2c 1, tag := (l.drop 0x30).take 16 }

/-- Has engine `k` the operation (R627)? -/
def engineHas (k op : Nat) : Bool :=
  (k < 2 && 1 ≤ op && op ≤ 4) || (k == 2 && op == 5) || (k == 3 && (op == 6 || op == 7))

/-- Does the job's key pass R611 for engine `k` and queue `q`? SHA384 and VERIFY use no slot. -/
def Blk.jobKeyOk (b : Blk) (k q : Nat) (d : CryDesc) : Bool :=
  d.op == 5 || d.op == 7 ||
    (b.slotHas d.slot (if d.op = 6 then 3 else 1) && (b.fld (F.KV_SLOT_ENG d.slot)).testBit k &&
      b.slotOwner d.slot == b.devCtx 4 q)

/-- 2^SIZE of a queue (R606). -/
def Blk.cqLen (b : Blk) (q : Nat) : Nat :=
  let n := b.fld (F.CQ_CTL_SIZE q)
  2 ^ (if 4 ≤ n ∧ n ≤ 12 then n else 4)

/-- Has queue `q` a job to run? -/
def Blk.cqReady (b : Blk) (q : Nat) : Bool :=
  b.on (F.CQ_CTL_EN q) && !b.on (F.CQ_STAT_FETCH_ERR q) && !b.k.cryWait.get (fun _ => false) q &&
    b.fld (F.CQ_HEAD_HEAD q) % b.cqLen q != b.fld (F.CQ_TAIL_TAIL q) % b.cqLen q

/-- The queue that engine `k` serves: the one in progress, else the next in turn (R593, R627). -/
def Blk.cryNext (b : Blk) (k : Nat) : Option Nat :=
  let t := b.k.cryTurn.get (fun _ => 0) k
  let l := (List.range 4).map (fun j => 4 * k + (t + j) % 4)
  match l.find? (fun q => b.on (F.CQ_STAT_BUSY q)) with
  | some q => some q
  | none => l.find? b.cqReady

def Blk.cryPass (b : Blk) (k q : Nat) : Blk :=
  { b with k := { b.k with cryTurn := b.k.cryTurn.set (fun _ => 0) k ((q + 1) % 4) } }

/-- The device address of the job at HEAD. -/
def Blk.cqAt (b : Blk) (q : Nat) : Nat :=
  b.fld (F.CQ_BASE_HI_BASE q) * 2 ^ 32 + b.fld (F.CQ_BASE_LO_BASE q) * 64 +
    64 * (b.fld (F.CQ_HEAD_HEAD q) % b.cqLen q)

/-- A queue stops on a refused access (R627). -/
def Blk.cqErr (b : Blk) (q : Nat) : Blk :=
  (((b.put (F.CQ_STAT_FETCH_ERR q) 1).put (F.CQ_STAT_BUSY q) 0).setBit (F.CQ_EVT_EVT q) 2).raise 215 q
    (some (b.devCtx 4 q))

/-- The grant of queue `q`'s bulk job ends, or its request is withdrawn. -/
def Blk.bulkDrop (b : Blk) (q : Nat) : Blk :=
  let mine (a : Ask) : Bool := a.kind == 4 && a.unit == q
  let b1 := { b with
    wbgGrants := b.wbgGrants.filter (fun a => !mine a)
    wbgQueue := b.wbgQueue.filter (fun a => !mine a) }
  (b1.setWb { b1.k.wb with
    new := b1.k.wb.new.filter (fun a => !mine a)
    refused := b1.k.wb.refused.filter (fun a => !mine a)
    revoked := b1.k.wb.revoked.filter (fun a => !mine a) }).put (F.CQ_STAT_PAUSED q) 0

/-- Is a bulk request of queue `q` waiting, and is it granted? -/
def Blk.bulkAsked (b : Blk) (q : Nat) : Bool :=
  (b.wbgQueue ++ b.k.wb.new).any (fun a => a.kind == 4 && a.unit == q)
def Blk.bulkGranted (b : Blk) (q : Nat) : Bool := b.wbgGrants.any (fun a => a.kind == 4 && a.unit == q)

/-- Queue `q` asks for leave and waits (R231, R629). -/
def Blk.bulkAsk (b : Blk) (q : Nat) : Blk :=
  let a : Ask := { id := b.nreq, kind := 4, unit := q, ctx := b.devCtx 4 q
                   power := b.fld (F.CRY_PWR_PWR (q / 4)) * 10, since := b.clk }
  let b1 := b.bulkDrop q
  (({ b1 with nreq := b1.nreq + 1 } : Blk).setWb { b1.k.wb with new := b1.k.wb.new ++ [a] }).put
    (F.CQ_STAT_PAUSED q) 1

/-- Does the job take leave (R629)? -/
def Blk.isBulk (b : Blk) (k : Nat) (d : CryDesc) : Bool := k < 3 && b.fld F.CRY_BULK_KB * 1024 ≤ d.len

/-- The end of a job: STATUS, TAG where it is written, the write-back, HEAD, the events (R600, R627). -/
def Blk.cryEnd (b : Blk) (m : List Host.Cell) (q : Nat) (l : List Byte) (irq : Bool) (status : Nat)
    (tag : Option (List Byte)) : Blk × List Host.Cell :=
  let l1 := patch l 0x2e (leBytes 1 (fieldAt l 0x2e 1 % 128) ++ leBytes 1 status)
  let l2 := match tag with
    | some t => patch l1 0x30 t
    | none => l1
  match b.wr m 4 q (b.cqAt q) l2 with
  | (.ok _, b1, m1) =>
    let b2 := ((b1.bulkDrop q).put (F.CQ_HEAD_HEAD q) ((b1.fld (F.CQ_HEAD_HEAD q) + 1) % b1.cqLen q)).put
      (F.CQ_STAT_BUSY q) 0
    if status = 2 then (b2.cqErr q, m1)
    else
      let b3 := b2.incWrap (F.CQ_DONE_DONE q)
      let b4 := if irq then b3.setBit (F.CQ_EVT_EVT q) 0 else b3
      (if status = 1 then (b4.incWrap (F.CQ_FAILS_FAILS q)).setBit (F.CQ_EVT_EVT q) 1 else b4, m1)
  | (.refused, b1, m1) => ((b1.bulkDrop q).cqErr q, m1)
  | (.held, b1, m1) => (b1, m1)

/-- The result of a job on its input: the output bytes, the tag, or a failed check (R627). -/
inductive JobOut where
  | out (data : List Byte) (tag : Option (List Byte))
  | bad (zeros : Nat)
deriving DecidableEq, Repr

/-- What the engine computes: key, job, input and additional data. -/
def jobOut (key : List Byte) (d : CryDesc) (inp aux : List Byte) : JobOut :=
  match d.op with
  | 1 =>
    let c := Config.gcmEnc key d.iv aux inp
    .out (c.take d.len) (some ((c.drop d.len).take 16))
  | 2 =>
    match Config.gcmDec key d.iv aux inp d.tag with
    | some p => .out p none
    | none => .bad d.len
  | 3 => .out [] (some (Config.cmac key inp))
  | 4 => if Config.cmac key inp = d.tag then .out [] none else .bad 0
  | 5 => .out (Config.sha384 inp) none
  | 6 => .out (Config.ecdsaSign key inp) none
  | _ => if Config.ecdsaVerify (aux.take 96) inp (aux.drop 96) then .out [] none else .bad 0

/-- The bytes of additional data a job reads. -/
def CryDesc.auxBytes (d : CryDesc) : Nat := if d.op = 7 then 192 else if d.op ≤ 2 then d.auxLen else 0

/-- The bytes of input a job reads: a digest for SIGN and VERIFY. -/
def CryDesc.inBytes (d : CryDesc) : Nat := if 6 ≤ d.op then 48 else d.len

/-- A job with a usable key runs to its end (R627, R628). -/
def Blk.job (b : Blk) (m : List Host.Cell) (q : Nat) (l : List Byte) (d : CryDesc) : Blk × List Host.Cell :=
  match b.rd m 4 q d.src d.inBytes with
  | (.held, b1, m1) => (b1, m1)
  | (.refused, b1, m1) => b1.cryEnd m1 q l d.irq 2 none
  | (.ok inp, b1, m1) =>
    match b1.rd m1 4 q d.aux d.auxBytes with
    | (.held, b2, m2) => (b2, m2)
    | (.refused, b2, m2) => b2.cryEnd m2 q l d.irq 2 none
    | (.ok aux, b2, m2) =>
      match jobOut (b2.keyOf d.slot) d inp aux with
      | .out data tag =>
        match b2.wr m2 4 q d.dst data with
        | (.held, b3, m3) => (b3, m3)
        | (.ok _, b3, m3) => b3.cryEnd m3 q l d.irq 0 tag
        | (.refused, b3, m3) =>
          let z := b3.wr m3 4 q d.dst (List.replicate data.length 0)
          z.2.1.cryEnd z.2.2 q l d.irq 2 none
      | .bad n =>
        match b2.wr m2 4 q d.dst (List.replicate n 0) with
        | (.held, b3, m3) => (b3, m3)
        | (.refused, b3, m3) => b3.cryEnd m3 q l d.irq 2 none
        | (.ok _, b3, m3) => b3.cryEnd m3 q l d.irq 1 none

/-- Engine `k` runs its next job, if `p` holds of its operation and of its bad argument. -/
def Blk.cryRun (b : Blk) (m : List Host.Cell) (k : Nat) (p : Nat → Bool → Bool) : Blk × List Host.Cell :=
  if !b.kcRun || b.gateOff (0x40 + k) then (b, m)
  else
    match b.cryNext k with
    | none => (b, m)
    | some q =>
      match b.rd m 4 q (b.cqAt q) 64 with
      | (.refused, b1, m1) => ((b1.cryPass k q).cqErr q, m1)
      | (.held, b1, m1) => (b1, m1)
      | (.ok l, b1, m1) =>
        let d := cryDesc l
        let bad := d.resBad || !engineHas k d.op
        if !d.hw then
          let b2 := b1.cryPass k q
          ({ b2 with k := { b2.k with cryWait := b2.k.cryWait.set (fun _ => false) q true } }, m1)
        else if !p d.op bad then (b, m)
        else
          let b2 := (b1.cryPass k q).put (F.CQ_STAT_BUSY q) 1
          if bad then b2.cryEnd m1 q l d.irq 3 none
          else if !b2.jobKeyOk k q d then
            (b2.raise 214 d.slot (some (b2.devCtx 4 q))).cryEnd m1 q l d.irq 4 none
          else if b2.isBulk k d && !b2.bulkGranted q then
            (if b2.bulkAsked q then b2 else b2.bulkAsk q, m1)
          else b2.job m1 q l d

/-! ## Tamper alarm -/

/-- The job in progress on queue `q` is aborted by a tamper alarm (R623, R628). -/
def Blk.cryAbort (b : Blk) (m : List Host.Cell) (q : Nat) : Blk × List Host.Cell :=
  if b.on (F.CQ_STAT_BUSY q) then
    match b.rd m 4 q (b.cqAt q) 64 with
    | (.ok l, b1, m1) => b1.cryEnd m1 q l (cryDesc l).irq 5 none
    | (_, b1, m1) => ((b1.bulkDrop q).put (F.CQ_STAT_BUSY q) 0, m1)
  else (b, m)

/-- The zeroize path (R623); `stuck` says that the read-back finds a location that is not zero. -/
def Blk.zeroPath (b : Blk) (m : List Host.Cell) (stuck : Bool) : Blk × List Host.Cell :=
  let b0 := { b with hk0 := none }
  if b.kcRun || b.kc == .halted then
    let r := (List.range 16).foldl (fun (x : Blk × List Host.Cell) q => x.1.cryAbort x.2 q) (b0.zeroize, m)
    let b1 := if stuck then r.1.raise 219 else r.1
    (b1.kvSync, r.2)
  else (b0, m)

/-- Is tamper source `c` monitored now (R621)? VCORE only while RAIL_GOOD is high, the 25 MHz reference outside
SLEEP, and none at level 0 or without VKEEP. -/
def Blk.tamperOn (b : Blk) (c : Nat) : Bool :=
  b.tamperLevel c != 0 && b.pwr.vkeep && (c != 4 || b.pwr.railGood) && (c != 5 || !b.asleep)

/-- An alarm that falls into a STORE or UNSTORE aborts it: how many of its words are written is free (R631). -/
def Blk.tearNow (b : Blk) (m : List Host.Cell) : Blk × List Host.Cell :=
  match b.tear.torn, b.k.sk with
  | some t, some sk => ({ b.tear with torn := b.torn } : Blk).storePart m sk t.un t.slot t.attr t.owner t.key t.words
  | _, _ => (b, m)

/-- TAMPER_STAT.LIVE: the monitored sources of `live` (R621, R634). -/
def Blk.tamperLive (b : Blk) (live : Nat) : Nat :=
  (List.range 8).foldl (fun v c => if live.testBit c && b.tamperOn c then v + 2 ^ c else v) 0

/-- A monitored tamper source alarms (R621 to R624); `live` are the sources in alarm now. -/
def Blk.tamperAlarm (b : Blk) (m : List Host.Cell) (c live : Nat) (stuck : Bool) : Blk × List Host.Cell :=
  let lv := b.tamperLevel c
  let b0 := b.put F.TAMPER_STAT_LIVE (b.tamperLive live)
  if !b.tamperOn c then (b0, m)
  else
    let hard := 2 ≤ lv || 64 ≤ b.fld F.TAMPER_STAT_COUNT
    let b1 := (b0.tamperLog c lv).event F.TAMPER_EVT_EVT F.TAMPER_IEN_IEN c 0x102
    if b.kc = .quar then (b1, m)
    else
      let b2 := { b1 with dsOffDue := b1.dsOffDue || hard }
      if b.asleep then (({ b2 with hk0 := none } : Blk).wkTamper, m)
      else
        let b3 := if b2.slp.armed && b2.slp.latch.isNone then b2.sleepAbort else b2
        if b3.kcRun then
          let r := b3.tearNow m
          let b4 := (r.1.raise (if hard then 210 else 209) c).setBit F.KV_EVT_EVT 1
          ({ b4 with k := { b4.k with tampered := true } } : Blk).zeroPath r.2 stuck
        else if b3.kc = .halted then
          let r := b3.zeroPath m stuck
          (r.1.quarEnter, r.2)
        else b3.zeroPath m stuck

/-! ## Meanings -/

/-- Engine `k` runs a GCM_ENC job (R627). -/
def execGcmEnc (k : Nat) (s : State) : Host.Outcome State Fault Refusal :=
  onMem (k < 4) s (fun b m => b.cryRun m k (fun op bad => op == 1 && !bad))

/-- Engine `k` runs a GCM_DEC job (R627). -/
def execGcmDec (k : Nat) (s : State) : Host.Outcome State Fault Refusal :=
  onMem (k < 4) s (fun b m => b.cryRun m k (fun op bad => op == 2 && !bad))

/-- Engine `k` runs a CMAC_GEN job (R627). -/
def execCmacGen (k : Nat) (s : State) : Host.Outcome State Fault Refusal :=
  onMem (k < 4) s (fun b m => b.cryRun m k (fun op bad => op == 3 && !bad))

/-- Engine `k` runs a CMAC_VER job (R627). -/
def execCmacVer (k : Nat) (s : State) : Host.Outcome State Fault Refusal :=
  onMem (k < 4) s (fun b m => b.cryRun m k (fun op bad => op == 4 && !bad))

/-- Engine `k` runs a SHA384 job (R627). -/
def execSha384 (k : Nat) (s : State) : Host.Outcome State Fault Refusal :=
  onMem (k < 4) s (fun b m => b.cryRun m k (fun op bad => op == 5 && !bad))

/-- Engine `k` runs a SIGN job (R627). -/
def execSign (k : Nat) (s : State) : Host.Outcome State Fault Refusal :=
  onMem (k < 4) s (fun b m => b.cryRun m k (fun op bad => op == 6 && !bad))

/-- Engine `k` runs a VERIFY job (R627). -/
def execVerify (k : Nat) (s : State) : Host.Outcome State Fault Refusal :=
  onMem (k < 4) s (fun b m => b.cryRun m k (fun op bad => op == 7 && !bad))

/-- Engine `k` takes a job with an operation it lacks or another bad argument (R627). -/
def execCryBadOpcode (k : Nat) (s : State) : Host.Outcome State Fault Refusal :=
  onMem (k < 4) s (fun b m => b.cryRun m k (fun _ bad => bad))

/-- The revoked bulk job of engine `k` pauses and asks again (R629). -/
def execCryptoBulkPause (k : Nat) (s : State) : Host.Outcome State Fault Refusal :=
  onBlk (k < 4) s (fun b =>
    match (List.range 4).find? (fun j =>
      b.on (F.CQ_STAT_BUSY (4 * k + j)) && b.k.wb.revoked.any (fun a => a.kind == 4 && a.unit == 4 * k + j)) with
    | some j => b.bulkAsk (4 * k + j)
    | none => b)

/-- A tamper source alarms (R624). -/
def execTamperAlarm (c live : Nat) (stuck : Bool) (s : State) : Host.Outcome State Fault Refusal :=
  onMem (c < 8) s (fun b m => b.tamperAlarm m c (live % 256) stuck)

end Sys2Proof.Machine
end

