-- ==== Sys2Proof/Machine/Gateway.lean ====
section
/-!
DEFINITION. Machine/Gateway.lean: CAN and LIN routing and the tunnels through CG (R351 to R356), with the
destinations of copies: the gateway transmit FIFO of a CAN controller, the response data of a LIN identifier,
CG's store.
-/

namespace Sys2Proof.Machine

def Blk.canOf (b : Blk) (n : Nat) : CanCtl := b.k.can.get (fun _ => {}) n
def Blk.setCan (b : Blk) (n : Nat) (x : CanCtl) : Blk :=
  { b with k := { b.k with can := b.k.can.set (fun _ => {}) n x } }
def Blk.linOf (b : Blk) (n : Nat) : LinCtl := b.k.lin.get (fun _ => {}) n
def Blk.setLin (b : Blk) (n : Nat) (x : LinCtl) : Blk :=
  { b with k := { b.k with lin := b.k.lin.set (fun _ => {}) n x } }
def Blk.lookOf (b : Blk) (p : Nat) : List Rx := b.k.look.get (fun _ => []) p
def Blk.setLook (b : Blk) (p : Nat) (l : List Rx) : Blk :=
  { b with k := { b.k with look := b.k.look.set (fun _ => []) p l } }

/-! ## Copies -/

/-- The lengths an FD frame can have, with their codes. -/
def fdLens : List (Nat × Nat) :=
  (List.range 9).map (fun n => (n, n)) ++ [(12, 9), (16, 10), (20, 11), (24, 12), (32, 13), (48, 14), (64, 15)]

/-- The smallest valid FD length of at least `n` bytes, and its code (R422). -/
def fdLen (n : Nat) : Nat × Nat := (fdLens.find? (fun e => n ≤ e.1)).getD (64, 15)

/-- A copy enters the gateway transmit FIFO of CANn (R353, R408). -/
def Blk.gwPut (b : Blk) (n : Nat) (f : CanFrame) : Bool × Blk :=
  let x := b.canOf n
  if b.fld (F.CAN_STAT_STATE n) = 4 ∨ 16 ≤ x.gw.length then (false, b)
  else (true, b.setCan n { x with
    gw := x.gw ++ [f] })

/-- LEN of a response entry (R424). -/
def Blk.lrLen (b : Blk) (n id : Nat) : Nat := max 1 (min 8 (b.fld (F.LR_CFG_LEN n id)))

/-- DIR of a response entry: 3 acts as 0. -/
def Blk.lrDir (b : Blk) (n id : Nat) : Nat := b.fld (F.LR_CFG_DIR n id) % 3

/-- The response data in force of an identifier. -/
def Blk.lrData (b : Blk) (n id : Nat) : List Byte :=
  leBytes 4 (b.reg (R.LR_DATA_LO n id)).toNat ++ leBytes 4 (b.reg (R.LR_DATA_HI n id)).toNat

/-- The response data in force become `l`, eight bytes. -/
def Blk.setLrData (b : Blk) (n id : Nat) (l : List Byte) : Blk :=
  (b.setReg (R.LR_DATA_LO n id) (BitVec.ofNat 32 (leNat (l.take 4)))).setReg (R.LR_DATA_HI n id)
    (BitVec.ofNat 32 (leNat ((l.drop 4).take 4)))

/-- A copy for LINn replaces the data in force of its identifier (R416). -/
def Blk.linPut (b : Blk) (n id : Nat) (data : List Byte) : Bool × Blk :=
  if b.lrDir n id ≠ 1 then (false, b)
  else
    let k := b.lrLen n id
    let l := (data.take k ++ List.replicate k 0xff).take k
    (true, b.setLrData n id (l ++ (b.lrData n id).drop k))

/-- A copy is refused: RT_MC_PD of its bus, FS077 (R353). -/
def Blk.copyDrop (b : Blk) (bus : Nat) : Blk := (b.incWrap (F.RT_MC_PD_MC_PARTIAL_DROP bus)).raise 77 bus

/-- A copy is refused for its format (R353). -/
def Blk.fmtDrop (b : Blk) (bus : Nat) : Blk := (b.incWrap F.RT_FMT_RT_FMT).raise 77 bus

/-! ## Routes -/

/-- Word `w` of route `r` (R351). -/
def Blk.route (b : Blk) (r w : Nat) : Nat := (b.reg (R.ROUTE r w)).toNat

/-- Does route `r` match a message (R352)? -/
def Blk.routeHit (b : Blk) (r : Nat) (m : GwMsg) : Bool :=
  let w2 := b.route r 2
  let flags := w2 / 2 ^ 8 % 256
  let rb := w2 / 2 ^ 16 % 256
  let mask := b.route r 1 % 2 ^ 29
  let tun := 0x40 ≤ m.src && m.src < 0x80
  flags.testBit 0 && w2 % 256 == m.src && (!tun || rb == 0xff || rb == m.rbus) &&
    ((m.frame.id ^^^ b.route r 0 % 2 ^ 29) &&& mask) == 0 &&
    (m.lin || ((b.route r 0).testBit 29 == m.frame.ide && flags.testBit (m.frame.fmt + 1)))

/-- The lowest-numbered route that matches. -/
def Blk.routeOf (b : Blk) (m : GwMsg) : Option Nat := (List.range 2048).find? (fun r => b.routeHit r m)

/-- The identifier of a route's copies (R351): OUT_ID with REWRITE, else as received. -/
def Blk.outId (b : Blk) (r : Nat) (f : CanFrame) : Nat × Bool :=
  let w := b.route r 4
  if w.testBit 31 then (w % 2 ^ 29, w.testBit 29) else (f.id, f.ide)

/-- OUT_FMT of a route. -/
def Blk.outFmt (b : Blk) (r : Nat) : Nat := b.route r 5 % 4

/-- The CAN copy of a frame for CANn, none if its format refuses it (R351, R353). -/
def Blk.canCopy (b : Blk) (r n : Nat) (f : CanFrame) : Option CanFrame :=
  let o := b.outId r f
  let g := { f with id := o.1, ide := o.2 }
  let fmt := b.outFmt r
  if f.fmt = 2 then (if n < 4 ∧ fmt = 0 then some g else none)
  else if fmt = 0 then some g
  else if fmt = 1 then
    if f.fmt = 1 ∧ 8 < f.data.length then none
    else some { g with fmt := 0, brs := false, esi := false }
  else if f.rtr then none
  else some { g with fmt := 1, brs := fmt == 3, dlc := (fdLen f.data.length).2 }

/-- A copy for CANn is made (R353). -/
def Blk.copyCan (b : Blk) (r n : Nat) (f : CanFrame) : Blk :=
  match b.canCopy r n f with
  | none => b.fmtDrop n
  | some g =>
    let q := b.gwPut n g
    if q.1 then q.2 else b.copyDrop n

/-- A copy for LINn is made (R353, R416). -/
def Blk.copyLin (b : Blk) (r n : Nat) (f : CanFrame) : Blk :=
  if f.fmt = 2 ∨ (f.fmt = 1 ∧ 8 < f.data.length) then b.fmtDrop (16 + n)
  else
    let q := b.linPut n ((b.outId r f).1 % 64) f.data
    if q.1 then q.2 else b.copyDrop (16 + n)

/-! ## Tunnels -/

/-- `n` bytes of a number, most significant first. -/
def beBytes (n v : Nat) : List Byte := (leBytes n v).reverse

/-- Bytes as a number, most significant first. -/
def beNat (l : List Byte) : Nat := leNat l.reverse

/-- Word `w` of tunnel `t`: words 0 to 3 hold DA, VLAN and STREAM_ID (R354). -/
def Blk.tunBytes (b : Blk) (t : Nat) : List Byte :=
  (List.range 4).flatMap (fun w => leBytes 4 (b.reg (R.TUN t w)).toNat)

/-- The address of CG in wire order (R361). -/
def Blk.cgMac (b : Blk) : List Byte :=
  beBytes 6 (b.fld F.CG_MAC_HI_MAC_HI * 2 ^ 32 + b.fld F.CG_MAC_LO_MAC_LO)

/-- Zero bytes that fill `n` to a whole quadlet. -/
def quadPad (n : Nat) : Nat := (4 - n % 4) % 4

/-- The flag byte of an ACF message: pad, mtv, rtr, eff, brs, fdf, esi (R355; IEEE 1722). -/
def acfFlags (pad : Nat) (mtv : Bool) (f : CanFrame) : Nat :=
  pad * 64 + mtv.toNat * 32 + f.rtr.toNat * 16 + f.ide.toNat * 8 + f.brs.toNat * 4 + (f.fmt == 1).toNat * 2 +
    f.esi.toNat

/-- The two bytes every ACF message begins with: type in 7 bits, length in quadlets in 9. -/
def acfHead (type quads : Nat) : List Byte := beBytes 2 (type * 512 + quads)

/-- The ACF message of a copy (R355; the layouts are those of IEEE 1722). -/
def acfMessage (brief : Bool) (m : GwMsg) (id : Nat) : List Byte :=
  let n := m.frame.data.length
  let pad := quadPad n
  let data := m.frame.data ++ List.replicate pad 0
  let src := if 0x40 ≤ m.src then m.rbus % 32 else m.src % 32
  let bus := BitVec.ofNat 8 src
  let time := beBytes 8 m.tb1
  if m.lin then
    acfHead 3 ((12 + n + pad) / 4) ++ [BitVec.ofNat 8 (pad * 64 + 32 + src), BitVec.ofNat 8 id] ++ time ++
      data
  else if brief then
    acfHead 2 ((8 + n + pad) / 4) ++ [BitVec.ofNat 8 (acfFlags pad false m.frame), bus] ++ beBytes 4 id ++ data
  else
    acfHead 1 ((16 + n + pad) / 4) ++ [BitVec.ofNat 8 (acfFlags pad true m.frame), bus] ++ time ++ beBytes 4 id ++
      data

/-- The frame that CG builds around an ACF message for tunnel `t` (R355). -/
def Blk.cgFrame (b : Blk) (t : Nat) (acf : List Byte) : List Byte :=
  let e := b.tunBytes t
  let vlan := leNat ((e.drop 6).take 2)
  let tag := if vlan.testBit 15 then beBytes 2 0x8100 ++ beBytes 2 (vlan % 2 ^ 15 / 2 ^ 12 * 2 ^ 13 + vlan % 2 ^ 12)
    else []
  e.take 6 ++ b.cgMac ++ tag ++ beBytes 2 0x22f0 ++
    beBytes 4 (0x82 * 2 ^ 24 + 2 ^ 23 + acf.length % 2 ^ 11 * 2 ^ 8 + b.fld (F.TUN4_TX_SEQ t)) ++ (e.drop 8).take 8 ++
    acf

/-- TS of a frame that arrives now: TB0 in 33 bits (R278). -/
def Blk.ts33 (b : Blk) : Nat := b.now % 2 ^ 33

/-- A frame is padded to the 60 bytes that Ethernet asks before the FCS. -/
def padFrame (l : List Byte) : List Byte := l ++ List.replicate (60 - l.length) 0

/-- A copy for tunnel `t` is made (R353, R355): OUT_FMT acts on it as on a copy for a controller that takes no
XL frames. -/
def Blk.copyTunnel (b : Blk) (r t : Nat) (m : GwMsg) : Blk :=
  match if m.lin then some { m.frame with id := (b.outId r m.frame).1 } else b.canCopy r 16 m.frame with
  | none => b.fmtDrop (28 + t)
  | some g =>
  if (b.fld (F.TUN4_TFLAGS t)).testBit 0 = false then b
  else if 256 ≤ (b.lookOf 28).length then b.copyDrop (28 + t)
  else
    let acf := acfMessage ((b.fld (F.TUN4_TFLAGS t)).testBit 2) { m with frame := g } g.id
    let b1 := b.setLook 28 (b.lookOf 28 ++ [{ data := b.cgFrame t acf, ts := b.ts33, since := b.clk }])
    (b1.put (F.TUN4_TX_SEQ t) (b.fld (F.TUN4_TX_SEQ t) + 1)).incWrap (F.TUN_CNT_CNT t 0)

/-- A message received without error is routed (R352 to R355); the gateway is off with the switch core (R367). -/
def Blk.gateway (b : Blk) (m : GwMsg) : Blk :=
  if b.swcOff then b else
  match b.routeOf m with
  | none => b.incWrap F.RT_MISS_RT_MISS
  | some r =>
    let w := b.route r 3
    let b1 := (List.range 16).foldl (fun x n => if w.testBit n then x.copyCan r n m.frame else x) b
    let b2 := (List.range 12).foldl (fun x n => if w.testBit (16 + n) then x.copyLin r n m.frame else x) b1
    let t := b.route r 2 / 2 ^ 24
    if t < 64 then b2.copyTunnel r t m else b2

/-- gPTP time in nanoseconds, formed from TB1 (R355). -/
def Blk.gptp (b : Blk) : Nat := b.k.tb1 / 2 ^ 32 % 2 ^ 64

end Sys2Proof.Machine
end

