-- ==== Sys2Proof/Machine/Can.lean ====
section
/-!
DEFINITION. Machine/Can.lean: the CAN controllers (R395 to R410, R413, R419 to R422, R553) and the CAN
transceivers (R411, R412). The bus itself is outside: what it brings (frames, errors, arbitration, recessive
bits) comes as commands.
-/

namespace Sys2Proof.Machine

/-! ## Registers -/

/-- The state of CANn (R420): 0 OFF, 1 INTEGRATING, 2 ERROR_ACTIVE, 3 ERROR_PASSIVE, 4 BUS_OFF,
5 RECOVERING, 6 RATE_DETECT. -/
def Blk.canState (b : Blk) (n : Nat) : Nat := b.fld (F.CAN_STAT_STATE n)
def Blk.setCanState (b : Blk) (n st : Nat) : Blk := b.put (F.CAN_STAT_STATE n) st

/-- MODE of CANn: 5 to 7 act as 1, listen-only. -/
def Blk.canMode (b : Blk) (n : Nat) : Nat :=
  let m := b.fld (F.CAN_CTL_MODE n)
  if 5 ≤ m then 1 else m

/-- Counter `k` of R421 counts. -/
def Blk.canCnt (b : Blk) (n k : Nat) : Blk := b.incWrap (F.CAN_CNT_CNT n k)

/-- Event bit `k` of CAN_EVT. -/
def Blk.canEvt (b : Blk) (n k : Nat) : Blk := b.setBit (F.CAN_EVT_EVT n) k

/-- Is the controller on its bus with nothing wrong (error active or error passive)? With EN 0 it is until the frame in
progress has ended (R410). -/
def Blk.canUp (b : Blk) (n : Nat) : Bool :=
  (b.on (F.CAN_CTL_EN n) || (b.canOf n).leaving) && (b.canState n == 2 || b.canState n == 3)

/-- Does the transceiver pass the bus to the controller (R412)? The responder drives that of CAN15. In internal
loopback the controller does not hear its bus (assumption 61). -/
def Blk.canHears (b : Blk) (n : Nat) : Bool :=
  b.canMode n != 2 && b.xcUp n

/-- Does what CANn sends reach its bus and come back: its transceiver is in NORMAL (R412), or it is in internal
loopback? -/
def Blk.canTalks (b : Blk) (n : Nat) : Bool := b.canMode n == 2 || b.fld (F.XC_CTL_MODE n) == 2

/-- UH ignores the TXD of CANn: since a keeper timeout without a keepalive (R459), and on CAN15 while the
responder drives the transceiver (R413). In internal loopback TXD is not used. -/
def Blk.txdCut (b : Blk) (n : Nat) : Bool :=
  b.canMode n != 2 && (b.on F.NM_STAT_FORCED || (n == 15 && b.respActive))

/-! ## Bit timing -/

/-- A bit of a timing word (R396): BRP and quanta, from its fields. -/
def bitQuanta (tseg1 tseg2 : Nat) : Nat := 3 + max 1 tseg1 + tseg2

/-- Clocks of a nominal bit. -/
def nominalClocks (brp tseg1 tseg2 : Nat) : Nat := (brp + 1) * bitQuanta tseg1 tseg2

/-- Clocks of a data-phase bit. A TSEG1 of 0 is taken as it stands. -/
def dataClocks (brp tseg1 tseg2 : Nat) : Nat := (brp + 1) * (3 + tseg1 + tseg2)

/-- Is a pair of nominal and FD timing words good (R397)? The FD word counts only with FD_EN. -/
def Blk.timingOk (b : Blk) (n : Nat) (nb db : Nat) : Bool :=
  let nomQ := bitQuanta (nb / 2 ^ 8 % 256) (nb / 2 ^ 16 % 128)
  let nom := (nb % 256 + 1) * nomQ
  let dat := dataClocks (db % 32) (db / 2 ^ 8 % 32) (db / 2 ^ 16 % 16)
  80 ≤ nom && 8 ≤ nomQ && (!b.on (F.CAN_CTL_FD_EN n) || (10 ≤ dat && dat < nom))

/-- Is the XL timing good (R397)? -/
def Blk.xlTimingOk (b : Blk) (n : Nat) : Bool :=
  let w := (b.reg (R.CAN_XBT n)).toNat
  let t1 := w / 2 ^ 8 % 32
  let t2 := w / 2 ^ 16 % 16
  !(n < 4 && b.on (F.CAN_CTL_XL_EN n)) || (4 ≤ 3 + t1 + t2 && 4 ≤ dataClocks (w % 32) t1 t2)

/-- Does CANn look for its rate (R400)? -/
def Blk.rateDetect (b : Blk) (n : Nat) : Bool := b.on (F.CAN_CTL_AUTORATE n) && b.canMode n == 1

/-- The enabled candidates of CANn, ascending. -/
def Blk.candidates (b : Blk) (n : Nat) : List Nat :=
  (List.range 8).filter (fun k => (b.fld (F.CAN_RATE_CFG_EN n)).testBit k)

/-- The timing check of a write of EN 1 (R397, R400). -/
def Blk.canTiming (b : Blk) (n : Nat) : Bool :=
  let rates := if b.rateDetect n then
      b.candidates n != [] && (b.candidates n).all (fun k =>
        b.timingOk n (b.reg (R.CAN_RATE_N n k)).toNat (b.reg (R.CAN_RATE_D n k)).toNat)
    else b.timingOk n (b.reg (R.CAN_NBT n)).toNat (b.reg (R.CAN_DBT n)).toNat
  rates && b.xlTimingOk n

/-! ## EN -/

/-- CANn leaves the bus when the frame in progress ends (R410); EN 0 does not end bus-off (R409). Whether a frame of
another node is on the bus that it is on is a free value (log 104). -/
def Blk.canLeave (b : Blk) (n : Nat) : Blk :=
  let b1 := b.put (F.CAN_CTL_EN n) 0
  if b.canState n = 4 ∨ b.canState n = 5 then b1
  else if (b.canOf n).sending.isSome then b1.setCan n { b.canOf n with leaving := true }
  else if b.canState n = 2 ∨ b.canState n = 3 then
    let r := b1.draw
    if r.1 % 2 = 1 then r.2.setCan n { b.canOf n with leaving := true } else r.2.setCanState n 0
  else b1.setCanState n 0

/-- CANn integrates, or looks for its rate (R400, R410). -/
def Blk.canOnBus (b : Blk) (n : Nat) : Blk :=
  if b.rateDetect n then
    ((b.setCanState n 6).put (F.CAN_STAT_RATE_OK n) 0).setCan n
      { b.canOf n with
        cand := (b.candidates n).headD 0
        integ := true
        good := 0
        passed := 0 }
  else b.setCanState n 1

/-- A frame on the bus has ended: a controller that leaves is OFF, or integrates if EN is 1 again (R410). -/
def Blk.canLeft (b : Blk) (n : Nat) : Blk :=
  if (b.canOf n).leaving && (b.canOf n).sending.isNone then
    let b1 := b.setCan n { b.canOf n with
      leaving := false }
    if 4 ≤ b1.canState n then b1 else if b1.on (F.CAN_CTL_EN n) then b1.canOnBus n else b1.setCanState n 0
  else b

/-- CANn joins the bus, once a frame on which it left has ended, or refuses (R397, R400, R410, R413). -/
def Blk.canJoin (b : Blk) (n : Nat) : Blk :=
  if n = 15 ∧ b.respActive then (b.put (F.CAN_CTL_EN n) 0).put (F.CAN_STAT_WR_IGN n) 1
  else if b.canTiming n = false then
    ((b.put (F.CAN_CTL_EN n) 0).put (F.CAN_STAT_CFG_ERR n) 1).raise 150 n
  else if b.canState n = 4 ∨ b.canState n = 5 ∨ (b.canOf n).leaving then b
  else b.canOnBus n

/-- The fields that may not change while EN is 1 (R397): MODE, FD_EN, XL_EN, XL_PWM. -/
def canCtlFrozen : W32 := 0x7e000000

/-- A write of CAN_CTL (R397, R400, R409, R410). -/
def Blk.canCtl (b : Blk) (n : Nat) (v : W32) : Blk :=
  let old := b.reg (R.CAN_CTL n)
  let en := b.on (F.CAN_CTL_EN n)
  let mask := if n < 4 then canCtlFrozen else 0x78000000
  let ign := en && ((old ^^^ v) &&& mask) != 0
  let w := if en then (v &&& ~~~ canCtlFrozen) ||| (old &&& canCtlFrozen) else v
  let b1 := b.writeReg (R.CAN_CTL n) (if n < 4 then w else w &&& ~~~ 0x06000000)
  let b2 := if ign || (en && v.getLsbD 31 && n == 15 && b.respActive) then b1.put (F.CAN_STAT_WR_IGN n) 1 else b1
  let b3 := if v.getLsbD 21 && b.canState n == 4 then (b2.setCanState n 5).put (F.CAN_STAT_REC n) 0 else b2
  if en && !v.getLsbD 31 then b3.canLeave n
  else if !en && v.getLsbD 31 then b3.canJoin n
  else b3

/-- A write of CAN_NBT, CAN_DBT, CAN_XBT or CAN_TDC (R397). -/
def Blk.canTimingWrite (b : Blk) (n a : Nat) (v : W32) : Blk :=
  if b.on (F.CAN_CTL_EN n) then b.put (F.CAN_STAT_WR_IGN n) 1 else b.writeReg a v

/-- 11 recessive bits have passed: integration ends (R410), also that at the rate of a candidate (R400); a controller
that leaves finds no frame in progress any more. -/
def Blk.canIntegrated (b : Blk) (n : Nat) : Blk :=
  if (b.canOf n).leaving then b.canLeft n
  else if b.canState n = 6 then b.setCan n { b.canOf n with
    integ := false }
  else if b.canState n = 1 then
    b.setCanState n (if 128 ≤ b.fld (F.CAN_STAT_TEC n) ∨ 128 ≤ b.fld (F.CAN_STAT_REC n) then 3 else 2)
  else b

/-- `k` occurrences of 11 recessive bits have passed in RECOVERING (R409). -/
def Blk.canRecovered (b : Blk) (n k : Nat) : Blk :=
  if b.canState n ≠ 5 then b
  else if k < 128 then b.put (F.CAN_STAT_REC n) k
  else
    let b1 := ((b.put (F.CAN_STAT_REC n) 0).put (F.CAN_STAT_TEC n) 0).canEvt n 7
    b1.setCanState n (if b.on (F.CAN_CTL_EN n) then 2 else 0)

/-! ## Message buffers

A buffer number `q` is 0 to 63 for MB q and 64 + k for XB k. -/

def Blk.mbOf (b : Blk) (n q : Nat) : CanBuf := (b.canOf n).buf.get (fun _ => {}) q
def Blk.setMb (b : Blk) (n q : Nat) (x : CanBuf) : Blk :=
  b.setCan n { b.canOf n with
    buf := (b.canOf n).buf.set (fun _ => {}) q x }

/-- Address of MB_CS or XB_CS of a buffer. -/
def mbCs (n q : Nat) : Nat := if q < 64 then R.MB_CS n q else R.XB_CS n (q - 64)
/-- Does the buffer exist (R395)? -/
def mbExists (n q : Nat) : Bool := n < 16 && (q < 64 || (q < 72 && n < 4))
/-- The fields that MB_CS and XB_CS share. -/
def mbFld (n q hi lo : Nat) : Fld := ⟨mbCs n q, hi, lo⟩
def Blk.mbCode (b : Blk) (n q : Nat) : Nat := b.fld (mbFld n q 31 30)
def Blk.mbPend (b : Blk) (n q : Nat) : Bool := b.on (mbFld n q 25 25)

/-- FULL of a buffer, and its bit of CAN_MB_FULL. -/
def Blk.mbFull (b : Blk) (n q : Nat) (v : Bool) : Blk :=
  let b1 := b.putB (mbFld n q 27 27) v
  if 64 ≤ q then b1
  else if v then b1.setBit (F.CAN_MB_FULL_FULL n (q / 32)) (q % 32)
  else b1.clrBit (F.CAN_MB_FULL_FULL n (q / 32)) (q % 32)

/-- RESULT of a buffer is recorded (R402, R404): PEND ends. -/
def Blk.mbResult (b : Blk) (n q r : Nat) : Blk :=
  let b1 := (b.put (mbFld n q 23 21) r).put (mbFld n q 25 25) 0
  if q < 64 then b1.setBit (F.CAN_MB_DONE_DONE n (q / 32)) (q % 32) else b1

/-- An overrun of a buffer (R405). -/
def Blk.mbOvr (b : Blk) (n q : Nat) : Blk :=
  ((((b.put (mbFld n q 26 26) 1).canCnt n 9).canEvt n 4).raise 145 n)

/-- `n` data bytes of a buffer's shadow. -/
def Blk.mbData (b : Blk) (n q len : Nat) : List Byte :=
  ((List.range ((len + 3) / 4)).flatMap (fun k =>
    leBytes 4 (b.reg (if q < 64 then R.MB_DATA n q k else R.XB_DATA n (q - 64) k)).toNat)).take len

/-- The frame that a buffer's shadow gives (R402, R407, R422). LEN of an XL buffer has 11 bits for 1 to 2,048:
0 stands for 2,048 (DEDUCED, assumption 98). -/
def Blk.mbFrame (b : Blk) (n q : Nat) : CanFrame :=
  let cs := (b.reg (mbCs n q)).toNat
  if 64 ≤ q then
    let k := q - 64
    let len := if cs % 2 ^ 11 = 0 then 2048 else cs % 2 ^ 11
    { fmt := 2, id := b.fld (F.XB_HDR_PRIO n k), dlc := len - 1, data := b.mbData n q len,
      sec := b.on (F.XB_HDR_SEC n k), sdt := b.fld (F.XB_HDR_SDT n k), vcid := b.fld (F.XB_HDR_VCID n k),
      af := (b.reg (R.XB_AF n k)).toNat }
  else
    let ide := b.on (F.MB_ID_IDE n q)
    let id := if ide then b.fld (F.MB_ID_ID n q) else b.fld (F.MB_ID_ID n q) % 2 ^ 11
    let len := min 64 (cs % 2 ^ 7)
    if cs.testBit 15 then
      let l := fdLen len
      { fmt := 1, ide := ide, brs := cs.testBit 16, esi := cs.testBit 17, id := id, dlc := l.2,
        data := b.mbData n q len ++ List.replicate (l.1 - len) 0 }
    else
      { fmt := 0, ide := ide, rtr := cs.testBit 14, id := id, dlc := min 8 len,
        data := if cs.testBit 14 then [] else b.mbData n q (min 8 len) }

/-- A pending frame that is not on the bus is removed, or the attempt in progress becomes its last
(R402). -/
def Blk.mbAbort (b : Blk) (n q : Nat) : Blk :=
  if b.mbPend n q = false then b
  else if (b.canOf n).sending = some q then
    b.setMb n q { b.mbOf n q with
      abort := true
      again := false }
  else (b.setMb n q {}).mbResult n q 4

/-- The shadow becomes the active copy, which is pending (R402). -/
def Blk.mbTake (b : Blk) (n q : Nat) : Blk :=
  (b.setMb n q { act := some (b.mbFrame n q) }).put (mbFld n q 25 25) 1

/-- TX_REQ (R402): the shadow is copied at once, or at the end of the attempt in progress. -/
def Blk.mbRequest (b : Blk) (n q : Nat) : Blk :=
  if (b.canOf n).sending = some q then
    b.setMb n q { b.mbOf n q with
      again := true
      abort := false }
  else b.mbTake n q

/-- LEN as MB_CS shows it of a received frame. -/
def frmLen (f : CanFrame) : Nat := if f.rtr then min 8 f.dlc else f.data.length

/-- The words of a frame's data, `n` of them, bytes beyond it 0. -/
def dataWords (l : List Byte) (n : Nat) : List W32 :=
  (List.range n).map (fun k => BitVec.ofNat 32 (leNat ((l.drop (4 * k)).take 4)))

/-- Registers from `a` on take the words. -/
def Blk.setWords (b : Blk) (a : Nat) : List W32 → Blk
  | [] => b
  | w :: l => (b.setReg a w).setWords (a + 4) l

/-- The format and length bits of MB_CS for a frame. -/
def frmCs (f : CanFrame) : Nat :=
  f.esi.toNat * 2 ^ 17 + f.brs.toNat * 2 ^ 16 + (f.fmt == 1).toNat * 2 ^ 15 + f.rtr.toNat * 2 ^ 14 + (frmLen f)

/-- The waiting or arriving frame of a buffer is copied to its shadow (R405). -/
def Blk.mbShow (b : Blk) (n q : Nat) (f : CanFrame) (ts : Nat) : Blk :=
  let ovr := b.on (mbFld n q 27 27)
  let b1 := if 64 ≤ q then
      let k := q - 64
      let b2 := (((((b.put (mbFld n q 10 0) f.data.length).put (F.XB_HDR_PRIO n k) f.id).put (F.XB_HDR_SDT n k)
        f.sdt).put (F.XB_HDR_VCID n k) f.vcid).putB (F.XB_HDR_SEC n k) f.sec).setReg (R.XB_AF n k)
        (BitVec.ofNat 32 f.af)
      (b2.setReg (R.XB_TS n k) (BitVec.ofNat 32 ts)).setWords (R.XB_DATA n k 0) (dataWords f.data 512)
    else
      let b2 := (b.put (mbFld n q 17 14) ((frmCs f) / 2 ^ 14)).put (mbFld n q 6 0) (frmLen f)
      let b3 := (b2.put (F.MB_ID_ID n q) f.id).putB (F.MB_ID_IDE n q) f.ide
      (b3.setReg (R.MB_TS n q) (BitVec.ofNat 32 ts)).setWords (R.MB_DATA n q 0) (dataWords f.data 16)
  let b4 := ((b1.put (mbFld n q 24 24) (ts / 2 ^ 32)).mbFull n q true).canEvt n 0
  if ovr then b4.mbOvr n q else b4

/-- A received frame goes to a buffer (R405). -/
def Blk.mbReceive (b : Blk) (n q : Nat) (f : CanFrame) : Blk :=
  let x := b.mbOf n q
  let b1 := b.setMb n q { x with
    act := some f
    ts := b.ts33
    wait := b.on (mbFld n q 28 28) }
  if b.on (mbFld n q 28 28) then (if x.wait then b1.mbOvr n q else b1)
  else b1.mbShow n q f b.ts33

/-- A write of MB_CS or XB_CS (R402, R405). -/
def Blk.mbWrite (b : Blk) (n q : Nat) (v : W32) : Blk :=
  let code := v.toNat / 2 ^ 30
  let change := code != b.mbCode n q
  let b1 := if change then
      let x := b.mbAbort n q
      if (x.canOf n).sending = some q then x else x.setMb n q {}
    else b
  let b2 := b1.writeReg (mbCs n q) v
  let b3 := if change ∨ v.getLsbD 27 then b2.mbFull n q false else b2
  let b4 := if change then b3.put (mbFld n q 26 26) 0 else b3
  let x := b4.mbOf n q
  let b5 := if x.wait && !v.getLsbD 28 then
      (b4.setMb n q { x with
        wait := false }).mbShow n q (x.act.getD { fmt := 0, id := 0, dlc := 0, data := [] }) x.ts
    else b4
  match v.toNat / 2 ^ 18 % 8 with
  | 1 => if code = 2 then b5.mbRequest n q else b5
  | 2 => b5.mbAbort n q
  | _ => b5

/-! ## Transmission -/

/-- The bits of a frame up to the end of its arbitration field, dominant 0, as a number of 32 bits. -/
def frmArb (f : CanFrame) : Nat :=
  if f.ide then f.id / 2 ^ 18 * 2 ^ 21 + 2 ^ 20 + 2 ^ 19 + f.id % 2 ^ 18 * 2 + f.rtr.toNat
  else f.id % 2 ^ 11 * 2 ^ 21 + f.rtr.toNat * 2 ^ 20

/-- May CANn send a frame of this format (R420)? -/
def Blk.canSends (b : Blk) (n : Nat) (f : CanFrame) : Bool :=
  f.fmt == 0 || (f.fmt == 1 && b.on (F.CAN_CTL_FD_EN n)) || (f.fmt == 2 && n < 4 && b.on (F.CAN_CTL_XL_EN n))

/-- The pending frames of CANn with their buffer numbers, the head of the gateway FIFO last as 72 (R403). -/
def Blk.canPending (b : Blk) (n : Nat) : List (Nat × CanFrame) :=
  let x := b.canOf n
  let l := x.buf.filterMap (fun e => if b.mbPend n e.1 then e.2.act.map (fun f => (e.1, f)) else none)
  (l ++ (x.gw.take 1).map (fun f => (72, f))).filter (fun e => b.canSends n e.2)

/-- The frame that would win arbitration (R403). -/
def arbWinner (l : List (Nat × CanFrame)) : Option (Nat × CanFrame) :=
  l.foldl (fun w e => match w with
    | none => some e
    | some v => if (frmArb e.2) < (frmArb v.2) then some e else some v) none

/-- CANn starts a frame (R403). In listen-only and restricted mode it sends none. -/
def Blk.canStart (b : Blk) (n : Nat) : Blk :=
  let x := b.canOf n
  let m := b.canMode n
  if b.canUp n && !x.leaving && x.sending.isNone && (m == 0 || m == 2 || m == 3) then
    match arbWinner (b.canPending n) with
    | none => b
    | some e => b.setCan n { x with
        sending := some e.1 }
  else b

/-- Is the frame on the bus one-shot (R404)? -/
def Blk.oneShot (b : Blk) (n q : Nat) : Bool := b.on (F.CAN_CTL_ONESHOT n) || b.on (mbFld n q 29 29)

/-- The attempt of CANn ends: a new request replaces the frame by what the shadow holds now; a controller that leaves
is OFF (R402, R410). -/
def Blk.canAttemptEnd (b : Blk) (n : Nat) : Blk :=
  let x := b.canOf n
  let q := x.sending.getD 72
  let b1 := (b.setCan n { x with
    sending := none }).canLeft n
  if 72 ≤ q then b1
  else if (b.mbOf n q).again then b1.mbTake n q
  else if b1.mbPend n q then b1 else b1.setMb n q {}

/-- An attempt of CANn fails: `r` 2 arbitration lost, 3 error (R402, R404). -/
def Blk.canFail (b : Blk) (n r : Nat) : Blk :=
  match (b.canOf n).sending with
  | none => b
  | some q =>
    let b1 :=
      if 72 ≤ q then b
      else if (b.mbOf n q).abort then b.mbResult n q 4
      else if b.oneShot n q then b.mbResult n q r
      else b
    b1.canAttemptEnd n

/-! ## Reception -/

/-- FIFO_CS, FIFO_ID, FIFO_TS, FIFO_DATA and COUNT show the receive FIFO (R406, R422). -/
def Blk.fifoSync (b : Blk) (n : Nat) : Blk :=
  let l := (b.canOf n).fifo
  let b1 := b.put (F.CAN_FIFO_STAT_COUNT n) l.length
  match l with
  | [] => ((b1.setReg (R.FIFO_CS n) 0).setReg (R.FIFO_ID n) 0).setReg (R.FIFO_TS n) 0 |>.setWords
      (R.FIFO_DATA n 0) (List.replicate 16 0)
  | (f, ts) :: _ =>
    (((b1.setReg (R.FIFO_CS n) (BitVec.ofNat 32 (2 ^ 31 + ts / 2 ^ 32 % 2 * 2 ^ 24 + (frmCs f)))).setReg (R.FIFO_ID n)
      (BitVec.ofNat 32 (f.ide.toNat * 2 ^ 30 + f.id))).setReg (R.FIFO_TS n) (BitVec.ofNat 32 ts)).setWords
      (R.FIFO_DATA n 0) (dataWords f.data 16)

/-- Does a receive filter match (R405)? -/
def idMatch (fide : Bool) (fid mask : Nat) (f : CanFrame) : Bool :=
  f.ide == fide && ((f.id ^^^ fid) &&& mask) == 0

/-- The buffer that takes a frame (R405, R407). -/
def Blk.mbFor (b : Blk) (n : Nat) (f : CanFrame) : Option Nat :=
  if f.fmt = 2 then
    ((List.range 8).find? (fun k => b.mbCode n (64 + k) == 1 &&
      ((f.id ^^^ b.fld (F.XB_FILT_PRIO n k)) &&& b.fld (F.XB_MASK_PRIO n k)) == 0)).map (64 + ·)
  else
    (List.range 64).find? (fun q => b.mbCode n q == 1 &&
      idMatch (b.on (F.MB_FILT_IDE n q)) (b.fld (F.MB_FILT_ID n q)) (b.fld (F.MB_MASK_MASK n q)) f)

/-- A frame that no buffer takes (R406, R407). -/
def Blk.fifoReceive (b : Blk) (n : Nat) (f : CanFrame) : Blk :=
  if f.fmt = 2 then b.canCnt n 12
  else if b.on (F.CAN_FIFO_STAT_ALL n) || (List.range 8).any (fun k => b.on (F.CAN_FF_ID_EN n k) &&
      idMatch (b.on (F.CAN_FF_ID_IDE n k)) (b.fld (F.CAN_FF_ID_ID n k)) (b.fld (F.CAN_FF_MASK_MASK n k)) f) then
    let x := b.canOf n
    if 64 ≤ x.fifo.length then ((b.canCnt n 8).canEvt n 3).raise 145 n
    else ((b.setCan n { x with
      fifo := x.fifo ++ [(f, b.ts33)] }).fifoSync n).canEvt n 2
  else b

/-- The record of a frame in the receive log (R553). -/
def Blk.logRecord (b : Blk) (n q : Nat) (f : CanFrame) (ts : Nat) : List Byte :=
  leBytes 4 (((b.reg (mbCs n q)).toNat / 2 ^ 18 * 2 ^ 18) + (frmCs f)) ++
    leBytes 4 (f.ide.toNat * 2 ^ 30 + f.id) ++ leBytes 4 ts ++ leBytes 4 (q + ts / 2 ^ 32 % 2 * 2 ^ 8) ++
    (f.data ++ List.replicate 64 0).take 64

/-- 2^SIZE of a receive log (R569). -/
def Blk.logLen (b : Blk) (n g : Nat) : Nat :=
  let s := b.fld (F.MBG_LOG_CTL_SIZE n g)
  2 ^ (if 4 ≤ s ∧ s ≤ 12 then s else 4)

/-- A frame that a buffer has received is logged (R553). -/
def Blk.canLog (b : Blk) (m : List Host.Cell) (n q : Nat) (f : CanFrame) : Blk × List Host.Cell :=
  let g := q / 8
  if 64 ≤ q ∨ b.on (F.MBG_LOG_CTL_EN n g) = false ∨ b.on (F.MBG_LOG_CTL_ERR n g) then (b, m)
  else
    let h := b.fld (F.MBG_LOG_HEAD_HEAD n g)
    let l := b.logLen n g
    if (h + 1) % l = b.fld (F.MBG_LOG_TAIL_TAIL n g) % l then (b.incWrap (F.MBG_LOG_DROP_DROP n g), m)
    else
      let a := b.fld (F.MBG_LOG_BASE_HI_BASE n g) * 2 ^ 32 + b.fld (F.MBG_LOG_BASE_LO_BASE n g) * 64 + 80 * h
      match b.wr m 2 (8 * n + g) a (b.logRecord n q f b.ts33) with
      | (.ok _, b1, m1) =>
        ((b1.put (F.MBG_LOG_HEAD_HEAD n g) ((h + 1) % l)).deliver (b1.devCtx 2 (8 * n + g))
          (b1.fld (F.MBG_LOG_CTL_LOG_IRQ n g)), m1)
      | (.refused, b1, m1) => (b1.put (F.MBG_LOG_CTL_ERR n g) 1, m1)
      | (.held, b1, m1) => (b1, m1)

/-- CONFIRM frames without error lock the candidate, once it has seen 11 recessive bits (R400). -/
def Blk.rateFrame (b : Blk) (n : Nat) : Blk :=
  let x := b.canOf n
  if b.on (F.CAN_STAT_RATE_OK n) || x.integ then b
  else if max 1 (b.fld (F.CAN_RATE_CFG_CONFIRM n)) ≤ x.good + 1 then
    let b1 := (b.setReg (R.CAN_NBT n) (b.reg (R.CAN_RATE_N n x.cand))).setReg (R.CAN_DBT n)
      (b.reg (R.CAN_RATE_D n x.cand))
    (((b1.put (F.CAN_STAT_RATE_OK n) 1).put (F.CAN_STAT_RATE_IDX n) x.cand).canEvt n 8).setCanState n 2
  else b.setCan n { x with
    good := x.good + 1 }

/-- The next candidate after an error in rate detection (R400). -/
def Blk.rateNext (b : Blk) (n : Nat) : Blk :=
  let x := b.canOf n
  let l := b.candidates n
  let c := ((l.filter (fun k => x.cand < k)).head?).getD (l.headD 0)
  let lim := b.fld (F.CAN_RATE_CFG_CYCLES n) * l.length
  if lim ≠ 0 ∧ lim ≤ x.passed + 1 then
    ((b.setCan n { x with
      cand := c
      integ := true
      good := 0
      passed := 0 }).canEvt n 9).raise 146 n
  else b.setCan n { x with
    cand := c
    integ := true
    good := 0
    passed := x.passed + 1 }

/-- A frame received without error is stored and logged (R405 to R407, R553). -/
def Blk.canStore (b : Blk) (m : List Host.Cell) (n : Nat) (f : CanFrame) : Blk × List Host.Cell :=
  match b.mbFor n f with
  | some q =>
    let r := (b.mbReceive n q f).canLog m n q f
    r
  | none => (b.fifoReceive n f, m)

/-- A frame is received without error (R400, R405 to R407, R352, R553). -/
def Blk.canReceive (b : Blk) (m : List Host.Cell) (n : Nat) (f : CanFrame) : Blk × List Host.Cell :=
  if b.canHears n = false ∨ b.canSends n f = false then (b, m)
  else if b.canState n = 6 ∧ b.on (F.CAN_CTL_EN n) then (b.rateFrame n, m)
  else if b.canUp n then
    let rec' := b.fld (F.CAN_STAT_REC n)
    let b1 := if b.canMode n = 4 then b
      else b.put (F.CAN_STAT_REC n) (if 127 < rec' then 127 else rec' - 1)
    let b2 := if b1.canState n = 3 ∧ b1.fld (F.CAN_STAT_REC n) < 128 ∧ b1.fld (F.CAN_STAT_TEC n) < 128 then
        b1.setCanState n 2 else b1
    let r := (b2.canCnt n 0).canStore m n f
    ((r.1.gateway ⟨n, 0, false, f, b.gptp⟩).canLeft n, r.2)
  else (b, m)

/-- The frame on the bus from CANn ends successfully (R398, R402); `ns` is the transceiver loop delay. No frame
does whose TXD UH ignores (R459), or whose transceiver is not in NORMAL (R412). -/
def Blk.canSent (b : Blk) (m : List Host.Cell) (n ns : Nat) : Blk × List Host.Cell :=
  let x := b.canOf n
  if b.txdCut n || !b.canTalks n then (b, m) else
  match x.sending with
  | none => (b, m)
  | some q =>
    let f := if q < 72 then (b.mbOf n q).act else x.gw.head?
    let b0 := if b.on (F.CAN_TDC_TDC_EN n) && f.any (fun f => f.fmt != 0) then
        b.put (F.CAN_TDC_TDCV n) (min 127 (ns * 2 / 25)) else b
    let b1 := b0.put (F.CAN_STAT_TEC n) (b0.fld (F.CAN_STAT_TEC n) - 1)
    let b2 := if b1.canState n = 3 ∧ b1.fld (F.CAN_STAT_REC n) < 128 ∧ b1.fld (F.CAN_STAT_TEC n) < 128 then
        b1.setCanState n 2 else b1
    let b3 := (b2.canCnt n 1)
    let b4 := if q < 72 then
        let ts := b.ts33
        let a := if q < 64 then R.MB_TS n q else R.XB_TS n (q - 64)
        (((b3.setReg a (BitVec.ofNat 32 ts)).put (mbFld n q 24 24) (ts / 2 ^ 32)).mbResult n q 1).canEvt n 1
      else b3.setCan n { x with
        gw := x.gw.tail }
    let loop := b.canMode n == 2 || b.canMode n == 3
    let r := match f with
      | some f => if loop then b4.canStore m n f else (b4, m)
      | none => (b4, m)
    (r.1.canAttemptEnd n, r.2)

/-! ## Errors -/

/-- CANn enters bus-off (R408). -/
def Blk.canBusOff (b : Blk) (n : Nat) : Blk :=
  let b0 := match (b.canOf n).sending with
    | some q =>
      if 72 ≤ q then b
      else if b.oneShot n q then b.mbResult n q 3
      else if (b.mbOf n q).abort then b.mbResult n q 4
      else b
    | none => b
  let b1 := b0.canAttemptEnd n
  let x := b1.canOf n
  let g := x.gw.length
  let b2 := (b1.setCan n { x with
    gw := [] }).incWrap (F.CAN_CNT_CNT n 11) g
  let b3 := if g = 0 then b2 else b2.canEvt n 10
  ((((b3.canCnt n 10).canEvt n 6).setCanState n 4).raise (128 + n) n)

/-- The loop delay that CANn may have measured in an FD or XL frame of its own before the error that ends it is a free
value (R398, log 104). -/
def Blk.tdcFree (b : Blk) (n : Nat) : Blk :=
  let f := match (b.canOf n).sending with
    | some q => if q < 72 then (b.mbOf n q).act else (b.canOf n).gw.head?
    | none => none
  if b.on (F.CAN_TDC_TDC_EN n) && f.any (fun f => f.fmt != 0) then b.draw.2.put (F.CAN_TDC_TDCV n) (b.draw.1 % 128)
  else b

/-- What an error on the bus of CANn does to the controller (R400, R408): `kind` 2 bit, 3 stuff, 4 form, 5 acknowledge, 6 CRC; `add` is
what ISO 11898-1 adds to the counter of its role: 0, 1 or 8. A controller that sees a recessive bus meets none but in a
frame of its own (R412). -/
def Blk.canErr (b0 : Blk) (n kind add : Nat) : Blk :=
  let b := b0.tdcFree n
  if !b.canHears n && (b.canOf n).sending.isNone then b
  else if b.on (F.CAN_CTL_EN n) && b.canState n == 6 then
    if (b.canOf n).integ && !b.on (F.CAN_STAT_RATE_OK n) then b else
    let b1 := b.canCnt n kind
    if (kind = 3 ∨ kind = 4 ∨ kind = 6) ∧ b.on (F.CAN_STAT_RATE_OK n) = false then b1.rateNext n else b1
  else if b.canUp n then
    let tx := (b.canOf n).sending.isSome
    let f := if tx then F.CAN_STAT_TEC n else F.CAN_STAT_REC n
    let c := if b.canMode n = 4 then b.fld f else b.fld f + add
    let b1 := (b.canCnt n kind).put f (min 255 c)
    if tx ∧ 256 ≤ c then b1.canBusOff n
    else
      let b2 := if b1.canState n = 2 ∧ 128 ≤ c then ((b1.setCanState n 3).canEvt n 5).raise 144 n else b1
      (b2.canFail n 3).canLeft n
  else b

/-- An error on the bus of CANn reaches its controller and its ring engine (R400, R408, R449). -/
def Blk.canError (b : Blk) (n kind add : Nat) : Blk := (b.ringError n).canErr n kind add

/-! ## Transceivers -/

/-- TXD dominant timeout of a transceiver (R412). -/
def Blk.txdTmo (b : Blk) (lin : Bool) (n : Nat) : Blk :=
  if lin then (b.put (F.XL_STAT_TXD_TMO n) 1).raise 149 n
  else (b.put (F.XC_STAT_TXD_TMO n) 1).raise 147 n

/-- The data bits of a frame as a number, byte 0 lowest. -/
def frmBits (f : CanFrame) : Nat := leNat (f.data.take 8)

/-- Does wake filter `k` of transceiver `n` match a wake-up frame (R412)? -/
def Blk.wakeFilter (b : Blk) (n k : Nat) (f : CanFrame) : Bool :=
  let dm := (b.reg (R.XF_DM_HI n k)).toNat * 2 ^ 32 + (b.reg (R.XF_DM_LO n k)).toNat
  b.on (F.XF_ID_EN n k) && idMatch (b.on (F.XF_ID_IDE n k)) (b.fld (F.XF_ID_ID n k)) (b.fld (F.XF_MASK_MASK n k)) f &&
    (!b.on (F.XF_DLC_DATA_EN n k) || (f.dlc == b.fld (F.XF_DLC_DLC n k) && ((frmBits f) &&& dm) != 0))

/-- Transceiver `n` wakes; WSRC tells why (R412). The bit sends message 0x110 + n as it becomes set (R583, R585). -/
def Blk.xcWoken (b : Blk) (n src : Nat) : Blk :=
  let b1 := ((b.put (F.XC_STAT_WAKE n) 1).put (F.XC_STAT_WSRC n) src).wakeFrom (0x10 + n)
  if b.on (F.XC_STAT_WAKE n) then b1 else b1.msg (0x110 + n)

/-- Transceiver `n` in STANDBY hears something (R412). The frame error counter goes up by 1 for an error and
down by 1 for a good frame; at 32 it overflows. -/
def Blk.xcHear (b : Blk) (n : Nat) (h : XcHeard) : Blk :=
  if b.fld (F.XC_CTL_MODE n) ≠ 1 ∨ (n = 15 ∧ b.respActive) then b
  else if b.on (F.XC_CTL_SW_EN n) && b.anyFilter n then
    let b := b.put (F.XC_STAT_SW_ERR n) 0
    match h with
    | .pattern => b
    | .frame f =>
      if f.fmt ≠ 0 then
        if b.on (F.XC_CTL_FD_PASSIVE n) then b
        else
          let c := b.fld (F.XC_STAT_FEC n) + 1
          if c < 32 then b.put (F.XC_STAT_FEC n) c else (b.put (F.XC_STAT_FEC n) 0).xcWoken n 2
      else
        let b1 := b.put (F.XC_STAT_FEC n) (b.fld (F.XC_STAT_FEC n) - 1)
        if (List.range 8).any (fun k => b.wakeFilter n k f) then b1.xcWoken n 1 else b1
    | .frameError =>
      let c := b.fld (F.XC_STAT_FEC n) + 1
      if c < 32 then b.put (F.XC_STAT_FEC n) c else (b.put (F.XC_STAT_FEC n) 0).xcWoken n 2
  else
    let b1 := b.putB (F.XC_STAT_SW_ERR n) (b.on (F.XC_CTL_SW_EN n))
    match h with
    | .frameError => b1
    | _ => if b.on (F.XC_CTL_SW_EN n) || b.on (F.XC_CTL_WUP_EN n) then b1.xcWoken n 0 else b1

/-! ## Meanings -/

/-- A write of CAN_CTL with EN 1 (R397). -/
def execCanEnable (i : Init) (n : Nat) (v : W32) (s : State) : Host.Outcome State Fault Refusal :=
  onBlk (n < 16) s (fun b => b.onWrite i (R.CAN_CTL n) (v ||| 0x80000000) (fun b => b.canCtl n (v ||| 0x80000000)))

/-- A write of CAN_CTL with EN 0 (R410). -/
def execCanDisable (i : Init) (n : Nat) (v : W32) (s : State) : Host.Outcome State Fault Refusal :=
  onBlk (n < 16) s (fun b => b.onWrite i (R.CAN_CTL n) (v &&& 0x7fffffff) (fun b => b.canCtl n (v &&& 0x7fffffff)))

/-- 11 recessive bits in INTEGRATING (R410). -/
def execCanIntegrationDone (n : Nat) (s : State) : Host.Outcome State Fault Refusal :=
  onClk (n < 16) (0x20 + n) s (fun b => b.canIntegrated n)

/-- A write of CAN_CTL with RECOVER 1 (R409). -/
def execCanRecover (i : Init) (n : Nat) (v : W32) (s : State) : Host.Outcome State Fault Refusal :=
  onBlk (n < 16) s (fun b => b.onWrite i (R.CAN_CTL n) (v ||| 0x00200000) (fun b => b.canCtl n (v ||| 0x00200000)))

/-- `k` occurrences of 11 recessive bits in RECOVERING (R409). -/
def execCanRecoveryDone (n k : Nat) (s : State) : Host.Outcome State Fault Refusal :=
  onClk (n < 16) (0x20 + n) s (fun b => b.canRecovered n k)

/-- A write of MB_CS with CMD TX_REQ (R402); `v` gives the other fields. -/
def execTxReq (i : Init) (n q : Nat) (v : W32) (s : State) : Host.Outcome State Fault Refusal :=
  onBlk (mbExists n q) s (fun b => b.onWrite i (mbCs n q) (v &&& ~~~ 0x001c0000 ||| 0x00040000) (fun b =>
    b.mbWrite n q (v &&& ~~~ 0x001c0000 ||| 0x00040000)))

/-- A write of MB_CS with CMD ABORT (R402). -/
def execAbort (i : Init) (n q : Nat) (v : W32) (s : State) : Host.Outcome State Fault Refusal :=
  onBlk (mbExists n q) s (fun b => b.onWrite i (mbCs n q) (v &&& ~~~ 0x001c0000 ||| 0x00080000) (fun b =>
    b.mbWrite n q (v &&& ~~~ 0x001c0000 ||| 0x00080000)))

/-- A write of MB_CS that may change CODE (R402). -/
def execMbCodeWrite (i : Init) (n q : Nat) (v : W32) (s : State) : Host.Outcome State Fault Refusal :=
  onBlk (mbExists n q) s (fun b => b.onWrite i (mbCs n q) v (fun b => b.mbWrite n q v))

/-- A write of MB_CS that may change LOCK (R405). -/
def execMbLockWrite (i : Init) (n q : Nat) (v : W32) (s : State) : Host.Outcome State Fault Refusal :=
  onBlk (mbExists n q) s (fun b => b.onWrite i (mbCs n q) v (fun b => b.mbWrite n q v))

/-- CANn may start a frame (R403). -/
def execCanFrameStart (n : Nat) (s : State) : Host.Outcome State Fault Refusal :=
  onClk (n < 16) (0x20 + n) s (fun b => b.canStart n)

/-- The frame of CANn ends successfully (R402); `ns` is the loop delay (R398). -/
def execCanTxComplete (n ns : Nat) (s : State) : Host.Outcome State Fault Refusal :=
  onMem (n < 16) s (fun b m => if b.gateOff (0x20 + n) then (b, m) else b.canSent m n ns)

/-- CANn loses arbitration (R404). -/
def execCanArbitrationLost (n : Nat) (s : State) : Host.Outcome State Fault Refusal :=
  onClk (n < 16) (0x20 + n) s (fun b =>
    if (b.canOf n).sending.isSome && b.canHears n then (b.canCnt n 7).canFail n 2 else b)

/-- A frame of another node ends without error (R405). -/
def execCanFrameReceive (n : Nat) (f : CanFrame) (s : State) : Host.Outcome State Fault Refusal :=
  onMem (n < 16) s (fun b m => if b.gateOff (0x20 + n) then (b, m) else b.canReceive m n f)

/-- An error on the bus of CANn (R408). -/
def execCanBusError (n kind add : Nat) (s : State) : Host.Outcome State Fault Refusal :=
  onClk (n < 16) (0x20 + n) s (fun b =>
    if 2 ≤ kind ∧ kind ≤ 6 ∧ (add = 0 ∨ add = 1 ∨ add = 8) then b.canError n kind add else b)

/-- The head of the receive FIFO leaves it (R406). -/
def Blk.fifoPop (b : Blk) (n : Nat) : Blk :=
  (b.setCan n { b.canOf n with
    fifo := (b.canOf n).fifo.tail }).fifoSync n

/-- A write of 1 to CAN_FIFO_POP (R406). -/
def execCanFifoPop (i : Init) (n : Nat) (s : State) : Host.Outcome State Fault Refusal :=
  onBlk (n < 16) s (fun b => b.onWrite i (R.CAN_FIFO_POP n) 1 (fun b => b.fifoPop n))

/-- A transceiver's TXD dominant timeout expires (R412). -/
def execTxdDominantTimeout (lin : Bool) (n : Nat) (s : State) : Host.Outcome State Fault Refusal :=
  onBlk (if lin then n < 12 else n < 16) s (fun b => b.txdTmo lin n)

/-- A CAN transceiver in STANDBY hears its bus (R412). -/
def execTransceiverWake (n : Nat) (h : XcHeard) (s : State) : Host.Outcome State Fault Refusal :=
  onBlk (n < 16) s (fun b => b.xcHear n h)

/-- A CAN transceiver overheats, or has cooled (`hot` false) (R419); the condition raises as it begins (R636). -/
def execTransceiverOverTemperature (n : Nat) (hot : Bool) (s : State) : Host.Outcome State Fault Refusal :=
  onBlk (n < 16) s (fun b =>
    if !hot then b.put (F.XC_STAT_OT n) 0
    else if b.on (F.XC_STAT_OT n) then b
    else (b.put (F.XC_STAT_OT n) 1).raise 147 n)

end Sys2Proof.Machine
end

