-- ==== Sys2Proof/Machine/Lin.lean ====
section
/-!
DEFINITION. Machine/Lin.lean: the LIN controllers and transceivers (R411, R412, R414 to R418, R423, R424).
-/

namespace Sys2Proof.Machine

/-- The state of LINn (R424): 0 OFF, 1 IDLE, 2 ACTIVE, 3 SLEEP. -/
def Blk.linState (b : Blk) (n : Nat) : Nat := b.fld (F.LIN_STAT_STATE n)
def Blk.setLinState (b : Blk) (n st : Nat) : Blk := b.put (F.LIN_STAT_STATE n) st

/-- Counter `k` of R424: 0 HDR, 1 RESP_OK, 2 ERR_BIT, 3 ERR_CSUM, 4 ERR_NORESP, 5 ERR_FRAME, 6 ERR_SYNC. -/
def Blk.linCnt (b : Blk) (n k : Nat) : Blk := b.incWrap (F.LIN_CNT_CNT n k)
def Blk.linEvt (b : Blk) (n k : Nat) : Blk := b.setBit (F.LIN_EVT_EVT n) k

def Blk.linMaster (b : Blk) (n : Nat) : Bool := b.on (F.LIN_CTL_ROLE n)

/-- SLEN (R424). -/
def Blk.linSlen (b : Blk) (n : Nat) : Nat :=
  let s := b.fld (F.LIN_CTL_SLEN n)
  if s = 0 ∨ 64 < s then 64 else s

/-- DIV as it acts (R414). -/
def Blk.linDiv (b : Blk) (n : Nat) : Nat := max 625 (b.fld (F.LIN_CTL_DIV n))

/-- Does the transceiver pass the bus to LINn? Outside NORMAL the controller sees a recessive bus (R412). -/
def Blk.linHears (b : Blk) (n : Nat) : Bool := b.fld (F.XL_CTL_MODE n) == 2

/-- The next VALID schedule entry at or after `k`, cyclically (R415). -/
def Blk.linEntry (b : Blk) (n k : Nat) : Option Nat :=
  let l := b.linSlen n
  ((List.range l).map (fun j => (k + j) % l)).find? (fun e => b.on (F.LIN_SCHED_VALID n e))

/-- A slot begins: a break and a header are sent (R415), or the header of the go-to-sleep frame (R418). -/
def Blk.linSlot (b : Blk) (n : Nat) : Blk :=
  let x := b.linOf n
  if !(b.on (F.LIN_CTL_EN n) && b.linMaster n && b.linState n == 1 && x.head.isNone && x.cur.isNone &&
      decide (x.slotEnd ≤ b.clk)) then b
  else if x.sleepCmd then
    ((b.setLinState n 2).linCnt n 0).setLin n { x with
      head := some 0x3c
      sleepHdr := true
      busAt := b.clk }
  else if b.on (F.LIN_CTL_RUN n) = false then b
  else
    match b.linEntry n x.next with
    | none => b
    | some e =>
      (((b.setLinState n 2).linCnt n 0).put (F.LIN_STAT_CUR n) e).setLin n { x with
        head := some (b.fld (F.LIN_SCHED_ID n e))
        sleepHdr := false
        next := (e + 1) % b.linSlen n
        slotEnd := b.clk + max 1 (b.fld (F.LIN_SCHED_SLOT n e)) * 100 * tickUs
        busAt := b.clk }

/-- The data of the go-to-sleep frame (R418). -/
def goSleepData : List Byte := 0 :: List.replicate 7 0xff

/-- A slave has received the go-to-sleep frame, or has seen no activity (R418). -/
def Blk.linSleep (b : Blk) (n : Nat) : Blk := (b.setLinState n 3).linEvt n 3

/-- An identifier has ended: the response begins as its entry says (R416). -/
def Blk.linRespond (b : Blk) (n id : Nat) (sleep : Bool) : Blk :=
  let x := b.linOf n
  let d := if sleep then 1 else b.lrDir n id
  let data := if sleep then goSleepData else (b.lrData n id).take (b.lrLen n id)
  (b.setLinState n (if d = 0 then 1 else 2)).setLin n { x with
    head := none
    cur := if d = 0 then none else some ⟨id, d, data, sleep⟩
    busAt := b.clk }

/-- A header ends (R414, R416). A master's own header is the one it has sent; a slave hears identifier `id`
with a sync field that measures `meas`, which MEAS shows whether it is accepted or not. `heard` is a good response that follows and that LINn does not take
part in (R418). -/
def Blk.linHeader (b : Blk) (n id meas : Nat) (heard : List Byte) : Blk :=
  let x := b.linOf n
  let id := id % 64
  if b.on (F.LIN_CTL_EN n) = false ∨ b.linState n = 0 ∨ b.linState n = 3 then b
  else if b.linMaster n then
    match x.head with
    | none => b
    | some h => b.linRespond n h x.sleepHdr
  else
    if b.linHears n = false then b else
    let div := b.linDiv n
    let sync := b.on (F.LIN_CTL_AUTOSYNC n)
    let b0 := b.setLin n { x with
      busAt := b.clk }
    let b0 := if sync then b0.put (F.LIN_STAT_MEAS n) meas else b0
    if sync ∧ (div * 115 < meas * 100 ∨ meas * 100 < div * 85) then
      (((b0.linCnt n 6).put (F.LIN_STAT_LAST_ERR n) 5).linEvt n 5)
    else
      let b2 := (b0.linCnt n 0).linRespond n id false
      if id = 0x3c ∧ heard = goSleepData ∧ (b2.linOf n).cur.isNone then b2.linSleep n else b2

/-- The protected identifier (ISO 17987). -/
def linPid (id : Nat) : Nat :=
  let t (k : Nat) := (id.testBit k).toNat
  let p0 := (t 0 + t 1 + t 2 + t 4) % 2
  let p1 := 1 - (t 1 + t 3 + t 4 + t 5) % 2
  id % 64 + p0 * 64 + p1 * 128

/-- The checksum (R416; ISO 17987): the inverted sum with the carries added in, over the data, and over the
protected identifier too if enhanced. -/
def linSum (enhanced : Bool) (id : Nat) (l : List Byte) : Nat :=
  let s := l.foldl (fun a x => (a + x.toNat) % 256 + (a + x.toNat) / 256) (if enhanced then linPid id else 0)
  255 - s % 256

/-- Is the checksum of an identifier the enhanced one (R416)? -/
def Blk.linEnhanced (b : Blk) (n id : Nat) : Bool := b.on (F.LR_CFG_CSUM n id) && id < 60

/-- The frame in progress of LINn ends. -/
def Blk.linIdle (b : Blk) (n : Nat) : Blk :=
  (b.setLinState n 1).setLin n { b.linOf n with
    cur := none
    head := none
    busAt := b.clk }

/-- A response error: `code` as in LAST_ERR, 1 to 4 (R417). -/
def Blk.linErr (b : Blk) (n id code : Nat) : Blk :=
  ((((b.linCnt n (code + 1)).put (F.LR_STAT_ERR n id) code).put (F.LIN_STAT_LAST_ERR n) code).linEvt n 2).raise
    148 n

/-- A response ends (R416, R417, R418, R352): the bytes on the bus, the checksum byte, whether a bit read
back wrongly (as it does while UH ignores TXD, R459, or the transceiver is not in NORMAL, R412), whether a stop bit was
dominant. -/
def Blk.linResponse (b : Blk) (n : Nat) (data : List Byte) (sum : Nat) (badBit badStop : Bool) : Blk :=
  match (b.linOf n).cur with
  | none => b
  | some c =>
    if c.dir ≠ 1 ∧ b.linHears n = false then b else
    let b0 := b.linIdle n
    let want := if c.dir = 1 then c.data.length else b.lrLen n c.id
    let b1 :=
      if badBit ∨ (c.dir = 1 ∧ (b.on F.NM_STAT_FORCED = true ∨ b.linHears n = false)) then b0.linErr n c.id 1
      else if badStop ∨ data.length ≠ want then b0.linErr n c.id 4
      else if sum ≠ linSum (b.linEnhanced n c.id && !c.sleep) c.id data then b0.linErr n c.id 2
      else if c.dir = 1 then (b0.linCnt n 1).linEvt n 1
      else
        let b2 := (((b0.linCnt n 1).setLrData n c.id (data ++ (b0.lrData n c.id).drop data.length)).put
          (F.LR_STAT_FRESH n c.id) 1).linEvt n 0
        let b3 := b2.gateway ⟨0x20 + n, 0, true, { fmt := 0, id := c.id, dlc := data.length, data := data }, b.gptp⟩
        if c.id = 0x3c ∧ data = goSleepData ∧ b.linMaster n = false then b3.linSleep n else b3
    if c.sleep then
      ((b1.put (F.LIN_CTL_RUN n) 0).setLinState n 3).setLin n { b1.linOf n with
        sleepCmd := false }
    else b1

/-- A frame is not complete within 1.4 times its nominal length (R417). -/
def Blk.linTimeout (b : Blk) (n : Nat) : Blk :=
  match (b.linOf n).cur with
  | none => b
  | some c => (b.linIdle n).linErr n c.id 3

/-- A write of LR_DATA_LO (`half` 0) or LR_DATA_HI (1) is staged (R416). -/
def Blk.lrStage (b : Blk) (n id half : Nat) (v : W32) : Blk :=
  b.setLin n { b.linOf n with
    stage := (b.linOf n).stage.set (fun _ => 0xffffffff) (2 * id + half) v }

/-- A write of LR_CFG; with UPD 1 the staged data become the data in force (R416). -/
def Blk.lrCfg (b : Blk) (n id : Nat) (v : W32) : Blk :=
  let b1 := b.writeReg (R.LR_CFG n id) v
  if v.getLsbD 31 then
    let st (h : Nat) := (b.linOf n).stage.get (fun _ => 0xffffffff) (2 * id + h)
    (b1.setReg (R.LR_DATA_LO n id) (st 0)).setReg (R.LR_DATA_HI n id) (st 1)
  else b1

/-- LINn sees a dominant pulse of at least 150 µs (R418). -/
def Blk.linWake (b : Blk) (n : Nat) : Blk :=
  if b.on (F.LIN_CTL_EN n) && b.linState n == 3 then
    ((b.setLinState n 1).linEvt n 4).setLin n { b.linOf n with
      busAt := b.clk }
  else b

/-- A write of LIN_CTL (R415, R418). -/
def Blk.linCtl (b : Blk) (n : Nat) (v : W32) : Blk :=
  let was := b.on (F.LIN_CTL_EN n)
  let run := b.on (F.LIN_CTL_RUN n)
  let b1 := b.writeReg (R.LIN_CTL n) v
  let en := b1.on (F.LIN_CTL_EN n)
  let b2 :=
    if !was && en then (b1.setLinState n 1).setLin n { b.linOf n with
      busAt := b.clk
      cur := none
      head := none }
    else if was && !en then (b1.setLinState n 0).setLin n { b.linOf n with
      cur := none
      head := none
      sleepCmd := false }
    else b1
  let b3 := if !run && b2.on (F.LIN_CTL_RUN n) then b2.setLin n { b2.linOf n with
      next := 0
      slotEnd := b.clk } else b2
  let b4 := if v.getLsbD 28 && en && b3.linMaster n && b3.linState n != 3 then b3.setLin n { b3.linOf n with
      sleepCmd := true } else b3
  if v.getLsbD 27 && en then b4.linWake n else b4

/-- A dominant pulse of at least 150 µs on LIN bus `n` (R411, R418): the transceiver in SLEEP wakes, the
controller behind one in NORMAL sees it. WAKE sends message 0x120 + n as it becomes set (R583, R585). -/
def Blk.linPulse (b : Blk) (n : Nat) : Blk :=
  let m := b.fld (F.XL_CTL_MODE n)
  if m = 2 then (if b.kcRun && !b.gateOff (0x30 + n) then b.linWake n else b)
  else if m = 0 ∨ b.on (F.XL_CTL_WAKE_EN n) = false then b
  else
    let b1 := (b.put (F.XL_STAT_WAKE n) 1).wakeFrom (0x20 + n)
    if b.on (F.XL_STAT_WAKE n) then b1 else b1.msg (0x120 + n)

/-! ## Meanings -/

/-- A schedule slot of LINn begins (R415). -/
def execLinSlotStart (n : Nat) (s : State) : Host.Outcome State Fault Refusal :=
  onClk (n < 12) (0x30 + n) s (fun b => b.linSlot n)

/-- A header ends on LINn (R414). -/
def execLinHeaderReceive (n id meas : Nat) (heard : List Byte) (s : State) :
    Host.Outcome State Fault Refusal :=
  onClk (n < 12) (0x30 + n) s (fun b => b.linHeader n id meas heard)

/-- A response ends on LINn (R416). -/
def execLinResponseComplete (n : Nat) (data : List Byte) (sum : Nat) (badBit badStop : Bool) (s : State) :
    Host.Outcome State Fault Refusal :=
  onClk (n < 12) (0x30 + n) s (fun b => b.linResponse n data sum badBit badStop)

/-- A frame on LINn is not complete in time (R417). -/
def execLinResponseTimeout (n : Nat) (s : State) : Host.Outcome State Fault Refusal :=
  onClk (n < 12) (0x30 + n) s (fun b => b.linTimeout n)

/-- A write of LR_CFG with UPD 1 (R416). -/
def execLinResponseUpdate (i : Init) (n id : Nat) (v : W32) (s : State) : Host.Outcome State Fault Refusal :=
  onBlk (n < 12 && id < 64) s (fun b => b.onWrite i (R.LR_CFG n id) (v ||| 0x80000000) (fun b => b.lrCfg n id (v ||| 0x80000000)))

/-- A write of LIN_CTL with SLEEP_CMD 1 (R418). -/
def execSleepCmd (i : Init) (n : Nat) (v : W32) (s : State) : Host.Outcome State Fault Refusal :=
  onBlk (n < 12) s (fun b => b.onWrite i (R.LIN_CTL n) (v ||| 0x10000000) (fun b => b.linCtl n (v ||| 0x10000000)))

/-- A slave sees 4 s without bus activity (R418). -/
def execLinIdleTimeout (n : Nat) (s : State) : Host.Outcome State Fault Refusal :=
  onClk (n < 12) (0x30 + n) s (fun b =>
    if b.on (F.LIN_CTL_EN n) && !b.linMaster n && (b.linState n == 1 || b.linState n == 2) &&
        decide ((b.linOf n).busAt + 4 * tickSec ≤ b.clk) then
      (b.setLin n { b.linOf n with
        cur := none }).linSleep n
    else b)

/-- A dominant pulse of at least 150 µs on a LIN bus (R418). -/
def execLinWakePulse (n : Nat) (s : State) : Host.Outcome State Fault Refusal :=
  onBlk (n < 12) s (fun b => b.linPulse n)

/-- A write of LIN_CTL with WAKE_REQ 1 (R418). -/
def execWakeReq (i : Init) (n : Nat) (v : W32) (s : State) : Host.Outcome State Fault Refusal :=
  onBlk (n < 12) s (fun b => b.onWrite i (R.LIN_CTL n) (v ||| 0x08000000) (fun b => b.linCtl n (v ||| 0x08000000)))

/-- A LIN bus has been dominant for 50 ms, or is recessive again (`on` false) (R419, R423); the
condition raises as it begins (R636). -/
def execLinBusDominant (n : Nat) (on : Bool) (s : State) : Host.Outcome State Fault Refusal :=
  onBlk (n < 12) s (fun b =>
    if !on then b.put (F.XL_STAT_BUS_SHORT n) 0
    else if b.on (F.XL_STAT_BUS_SHORT n) then b
    else (b.put (F.XL_STAT_BUS_SHORT n) 1).raise 149 n)

end Sys2Proof.Machine
end

