-- ==== Sys2Proof/Machine/Shaper.lean ====
section
/-!
DEFINITION. Machine/Shaper.lean: access to the hidden state of the switch fabric; gate lists and shapers of the
egress queues (R344 to R348).
-/

namespace Sys2Proof.Machine

/-! ## The fabric's state -/

def Blk.setFab (b : Blk) (f : Fab) : Blk := { b with k := { b.k with fab := f } }
def Blk.frm (b : Blk) (id : Nat) : Option Frm := b.k.fab.frms.find? (fun f => f.id == id)
def Blk.updFrm (b : Blk) (id : Nat) (g : Frm → Frm) : Blk :=
  b.setFab { b.k.fab with frms := b.k.fab.frms.map (fun f => if f.id == id then g f else f) }
def Blk.queue (b : Blk) (o tc : Nat) : List QEnt := b.k.fab.oq.get (fun _ => []) (8 * o + tc)
def Blk.setQueue (b : Blk) (o tc : Nat) (l : List QEnt) : Blk :=
  b.setFab { b.k.fab with oq := b.k.fab.oq.set (fun _ => []) (8 * o + tc) l }
def Blk.txOf (b : Blk) (p : Nat) : List Sending := b.k.fab.tx.get (fun _ => []) p
def Blk.setTx (b : Blk) (p : Nat) (l : List Sending) : Blk :=
  b.setFab { b.k.fab with tx := b.k.fab.tx.set (fun _ => []) p l }

/-! ## Gate lists -/

/-- The entry in force at `pos` within a cycle: its index and value; the last holds to the cycle's end
(R346). -/
def listAt : List (Nat × Nat) → Nat → Nat → Nat × Nat
  | [], _, k => (k, 0)
  | [(_, v)], _, k => (k, v)
  | (d, v) :: l, pos, k => if pos < d then (k, v) else listAt l (pos - d) (k + 1)

/-- The start of a list with a 33-bit base and a cycle, from the present time (R346). -/
def listStart (base cycle now : Nat) : Nat :=
  let d := (base + 2 ^ 33 - now % 2 ^ 33) % 2 ^ 33
  if d < 2 ^ 32 then now + d
  else
    let past := 2 ^ 33 - d
    now + (cycle - past % cycle) % cycle

def Blk.qbvOf (b : Blk) (p : Nat) : Qbv := b.k.qbv.get (fun _ => {}) p
def Blk.setQbv (b : Blk) (p : Nat) (x : Qbv) : Blk :=
  { b with k := { b.k with qbv := b.k.qbv.set (fun _ => {}) p x } }

/-- Word `w` of the operating (`adm` false) or administrative header, and of entry words (R345, R364). -/
def Blk.qbvHead (b : Blk) (adm : Bool) (p w : Nat) : Nat :=
  (b.reg (if adm then R.QBV_ADM p w else R.QBV_OPR p w)).toNat
def Blk.qbvWord (b : Blk) (adm : Bool) (p w : Nat) : Nat :=
  (b.reg (if adm then R.QBV_ADM_E p w else R.QBV_OPR_E p w)).toNat

/-- The entries of a list: INTERVAL, and GATES with OP above it. A list ends before the first entry whose
INTERVAL is 0. -/
def Blk.qbvList (b : Blk) (adm : Bool) (p : Nat) : List (Nat × Nat) :=
  ((List.range 256).map (fun k => (b.qbvWord adm p (2 * k), b.qbvWord adm p (2 * k + 1) % 65536))).takeWhile
    (fun e => e.1 != 0)

def Blk.qbvCycle (b : Blk) (adm : Bool) (p : Nat) : Nat := b.qbvHead adm p 2
def Blk.qbvEnabled (b : Blk) (adm : Bool) (p : Nat) : Bool := (b.qbvHead adm p 1).testBit 24
def Blk.initGates (b : Blk) (p : Nat) : Nat := b.qbvHead false p 1 / 2 ^ 8 % 256
def Blk.preemptable (b : Blk) (p : Nat) : Nat := b.qbvHead false p 1 / 2 ^ 16 % 256

/-- Is the port MG or GB? -/
def isMgGb (p : Nat) : Bool := p < 12

/-- Does a list keep the limits of R345? One that is not enabled may be empty. -/
def Blk.qbvValid (b : Blk) (adm : Bool) (p : Nat) : Bool :=
  let c := b.qbvCycle adm p
  let l := b.qbvList adm p
  16 ≤ c && c ≤ 1000000000 && c % 2 == 0 && (l != [] || !b.qbvEnabled adm p) && (isMgGb p || b.qbvHead adm p 1 / 2 ^ 16 % 256 == 0) &&
    l.all (fun e => 16 ≤ e.1 && e.1 ≤ 1000000000 && e.1 % 2 == 0 &&
      (e.2 / 256 == 0 || (e.2 / 256 ≤ 2 && isMgGb p)))

/-- The start of a list from the present time (R346). -/
def Blk.qbvStart (b : Blk) (adm : Bool) (p : Nat) : Nat :=
  listStart (b.qbvHead adm p 0 + b.qbvHead adm p 1 % 2 * 2 ^ 32) (max 1 (b.qbvCycle adm p)) b.now

/-- The operating list of port `p` is started (R346). -/
def Blk.qbvRun (b : Blk) (p : Nat) : Blk :=
  b.setQbv p { b.qbvOf p with
    start := if b.qbvEnabled false p then some (b.qbvStart false p) else none
    hold := false }

/-- How long before the change time `ch` the last cycle boundary of a list that started at `s` lies, if no cycle
starts there because the cycle before it is extended to the change time (R347). -/
def Blk.qbvExt (b : Blk) (p s ch : Nat) : Option Nat :=
  let d := (ch - s) % max 1 (b.qbvCycle false p)
  if s ≤ ch ∧ 0 < d ∧ d < b.qbvHead false p 3 then some d else none

/-- The position of `t` in the cycle that runs then in the operating list of port `p`, which started at `s`; none
while no cycle runs (R346, R347). An extended cycle runs on to the change time. DESIGN CHOICE: where the boundary at
which no cycle starts is the list's own start, no cycle runs before the change time (log 94). -/
def Blk.cyclePos (b : Blk) (p s t : Nat) : Option Nat :=
  let c := max 1 (b.qbvCycle false p)
  if t < s then none
  else
    match (b.qbvOf p).chg.bind (fun ch => (b.qbvExt p s ch).map (fun d => ch - d)) with
    | some last => if t < last then some ((t - s) % c) else if last = s then none else some (t - last + c)
    | none => some ((t - s) % c)

/-- The gates of port `p` at time `t`, with the index of the entry in force, none while no list runs
(R346, R347). -/
def Blk.gatesAt (b : Blk) (p t : Nat) : Option Nat × Nat :=
  match (b.qbvOf p).start.bind (fun s => b.cyclePos p s t) with
  | none => (none, b.initGates p)
  | some pos =>
    let r := listAt (b.qbvList false p) pos 0
    (some r.1, r.2 % 256)

/-- The offsets from the start of a cycle at which the entries of a list begin. -/
def entryStarts (l : List (Nat × Nat)) : List Nat :=
  (List.range l.length).map (fun k => ((l.take k).map (·.1)).sum)

/-- The OPs other than SetGateStates of the entries that have begun at `pos` of a cycle, in order. -/
def opsAt (l : List (Nat × Nat)) (pos : Nat) : List Nat :=
  (((l.zip (entryStarts l)).filter (fun e => e.2 ≤ pos)).map (fun e => e.1.2 / 256)).filter (fun op => op != 0)

/-- Is Hold in force on port `p` at time `t`: the last of Set-And-Hold-MAC and Set-And-Release-MAC was Hold (R346)?
An entry of SetGateStates leaves it. -/
def Blk.holdAt (b : Blk) (p t : Nat) : Bool :=
  let x := b.qbvOf p
  let l := b.qbvList false p
  let c := max 1 (b.qbvCycle false p)
  match x.start with
  | none => x.hold
  | some s =>
    match b.cyclePos p s t with
    | none => x.hold
    | some pos =>
      let before := if s + c ≤ t then opsAt l (c - 1) else []
      match (before ++ opsAt l pos).getLast? with
      | some op => op == 1
      | none => x.hold

/-- Hold is in force now. -/
def Blk.holdPre (b : Blk) (p : Nat) : Bool := b.holdAt p b.now

/-- The instant after `t` at which the entry of port `p` changes or a cycle begins, as the operating list
stands. -/
def Blk.nextBoundary (b : Blk) (p t : Nat) : Option Nat :=
  match (b.qbvOf p).start with
  | none => none
  | some s =>
    if t < s then some s
    else
      match b.cyclePos p s t with
      | none => none
      | some pos =>
        let c := max 1 (b.qbvCycle false p)
        match (entryStarts (b.qbvList false p)).find? (fun e => pos < e && (e < c || c ≤ pos)) with
        | some e => some (t - pos + e)
        | none => if c ≤ pos then none else some (t - pos + c)

/-- Does the gate of class `tc` stay open from `t` to `till` (R348)? -/
def Blk.gateStays (b : Blk) (p tc till : Nat) : Nat → Nat → Bool
  | 0, _ => true
  | n + 1, t =>
    (b.gatesAt p t).2.testBit tc &&
      (match b.nextBoundary p t with
      | none => true
      | some u => till ≤ u || b.gateStays p tc till n u)

/-- The administrative list is checked and its change time found (R347). -/
def Blk.qbvChange (b : Blk) (p : Nat) : Blk :=
  if !b.qbvValid true p then (b.put (F.QBV_STAT_CHG_ERR p) 1).raise 75 p
  else (b.setQbv p { b.qbvOf p with chg := some (b.qbvStart true p) }).put (F.QBV_STAT_PEND p) 1

/-- QBV_STAT.RUN and ENTRY at the present time. -/
def Blk.qbvSync (b : Blk) (p : Nat) : Blk :=
  match (b.gatesAt p b.now).1 with
  | some e => (b.put (F.QBV_STAT_RUN p) 1).put (F.QBV_STAT_ENTRY p) e
  | none => (b.put (F.QBV_STAT_RUN p) 0).put (F.QBV_STAT_ENTRY p) 0

/-- At the change time the administrative list becomes the operating list (R347). -/
def Blk.qbvSwitch (b : Blk) (p : Nat) : Blk :=
  let x := b.qbvOf p
  match x.chg with
  | none => b
  | some c =>
    if b.now < c then b
    else
      let b1 := (List.range 6).foldl (fun y w => y.setReg (R.QBV_OPR p w) (b.reg (R.QBV_ADM p w))) b
      let b2 := (List.range 512).foldl (fun y w => y.setReg (R.QBV_OPR_E p w) (b.reg (R.QBV_ADM_E p w))) b1
      ((b2.setQbv p {
        start := if b2.qbvEnabled false p then some c else none
        chg := none
        hold := b.holdAt p c }).put
        (F.QBV_STAT_PEND p) 0).qbvSync p

/-! ## Shapers -/

/-- The rate of port `p` in kb/s (R270, R368, R390). -/
def Blk.portRate (b : Blk) (p : Nat) : Nat :=
  if p < 4 then (match b.fld (F.ETH_CTL_MODE p) with | 1 => 5000000 | 2 => 2500000 | _ => 10000000)
  else if p < 12 then 1000000
  else if p < 20 then 100000
  else if p < 24 then 10000
  else if p < 26 then
    (match b.fld (F.ETH_CTL_MODE p) with | 1 => 2500000 | 2 => 1000000 | 3 => 1000000 | _ => 10000000)
  else if p < 28 then 25000000
  else 10000000

def Blk.cbsOf (b : Blk) (p tc : Nat) : Cbs := b.k.cbs.get (fun _ => {}) (8 * p + tc)

/-- How long the gate of class `tc` of port `p` is open from `t` to `till`, over at most `n` entries of the operating
list; from there on as it stands then. -/
def Blk.openNs (b : Blk) (p tc till : Nat) : Nat → Nat → Nat
  | 0, t => if (b.gatesAt p t).2.testBit tc then till - t else 0
  | n + 1, t =>
    let u := match b.nextBoundary p t with
      | some u => min u till
      | none => till
    let k := if (b.gatesAt p t).2.testBit tc then u - t else 0
    if till ≤ u then k else k + b.openNs p tc till n u

/-- The shaper of queue (p, tc) is counted up to the present time (R344): while no frame of it is sent, credit rises
over the time its gate has been open. -/
def Blk.shape (b : Blk) (p tc : Nat) : Blk :=
  let x := b.cbsOf p tc
  let dt : Int := (b.now - x.since : Nat)
  let slope : Int := (min (b.fld (F.CBS_CFG_IDLE_SLOPE p tc)) (b.portRate p) : Nat)
  let sending := (b.txOf p).any (fun s => s.tc == tc && !s.held)
  let waits := decide ((if sending then 1 else 0) < (b.queue p tc).length)
  let c :=
    if !b.on (F.CBS_CFG_EN p tc) then 0
    else if sending then x.credit + (slope - b.portRate p) * dt
    else
      let up := x.credit + slope * (b.openNs p tc b.now 520 x.since : Nat)
      if waits then up else min 0 up
  { b with k := { b.k with cbs := b.k.cbs.set (fun _ => {}) (8 * p + tc) { credit := c, since := b.now } } }.put
    (F.CBS_CREDIT_CREDIT p tc) (ofSigned 32 (c / 1000000))

/-- All shapers of a port. -/
def Blk.shapeAll (b : Blk) (p : Nat) : Blk := (List.range 8).foldl (fun x tc => x.shape p tc) b

/-! ## Fragments -/

/-- The bytes of a frame in transmission by port `p` that have been sent, its fragments so far together; a fragment's
first 8 bytes on the wire are its preamble. -/
def Blk.wireBytes (b : Blk) (p : Nat) (s : Sending) : Nat :=
  s.sent + (if s.held then 0 else (b.clk - s.began) * b.portRate p / 4000000 - 8)

/-- A frame in transmission is preempted. -/
def Blk.holdTx (b : Blk) (p : Nat) (s : Sending) : Sending :=
  if s.held then s else { s with
    held := true
    sent := b.wireBytes p s }

/-- The next fragment of a preempted frame begins now. -/
def Blk.goOn (b : Blk) (s : Sending) : Sending :=
  if s.held then { s with
    held := false
    since := b.now
    began := b.clk } else s

/-- The frame of a preemptable class that stood behind the one on the wire of port `p` resumes if its gate is open
(R348); its next fragment begins now. -/
def Blk.resume (b : Blk) (p : Nat) : Blk :=
  match b.txOf p with
  | [] => b
  | t :: r =>
    if t.held && (b.gatesAt p b.now).2.testBit t.tc && !b.holdPre p then
      b.setTx p (b.goOn t :: r)
    else b

/-- The transmission of a copy by port `p` is ended early, with four bytes equal to the complement of the FCS of the
bytes sent (R376, R377; `Blk.cutWire`). -/
def Blk.cutTx (b : Blk) (p : Nat) (s : Sending) (f : Option Frm) : Blk :=
  match f with
  | none => b
  | some f => b.setPort p { b.portOf p with cut := some (s, f, b.wireBytes p s) }

end Sys2Proof.Machine
end

