-- ==== Sys2Proof/Machine/Fabric.lean ====
section
/-!
DEFINITION. Machine/Fabric.lean: the switch fabric: slots and the two stages, resequencing, the output buffer,
virtual output queues, multicast, link down, the spoil audit (R270 to R298, R300).
-/

namespace Sys2Proof.Machine

def Blk.staged (b : Blk) (j o : Nat) : List Cell := b.k.fab.inter.get (fun _ => []) (32 * j + o)
def Blk.setStaged (b : Blk) (j o : Nat) (l : List Cell) : Blk :=
  b.setFab { b.k.fab with inter := b.k.fab.inter.set (fun _ => []) (32 * j + o) l }
def Blk.earlyOf (b : Blk) (o i : Nat) : List (Cell × Nat) := b.k.fab.early.get (fun _ => []) (32 * o + i)
def Blk.setEarly (b : Blk) (o i : Nat) (l : List (Cell × Nat)) : Blk :=
  b.setFab { b.k.fab with early := b.k.fab.early.set (fun _ => []) (32 * o + i) l }
def Blk.expected (b : Blk) (o i : Nat) : Nat := b.k.fab.expect.get (fun _ => 0) (32 * o + i)
def Blk.setExpected (b : Blk) (o i v : Nat) : Blk :=
  b.setFab { b.k.fab with expect := b.k.fab.expect.set (fun _ => 0) (32 * o + i) (v % 65536) }

/-! ## Frames -/

/-- The word FWD_META (R326). -/
def fwdMeta (f : Frm) : Nat :=
  f.vid % 2 ^ 12 + f.pcp % 8 * 2 ^ 12 + f.dei.toNat * 2 ^ 15 +
    (match f.gen with
    | some (n, _) => n % 256 * 2 ^ 16 + 2 ^ 25
    | none => 0) +
    (match f.cs with
    | some (s, _) => s % 4 * 2 ^ 26 + 2 ^ 28
    | none => 0) + f.strip.toNat * 2 ^ 29

/-- The 16 bytes of the frame header (R278). -/
def frameHeader (f : Frm) : List Byte :=
  leBytes 4 f.ts ++ leBytes 1 (f.ts / 2 ^ 32 % 2) ++ leBytes 2 (f.len % 2 ^ 14) ++ [0] ++ leBytes 2 f.mcg ++
    leBytes 2 (f.stream.getD 0xffff) ++ leBytes 4 (fwdMeta f)

/-- The 64 payload bytes of cell `k` of a frame (R276): the frame with its header before it and its FCS after it,
filled with zeros. -/
def cellBytes (f : Frm) (k : Nat) : List Byte :=
  let fcs := if 16 + f.data.length < 64 * (k + 1) then leBytes 4 (crc32.of f.data) else []
  let l := ((frameHeader f ++ f.data ++ fcs).drop (64 * k)).take 64
  l ++ List.replicate (64 - l.length) 0

/-- The cells of a frame of `l` bytes (R276). -/
def cellsOf (l : Nat) : Nat := (l + 79) / 64

def frmCells (f : Frm) : Nat := cellsOf f.len

/-- The cells of a frame that are ready in frame order: all when it has arrived whole, else the full cells of
the bytes so far, never the last. -/
def frmReady (f : Frm) : Nat := if f.whole then frmCells f else min (frmCells f - 1) ((16 + f.data.length) / 64)

/-- The header of cell `k` of a frame with SEQ `seq` (R277): V 1, and HCRC over the bits above it. -/
def cellHeader (f : Frm) (k seq : Nat) : Nat :=
  let last := k + 1 == frmCells f
  let nb := if last then (f.len + 16 - 64 * k) % 64 else 0
  let h := 2 ^ 55 + (k == 0).toNat * 2 ^ 54 + last.toNat * 2 ^ 53 + (f.mc != 0).toNat * 2 ^ 52 + f.inp % 32 * 2 ^ 47 +
    f.dst % 32 * 2 ^ 42 + f.tc % 8 * 2 ^ 39 + nb * 2 ^ 33 + seq % 65536 * 2 ^ 17 + (last && f.bad).toNat * 2 ^ 16
  h * 256 + crc8.of (beBytes 7 h)

/-- Has the whole frame been linked? -/
def frmLinked (f : Frm) : Bool := f.linked == frmCells f

/-- Age of a 33-bit time against TB0: negative while it lies ahead (R293, R375, R435). -/
def Blk.ageOf (b : Blk) (ts : Nat) : Int :=
  let d : Nat := (b.ts33 + 2 ^ 33 - ts % 2 ^ 33) % 2 ^ 33
  if d ≤ 2 ^ 32 then d else (d : Int) - 2 ^ 33

/-- Is a frame past the residence limit of a queue (R293)? -/
def Blk.tooOld (b : Blk) (o tc ts : Nat) : Bool :=
  let m := b.fld (F.Q_CFG_MAXRES o tc)
  m != 0 && decide ((m * 10000 : Int) ≤ b.ageOf ts)

/-! ## Registers that show the buffers -/

/-- Q_STAT.HOLD of a queue (R285). -/
def Blk.holdNow (b : Blk) (o tc : Nat) : Bool :=
  b.on (F.OQ_STAT_HOLD_HI o) || b.on (F.OQ_STAT_HOLD_GLB o) || b.on (F.Q_STAT_PAUSED o tc) ||
    b.on (F.Q_STAT_GRACE_RUN o tc)

/-- The linked cells of the frames that entries name, each frame counted once (R283). -/
def Blk.linkedIn (b : Blk) (l : List QEnt) : Nat :=
  ((l.map (·.frm)).dedup.map (fun id => ((b.frm id).map (·.linked)).getD 0)).sum

/-- The cells of the frames of a queue that have been linked (R283). -/
def Blk.queueCells (b : Blk) (o tc : Nat) : Nat := b.linkedIn (b.queue o tc)

/-- Frames of input `i` in its VOQ for a queue, in order. -/
def Blk.voq (b : Blk) (i o tc : Nat) : List Frm :=
  b.k.fab.frms.filter (fun f => f.voq && f.inp == i && f.dst == o && f.tc == tc && f.sent != frmCells f)

/-- HOLD, CELLS and VOQ_BUSY of a queue. -/
def Blk.queueSync (b : Blk) (o tc : Nat) : Blk :=
  ((b.put (F.Q_STAT_CELLS o tc) (b.queueCells o tc)).putB (F.Q_STAT_HOLD o tc) (b.holdNow o tc)).putB
    (F.Q_STAT_VOQ_BUSY o tc) (b.k.fab.frms.any (fun f => f.voq && f.dst == o && f.tc == tc && f.sent != frmCells f))

/-- The registers of output `o` (R283, R284, R285, R318). -/
def Blk.outSync (b : Blk) (o : Nat) : Blk :=
  let used := b.linkedIn ((List.range 8).flatMap (fun tc => b.queue o tc))
  let hi := b.fld (F.OQ_THR_HI o)
  let lo := if hi ≤ b.fld (F.OQ_THR_LO o) then hi - 1 else b.fld (F.OQ_THR_LO o)
  let b1 := b.put (F.OQ_STAT_USED o) used
  let b2 := if hi * 64 ≤ used then b1.put (F.OQ_STAT_HOLD_HI o) 1
    else if used < lo * 64 then b1.put (F.OQ_STAT_HOLD_HI o) 0 else b1
  (List.range 8).foldl (fun x tc => x.queueSync o tc) b2

/-- GLB_FLOOR as it acts (R301). -/
def Blk.floor (b : Blk) : Nat := min 0x8000 (b.fld F.SWC_BUF_CFG_GLB_FLOOR)

/-- HOLD_GLB of every output (R284). -/
def Blk.globSync (b : Blk) : Blk :=
  let low := decide (b.fld F.SWC_BUF_FREE_FREE < b.floor)
  if low == b.on (F.OQ_STAT_HOLD_GLB 0) then b
  else
    let b1 := (List.range 29).foldl (fun x o =>
      (List.range 8).foldl (fun y tc => y.queueSync o tc) (x.putB (F.OQ_STAT_HOLD_GLB o) low)) b
    if low then b1.raise 69 else b1

/-- `n` cells return to the free list. -/
def Blk.freeCells (b : Blk) (n : Nat) : Blk :=
  (b.put F.SWC_BUF_FREE_FREE (b.fld F.SWC_BUF_FREE_FREE + n)).globSync

/-- A cell is taken from the free list. -/
def Blk.takeCell (b : Blk) : Blk := (b.put F.SWC_BUF_FREE_FREE (b.fld F.SWC_BUF_FREE_FREE - 1)).globSync

/-- `n` VOQ cells of input `i` are taken, or returned. -/
def Blk.takeVoq (b : Blk) (i n : Nat) : Blk :=
  (b.put F.SWC_VOQ_FREE_FREE (b.fld F.SWC_VOQ_FREE_FREE - n)).put (F.IN_VOQ_USED i) (b.fld (F.IN_VOQ_USED i) + n)
def Blk.freeVoq (b : Blk) (i n : Nat) : Blk :=
  (b.put F.SWC_VOQ_FREE_FREE (b.fld F.SWC_VOQ_FREE_FREE + n)).put (F.IN_VOQ_USED i) (b.fld (F.IN_VOQ_USED i) - n)

/-! ## The end of a frame -/

/-- The record of a frame goes; its host descriptors are to be written back. -/
def Blk.eraseFrm (b : Blk) (id : Nat) : Blk :=
  match b.frm id with
  | none => b
  | some f =>
    let f' := b.k.fab
    b.setFab { f' with
      frms := f'.frms.filter (fun g => g.id != id)
      hostDone := f'.hostDone ++ f.host.toList }

/-- While an audit runs, the cells of frame `id` take its colour as they are linked, enqueued or dequeued (R295). -/
def Blk.paint (b : Blk) (id : Nat) : Blk :=
  if b.on F.SWC_SA_STAT_RUNNING then b.updFrm id (fun f => { f with col := b.k.fab.audCol }) else b

/-- Entries of a frame anywhere. -/
def Blk.refs (b : Blk) (id : Nat) : Nat :=
  b.k.fab.oq.foldl (fun n q => n + (q.2.filter (fun e => e.frm == id)).length) 0

/-- The queues, by 8 × output + class, that hold an entry for which `p` holds. -/
def Blk.queuesWith (b : Blk) (p : QEnt → Bool) : List Nat := (b.k.fab.oq.filter (fun q => q.2.any p)).map (·.1)

/-- The outputs with an entry of a frame count its cells again (R283). -/
def Blk.frmSync (b : Blk) (id : Nat) : Blk :=
  (((b.queuesWith (fun e => e.frm == id)).map (· / 8)).dedup).foldl Blk.outSync b

/-- The entries for which `p` holds leave their queues and transmitters, which end a copy on the wire as an underrun
does (R280, R377). The shapers are counted up to here, and positive credit of a queue that becomes empty goes
(R344). -/
def Blk.dropEnts (b : Blk) (p : QEnt → Bool) : Blk :=
  let qs := b.queuesWith p
  let wire := b.k.fab.tx.flatMap (fun q => (q.2.filter (fun s => p s.ent)).map (fun s => (q.1, s)))
  let b0 := wire.foldl (fun x e => x.cutTx e.1 e.2 (b.frm e.2.ent.frm))
    (qs.foldl (fun x q => x.shape (q / 8) (q % 8)) b)
  let f' := b0.k.fab
  let b1 := b0.setFab { f' with
    oq := (f'.oq.map (fun q => (q.1, q.2.filter (fun e => !p e)))).filter (fun q => q.2 != [])
    tx := (f'.tx.map (fun q => (q.1, q.2.filter (fun s => !p s.ent)))).filter (fun q => q.2 != []) }
  wire.foldl (fun x e => x.resume e.1) (qs.foldl (fun x q => (x.shape (q / 8) (q % 8)).outSync (q / 8)) b1)

/-- A frame is discarded: its entries, its cells, its part in transmission (R280, R377). -/
def Blk.kill (b : Blk) (id : Nat) : Blk :=
  match b.frm id with
  | none => b
  | some f =>
    let b1 := b.dropEnts (fun e => e.frm == id)
    let b2 := if f.dead then b1 else b1.freeCells f.linked
    let b3 := if f.voq && f.sent == 0 then b2.freeVoq f.inp (frmCells f) else b2
    let b4 := if f.sent = 0 ∨ (f.whole ∧ f.sent = frmCells f) then b3.eraseFrm id
      else b3.updFrm id (fun f => { f with dead := true })
    b4.outSync f.dst

/-- A frame with no entry left returns its cells (R290); what has not been linked is discarded as it comes. -/
def Blk.reap (b : Blk) (id : Nat) : Blk :=
  match b.frm id with
  | none => b
  | some f =>
    if b.refs id != 0 then b else if frmLinked f then (b.eraseFrm id).freeCells f.linked else b.kill id

/-- An entry leaves its queue: one reference goes (R290). -/
def Blk.unqueue (b : Blk) (o tc : Nat) (e : QEnt) : Blk :=
  let b1 := (b.shape o tc).paint e.frm
  (((b1.setQueue o tc ((b1.queue o tc).erase e)).shape o tc).reap e.frm).outSync o

/-- A frame found bad at its end is discarded (R280). A copy of it that was sampled at egress is still sent
(R350). -/
def Blk.endBad (b : Blk) (f : Frm) : Blk :=
  let kept := f.cs.any (fun s => b.fld (F.CS_CFG_KIND s.1) == 2) &&
    b.k.fab.oq.any (fun q => q.2.any (fun e => e.frm == f.id && e.cs))
  if kept then b.dropEnts (fun e => e.frm == f.id && !e.cs) else b.kill f.id

/-! ## Entering the fabric -/

/-- The frame becomes one of the core's. -/
def Blk.addFrm (b : Blk) (f : Frm) : Blk :=
  let f' := b.k.fab
  b.setFab { f' with
    frms := f'.frms ++ [{ f with
      id := f'.next
      col := f'.audCol }]
    next := f'.next + 1 }

/-- A host descriptor chain is done with without its frame entering the core. -/
def Blk.hostEnd (b : Blk) (f : Frm) : Blk :=
  b.setFab { b.k.fab with hostDone := b.k.fab.hostDone ++ f.host.toList }

/-- Does a frame fit into the VOQ memory (R287)? -/
def Blk.voqFits (b : Blk) (f : Frm) : Bool :=
  frmCells f ≤ b.fld F.SWC_VOQ_FREE_FREE &&
    b.fld (F.IN_VOQ_USED f.inp) + frmCells f ≤ min 0x8000 (b.fld F.SWC_VOQ_CFG_QUOTA)

/-- Stalled frames of an input for a queue that came before frame `id`. -/
def Blk.stalledBefore (b : Blk) (i o tc id : Nat) : Bool :=
  b.k.fab.frms.any (fun g => g.stall && g.inp == i && g.dst == o && g.tc == tc && g.id < id)

/-- QP_STAT.STALLED of the queue pair a frame came from: some frame of the pair is stalled (R287). -/
def Blk.hostStall (b : Blk) (f : Frm) : Blk :=
  match f.host with
  | some (q, _, _) =>
    b.putB (F.QP_STAT_STALLED q) (b.k.fab.frms.any (fun g => g.stall && g.host.any (fun h => h.1 == q)))
  | none => b

/-- The path of a frame is decided when its first cell becomes ready (R285, R287, R288, R292). -/
def Blk.fabAccept (b : Blk) (f : Frm) : Blk :=
  if b.on F.SWC_FAB_CTL_EN = false then b.hostEnd f
  else if f.mc ≠ 0 then b.addFrm f
  else if b.on (F.Q_STAT_DOWN f.dst f.tc) then (b.incWrap (F.Q_LD_DROP_LD_DROP f.dst f.tc)).hostEnd f
  else if b.on (F.Q_STAT_HOLD f.dst f.tc) || b.voq f.inp f.dst f.tc != [] ||
      b.stalledBefore f.inp f.dst f.tc b.k.fab.next then
    if b.voqFits f && !b.stalledBefore f.inp f.dst f.tc b.k.fab.next then
      (((b.takeVoq f.inp (frmCells f)).addFrm { f with voq := true })).queueSync f.dst f.tc
    else if f.inp < 26 then
      let b1 := b.incWrap (F.IN_VOQ_DROP_DROP f.inp)
      if b.fld F.SWC_VOQ_FREE_FREE < frmCells f then b1.raise 70 f.inp else b1
    else (b.addFrm { f with stall := true }).hostStall f
  else b.addFrm f

/-- A stalled frame is placed if it can be (R287). -/
def Blk.unstall (b : Blk) (f : Frm) : Blk :=
  if b.stalledBefore f.inp f.dst f.tc f.id then b
  else if !b.on (F.Q_STAT_HOLD f.dst f.tc) && b.voq f.inp f.dst f.tc == [] then
    (b.updFrm f.id (fun g => { g with stall := false })).hostStall f
  else if b.voqFits f then
    (((b.takeVoq f.inp (frmCells f)).updFrm f.id (fun g => { g with
      stall := false
      voq := true })).hostStall f).queueSync f.dst f.tc
  else b

/-! ## Linking at the output -/

/-- Is a queue entry free (R282)? -/
def Blk.entryFree (b : Blk) : Bool := b.k.fab.oq.foldl (fun n q => n + q.2.length) 0 < 262144

/-- An entry joins a queue; the shaper is counted up to here (R344). -/
def Blk.enqueue (b0 : Blk) (o tc : Nat) (e : QEnt) : Blk :=
  let b := (b0.shape o tc).paint e.frm
  ((b.setQueue o tc (b.queue o tc ++ [e])).incWrap (F.Q_ENQ_ENQ o tc)).outSync o

/-- May a copy enter queue (d, tc) (R289)? -/
def Blk.copyOk (b : Blk) (d tc : Nat) : Bool :=
  !b.on (F.OQ_STAT_HOLD_GLB d) && !b.on (F.OQ_STAT_HOLD_HI d) && !b.on (F.Q_STAT_DOWN d tc) && b.entryFree

/-- The copies of a multicast frame at its anchor (R289). -/
def Blk.copies (b : Blk) (f : Frm) : Blk :=
  let glb := b.on (F.OQ_STAT_HOLD_GLB f.dst)
  (List.range 29).foldl (fun x d =>
    if f.mc.testBit d then
      if !glb && x.copyOk d f.tc then x.enqueue d f.tc ⟨f.id, false⟩ else x.incWrap (F.OQ_MC_PD_MC_PARTIAL_DROP d)
    else x) b

/-- The core sample copy of a frame (R350). -/
def Blk.sample350 (b : Blk) (f : Frm) : Blk :=
  match f.cs with
  | none => b
  | some (s, _) =>
    let d := b.fld (F.CS_CFG_DST s)
    let tc := b.fld (F.CS_CFG_TC s)
    if d < 29 ∧ b.copyOk d tc then (b.enqueue d tc ⟨f.id, true⟩).incSat (F.CS_CNT_COPIED s)
    else (b.incSat (F.CS_CNT_DROPPED s)).raise 79 s

/-- A unicast frame joins its queue. DESIGN CHOICE: with no entry free it is discarded and counted as a frame that
finds no free cell (log 93). -/
def Blk.enqueueFrm (b : Blk) (f : Frm) : Blk :=
  if b.entryFree then b.enqueue f.dst f.tc ⟨f.id, false⟩
  else ((b.incWrap F.SWC_BUF_DROP_DROP).raise 69 f.dst).kill f.id

/-- A cell is linked in SEQ order (R279, R280). A cell of a discarded frame, or one whose predecessor in its
frame is missing, is dropped. -/
def Blk.linkCell (b : Blk) (c : Cell) : Blk :=
  match b.frm c.frm with
  | none => b.freeCells 1
  | some f =>
    if f.dead then b.freeCells 1
    else if f.linked ≠ c.k then (b.kill f.id).freeCells 1
    else
      let b1 := (b.updFrm f.id (fun g => { g with linked := g.linked + 1 })).paint f.id
      let b2 := if c.first then
          let x := if f.csOnly then b1 else if f.mc ≠ 0 then b1.copies f else b1.enqueueFrm f
          if (x.frm f.id).any (fun g => !g.dead) then x.sample350 f else x
        else b1
      (if c.last then (if f.bad then b2.endBad f else b2.reap f.id) else b2).frmSync f.id

/-- The waiting cells that have become next are linked. -/
def Blk.drainEarly (b : Blk) (o i : Nat) : Nat → Blk
  | 0 => b
  | n + 1 =>
    match (b.earlyOf o i).find? (fun e => e.1.seq == b.expected o i) with
    | none => b
    | some e =>
      (((b.setEarly o i ((b.earlyOf o i).erase e)).setExpected o i (e.1.seq + 1)).linkCell e.1).drainEarly o i n

/-- How far SEQ `q` lies past the expected SEQ of output `o` from input `i`; 32,768 and more: before it. -/
def Blk.ahead (b : Blk) (o i q : Nat) : Nat := (q + 65536 - b.expected o i) % 65536

/-- A cell arrives at output `o` (R279, R280, R284). One that has been declared lost is late. One that finds no free
cell has its frame discarded, which is counted once (R294). -/
def Blk.arrive (b : Blk) (o : Nat) (c : Cell) : Blk :=
  let i := c.inp
  if 32768 ≤ b.ahead o i c.seq then b.incSat (F.OQ_RSQ_LATE o)
  else if b.fld F.SWC_BUF_FREE_FREE = 0 then
    let b1 := if (b.frm c.frm).any (fun f => !f.dead) then
        ((b.incWrap F.SWC_BUF_DROP_DROP).raise 69 o).kill c.frm
      else b
    if c.seq = b1.expected o i then (b1.setExpected o i (c.seq + 1)).drainEarly o i 65536 else b1
  else if c.seq = b.expected o i then
    (((b.takeCell).setExpected o i (c.seq + 1)).linkCell c).drainEarly o i 65536
  else (b.takeCell).setEarly o i (b.earlyOf o i ++ [(c, b.clk)])

/-! ## Slots -/

/-- A cell fails its parity or HCRC and is discarded where it is received (R297). -/
def Blk.linkErr (b : Blk) (port : Nat) : Blk := (b.incSat F.SWC_FAB_ERR_LINK_ERR).raise 64 port

/-- Has frame `f` a ready cell for an intermediate whose full queues are `full` (R274, R286)? -/
def Blk.mayEnter (b : Blk) (f : Frm) (full : Nat → Bool) : Bool :=
  !f.stall && f.sent < frmReady f && !full f.dst &&
    (!f.voq || (!b.on (F.Q_STAT_HOLD f.dst f.tc) &&
      ((b.voq f.inp f.dst f.tc).head?).all (fun g => g.id == f.id)))

/-- The frame whose cell goes: the highest class, then the oldest TS (R274). -/
def Blk.choose (b : Blk) (l : List Frm) : Option Frm :=
  l.foldl (fun w f => match w with
    | none => some f
    | some g => if g.tc < f.tc ∨ (g.tc = f.tc ∧ b.ageOf g.ts < b.ageOf f.ts) then some f else some g) none

/-- The next cell of frame `f` enters stage A towards intermediate `j` (R274); `bad`: it is discarded there. -/
def Blk.enter (b : Blk) (f : Frm) (j : Nat) (bad : Bool) : Blk :=
  let key := 32 * f.inp + f.dst
  let seq := b.k.fab.seqOut.get (fun _ => 0) key
  let c : Cell := ⟨f.id, f.sent, f.sent == 0, f.sent + 1 == frmCells f, f.inp, seq, cellHeader f f.sent seq,
    cellBytes f f.sent⟩
  let b1 := (b.setFab { b.k.fab with
    seqOut := b.k.fab.seqOut.set (fun _ => 0) key ((seq + 1) % 65536) }).updFrm f.id
      (fun g => { g with
        sent := g.sent + 1
        seq0 := if f.sent = 0 then seq else g.seq0 })
  let b2 := if f.voq then (b1.freeVoq f.inp 1).queueSync f.dst f.tc else b1
  let b3 := if bad then b2.linkErr f.inp else b2.setStaged j f.dst (b2.staged j f.dst ++ [c])
  if f.dead && c.last then b3.eraseFrm f.id else b3

/-- An uncorrectable error of the packet buffer discards the frame that holds the cell (R297). -/
def Blk.eccLose (b : Blk) (port id : Nat) : Blk := ((b.incSat F.SWC_FAB_ERR_ECC_UNC).raise 68 port).kill id

/-- Input `i` sends a cell in this slot, if one qualifies (R274, R293, R296). `ecc`: the VOQ cell it takes has a
corrected (1) or an uncorrectable (2) error (R297). -/
def Blk.stageA (b : Blk) (i j : Nat) (full : Nat → Bool) (bad : Bool) (ecc : Nat) : Nat → Blk
  | 0 => b
  | n + 1 =>
    match b.choose (b.k.fab.frms.filter (fun f => f.inp == i && b.mayEnter f full)) with
    | none => b
    | some f =>
      if f.voq && f.dbl && !f.dead then (b.kill f.id).stageA i j full bad ecc n
      else if f.voq && f.sent == 0 && b.tooOld f.dst f.tc f.ts then
        ((b.incWrap (F.Q_RES_DROP_RES_DROP f.dst f.tc)).kill f.id).stageA i j full bad ecc n
      else if f.voq && ecc == 2 && !f.dead then (b.eccLose i f.id).stageA i j full bad 0 n
      else (if f.voq && ecc == 1 then b.incWrap F.SWC_ECC_CORR_CORR else b).enter f j bad

/-- A slot (R271 to R274, R279). `badA` and `badB` are the inputs and intermediates whose cell of this slot
is corrupted on its link; in `badA`, 32 + i and 64 + i say that the VOQ cell which input i takes has a corrected or an
uncorrectable error in the packet buffer (R297). The masks of full queues are those at the slot's start. -/
def Blk.slot (b : Blk) (badA badB : List Nat) : Blk :=
  if b.swcOff || !b.on F.SWC_FAB_CTL_EN then b
  else
    let t := b.k.fab.slot
    let b0 := (b.k.fab.frms.filter (fun f => f.stall)).foldl Blk.unstall b
    let full (j o : Nat) : Bool := 8 ≤ (b0.staged j o).length
    let b1 := (List.range 32).foldl (fun x j =>
      let o := (j + t) % 32
      match b0.staged j o with
      | [] => x
      | c :: l =>
        let y := x.setStaged j o l
        if badB.contains j then y.linkErr o else y.arrive o c) b0
    let b2 := (List.range 29).foldl (fun x i =>
      let j := (i + t) % 32
      x.stageA i j (full j) (badA.contains i)
        (if badA.contains (64 + i) then 2 else if badA.contains (32 + i) then 1 else 0) (x.k.fab.frms.length + 1)) b1
    b2.setFab { b2.k.fab with slot := (t + 1) % 32 }

/-- A write of SWC_FAB_CTL (R271, R300). With EN 0 the frames that have begun to cross and are not complete
at their output are lost. -/
def Blk.fabCtl (b : Blk) (v : W32) : Blk :=
  let was := b.on F.SWC_FAB_CTL_EN
  let b1 := b.writeReg R.SWC_FAB_CTL v
  let en := b1.on F.SWC_FAB_CTL_EN
  if en && !was then b1.setFab { b1.k.fab with slot := 0 }
  else if was && !en then
    let lost := b1.k.fab.frms.filter (fun f => f.sent != 0 && !frmLinked f)
    let held := b1.k.fab.early.foldl (fun n q => n + q.2.length) 0
    let b2 := lost.foldl (fun x f => ((x.kill f.id).eraseFrm f.id).outSync f.dst) b1
    let b3 := lost.foldl (fun x f => if f.voq then x.freeVoq f.inp (frmCells f - f.sent) else x) b2
    (b3.setFab { b3.k.fab with
      seqOut := []
      expect := []
      early := []
      inter := [] }).freeCells held
  else b1

/-- The expected cell of output `o` from input `i` is declared lost if it has missed RSQ_TMO (R280): the frames of
the input are discarded that have begun to cross before the SEQ that is expected from now on and are not
complete. -/
def Blk.rsqTimeout (b : Blk) (o i : Nat) : Blk :=
  let l := b.earlyOf o i
  let tmo := max 1 (b.fld F.SWC_FAB_CTL_RSQ_TMO) * tickUs
  if l.any (fun e => e.2 + tmo ≤ b.clk) then
    let e0 := b.expected o i
    let off (e : Cell × Nat) : Nat := b.ahead o i e.1.seq
    let firsts := (l.filter (fun e => e.1.first)).map off
    let cut := match firsts with
      | [] => l.foldl (fun m e => max m (off e + 1)) 0
      | x :: xs => xs.foldl min x
    let part := b.k.fab.frms.filter (fun f => f.inp == i && f.dst == o && f.sent != 0 && !frmLinked f && !f.dead &&
      (f.linked != 0 || decide (b.ahead o i f.seq0 < cut)))
    let b1 := (part.map (·.id)).foldl Blk.kill b
    let b2 := (b1.setEarly o i (l.filter (fun e => cut ≤ off e))).freeCells (l.filter (fun e => off e < cut)).length
    ((((b2.setExpected o i (e0 + cut)).incSat (F.OQ_RSQ_LOST o)).raise 65 o).drainEarly o i 65536).outSync o
  else b

/-! ## Link down -/

/-- GRACE of a queue in ns (R317). -/
def Blk.graceNs (b : Blk) (o tc : Nat) : Nat := min 100 (b.fld (F.Q_CFG_GRACE o tc)) * 100000

/-- A queue is flushed: the frames in it and in its VOQs, each counted once (R292, R294). A frame that a core sample
copy still needs goes on crossing for it (R290, R350). -/
def Blk.flush (b : Blk) (o tc : Nat) : Blk :=
  let b1 := (b.queue o tc).foldl (fun x e => (x.incWrap (F.Q_LD_FLUSH_LD_FLUSH o tc)).unqueue o tc e) b
  let v := b1.k.fab.frms.filter (fun f => (f.voq || f.stall) && f.dst == o && f.tc == tc && f.mc == 0 && !f.dead &&
    f.sent != frmCells f && b1.refs f.id == 0)
  let b2 := v.foldl (fun x f => ((x.incWrap (F.Q_LD_FLUSH_LD_FLUSH o tc)).kill f.id).hostStall f) b1
  ((b2.put (F.Q_STAT_DOWN o tc) 1).put (F.Q_STAT_GRACE_RUN o tc) 0).outSync o

/-- The frames in transmission of port `p` are aborted (R291). -/
def Blk.abortTx (b : Blk) (p : Nat) : Blk :=
  let l := b.txOf p
  l.foldl (fun x s => (x.incWrap (F.Q_LD_FLUSH_LD_FLUSH p s.tc)).unqueue p s.tc s.ent) ((b.shapeAll p).setTx p [])

/-- Is the port's link up (R369)? CG has none and is always up. -/
def Blk.portUp (b : Blk) (p : Nat) : Bool :=
  p == 28 || b.on (F.ETH_STAT_LINK p)

def Blk.downOf (b : Blk) (p : Nat) : Bool := b.k.fab.down.get (fun _ => false) p

/-- Port `p` reports link down to its queues (R291). -/
def Blk.reportDown (b : Blk) (p : Nat) : Blk :=
  if b.portUp p || b.downOf p || b.swcOff then b
  else
    let b1 := b.abortTx p
    let b2 := b1.setFab { b1.k.fab with
      down := b1.k.fab.down.set (fun _ => false) p true
      downAt := b1.k.fab.downAt.set (fun _ => 0) p b.now
      grace := (List.range 8).foldl (fun g tc => g.set (fun _ => 0) (8 * p + tc) (b1.graceNs p tc)) b1.k.fab.grace }
    (List.range 8).foldl (fun x tc =>
      if x.graceNs p tc = 0 then x.flush p tc
      else (x.put (F.Q_STAT_GRACE_RUN p tc) 1).queueSync p tc) b2

/-- Has the grace window of a queue closed (R292)? Its length is that of the report of link down. -/
def Blk.graceOver (b : Blk) (p tc : Nat) : Bool :=
  b.on (F.Q_STAT_GRACE_RUN p tc) &&
    b.k.fab.downAt.get (fun _ => 0) p + b.k.fab.grace.get (fun _ => 0) (8 * p + tc) ≤ b.now

/-- Port `p` reports link up (R291, R292, R294). -/
def Blk.reportUp (b : Blk) (p : Nat) : Blk :=
  if b.portUp p && b.downOf p && !b.swcOff then
    let b1 := b.setFab { b.k.fab with down := b.k.fab.down.set (fun _ => false) p false }
    (List.range 8).foldl (fun x tc =>
      let y := if x.graceOver p tc then x.flush p tc else x
      ((y.put (F.Q_STAT_GRACE_RUN p tc) 0).put (F.Q_STAT_DOWN p tc) 0).queueSync p tc) b1
  else b

/-! ## Spoil audit -/

/-- An audit begins, with the colour opposite to the last one's (R295). -/
def Blk.auditBegin (b : Blk) : Blk :=
  (b.put F.SWC_SA_STAT_RUNNING 1).setFab { b.k.fab with
    audAt := b.clk
    audNext := false
    audCol := !b.k.fab.audCol }

/-- The cells of the output buffer that are neither free nor reachable: neither linked in a frame nor held by a
resequencer (R295). -/
def Blk.leaked (b : Blk) : Nat :=
  163840 - b.fld F.SWC_BUF_FREE_FREE - ((b.k.fab.frms.filter (fun f => !f.dead)).map (·.linked)).sum -
    (b.k.fab.early.map (fun q => q.2.length)).sum

/-- The same of the VOQ memory. -/
def Blk.leakedVoq (b : Blk) : Nat :=
  32768 - b.fld F.SWC_VOQ_FREE_FREE - ((List.range 29).map (fun i => b.fld (F.IN_VOQ_USED i))).sum

/-- The leaked cells return to the free lists (R295, R296). -/
def Blk.reclaim (b : Blk) : Blk :=
  let b1 := b.freeCells b.leaked
  b1.put F.SWC_VOQ_FREE_FREE (b1.fld F.SWC_VOQ_FREE_FREE + b.leakedVoq)

/-- `n` free cells leak by an error of the hardware: of the output buffer, then of the VOQ memory (log 95). -/
def Blk.leak (b : Blk) (n : Nat) : Blk :=
  let k := min n (b.fld F.SWC_BUF_FREE_FREE)
  ((b.put F.SWC_BUF_FREE_FREE (b.fld F.SWC_BUF_FREE_FREE - k)).put F.SWC_VOQ_FREE_FREE
    (b.fld F.SWC_VOQ_FREE_FREE - (n - k))).globSync

/-- Is a frame reachable: from a queue or a transmitter by an entry, or from an input, a VOQ or a resequencer by cells
that are still to be linked (R295)? -/
def Blk.reachable (b : Blk) (f : Frm) : Bool := b.refs f.id != 0 || !frmLinked f

/-- Mark and sweep over the frames (R295): the cells of a reachable frame take the audit's colour; those of another
are noted as suspect, and returned to the free list if the last audit noted them already. The number returned. -/
def Blk.sweepFrms (b : Blk) : Nat × Blk :=
  let c := b.k.fab.audCol
  let b1 := b.setFab { b.k.fab with
    frms := b.k.fab.frms.map (fun f => if b.reachable f then { f with col := c, sus := false } else f) }
  let stray := b1.k.fab.frms.filter (fun f => f.col != c && !f.dead)
  let gone := stray.filter (·.sus)
  let b2 := stray.foldl (fun x f =>
    if f.sus then (x.eraseFrm f.id).freeCells f.linked else x.updFrm f.id (fun g => { g with sus := true })) b1
  ((gone.map (·.linked)).sum, b2)

/-- A cell that frame `id` reaches is found free too (R296): the frame is to be discarded at its next dequeue. The
error had put the cell on the free list of its memory once too often, and the audit takes it out: the free counts, which
count the cell as the frame's, stay (log 95). -/
def Blk.doubleUse (b : Blk) (id : Nat) : Blk := b.updFrm id (fun f => { f with dbl := true })

/-- PERIOD ms have passed since the last audit began (R295). -/
def Blk.auditStart (b : Blk) : Blk :=
  let p := b.fld F.SWC_SA_CFG_PERIOD
  if b.swcOff || p == 0 || b.clk < b.k.fab.audAt + p * tickMs || b.k.fab.audNext then b
  else if b.on F.SWC_SA_STAT_RUNNING then
    ((b.put F.SWC_SA_STAT_OVERRUN 1).raise 71).setFab { b.k.fab with audNext := true }
  else b.auditBegin

/-- The running audit completes (R295, R296). Errors of the hardware since the last audit are given, since no rule of
the fabric makes one (log 95): `n` cells stand outside every list and frame, where the free counts do not yet lack that
many; `fix` frames have a reference count other than their references, which become their count; each element of `dbl`
names a frame that reaches a cell found free (one of 2^32 more, a further frame that reaches the cell before it). The
cells that the free counts lack were unmarked at the last audit too and are reclaimed; the new ones are suspect. -/
def Blk.auditEnd (b : Blk) (n fix : Nat) (dbl : List Nat) : Blk :=
  if b.on F.SWC_SA_STAT_RUNNING = false ∨ b.swcOff = true then b
  else
    let s := b.sweepFrms
    let old := b.leaked + b.leakedVoq
    let back := old + s.1
    let b0 := s.2.reclaim.leak (n - old)
    let b1 := (b0.put F.SWC_SA_STAT_RUNNING 0).put F.SWC_SA_STAT_DURATION
      (min 0xffff ((b.clk - b.k.fab.audAt) / tickUs))
    let b2 := ((b1.incWrap F.SWC_SA_PASS_PASSES).incSat F.SWC_SA_CNT_RECLAIMED back).incSat F.SWC_SA_CNT_REFFIX fix
    let b3 := if back = 0 ∧ fix = 0 then b2 else b2.raise 66
    let b4 := dbl.foldl (fun x e => x.doubleUse (e % 2 ^ 32)) b3
    let b5 := if dbl = [] then b4
      else (b4.incSat F.SWC_SA_CNT_DOUBLE (dbl.filter (fun e => e / 2 ^ 32 == 0)).length).raise 67
    if b5.k.fab.audNext then b5.auditBegin else b5

/-! ## Meanings -/

/-- A write of SWC_FAB_CTL (R300). -/
def execFabricEnableWrite (i : Init) (v : W32) (s : State) : Host.Outcome State Fault Refusal :=
  onBlk true s (fun b => b.onWrite i R.SWC_FAB_CTL v (fun b => b.fabCtl v))

/-- A slot of the fabric (R274); `badA` and `badB` name the errors of its cells (R297). -/
def execFabricSlot (badA badB : List Nat) (s : State) : Host.Outcome State Fault Refusal :=
  onBlk true s (fun b => b.slot badA badB)

/-- The expected cell of output `o` from input `p` has missed RSQ_TMO (R280). -/
def execResequenceTimeout (o p : Nat) (s : State) : Host.Outcome State Fault Refusal :=
  onBlk (o < 29 && p < 29) s (fun b => b.rsqTimeout o p)

/-- Port `p` reports link down (R291). -/
def execLinkDownReport (p : Nat) (s : State) : Host.Outcome State Fault Refusal :=
  onBlk (p < 29) s (fun b => b.reportDown p)

/-- Port `p` reports link up (R291). -/
def execLinkUpReport (p : Nat) (s : State) : Host.Outcome State Fault Refusal :=
  onBlk (p < 29) s (fun b => b.reportUp p)

/-- The grace window of queue (o, tc) closes (R292). -/
def execGraceExpiry (o tc : Nat) (s : State) : Host.Outcome State Fault Refusal :=
  onBlk (o < 29 && tc < 8) s (fun b => if b.graceOver o tc && !b.swcOff then b.flush o tc else b)

/-- A spoil audit is due (R295). -/
def execSpoilAuditStart (s : State) : Host.Outcome State Fault Refusal := onBlk true s Blk.auditStart

/-- The spoil audit completes with what it has found (R296). -/
def execSpoilAuditComplete (n fix : Nat) (dbl : List Nat) (s : State) : Host.Outcome State Fault Refusal :=
  onBlk true s (fun b => b.auditEnd n fix dbl)

end Sys2Proof.Machine
end

