-- ==== Sys2Proof/Machine/Forward.lean ====
section
/-!
DEFINITION. Machine/Forward.lean: the forwarding engine, the MAC table, streams, gates, meters, frame
replication and elimination, the core sample, and what CG receives (R323 to R343, R349, R350, R356).
-/

namespace Sys2Proof.Machine

/-! ## Parsing -/

/-- What stage 1 reads (R325): the addresses, the VLAN tag, the R-TAG's sequence number, the EtherType after
them and where it lies. -/
structure Parsed where
  da : Nat
  sa : Nat
  tag : Option (Nat × Bool × Nat)
  rtag : Option Nat
  ety : Nat
  off : Nat
deriving DecidableEq, Repr

/-- The big-endian number of `n` bytes at offset `o`. -/
def beAt (l : List Byte) (o n : Nat) : Nat := beNat ((l.drop o).take n)

/-- Stage 1 (R325). -/
def parse (l : List Byte) : Parsed :=
  let tagged := beAt l 12 2 == 0x8100
  let tci := beAt l 14 2
  let o := if tagged then 16 else 12
  let r := beAt l o 2 == 0xf1c1
  let o2 := if r then o + 6 else o
  { da := beAt l 0 6, sa := beAt l 6 6, tag := if tagged then some (tci / 2 ^ 13, tci.testBit 12, tci % 4096) else none
    rtag := if r then some (beAt l (o + 4) 2) else none, ety := beAt l o2 2, off := o2 }

/-- Is an address a group address? -/
def isGroup (mac : Nat) : Bool := mac.testBit 40
def broadcast : Nat := 2 ^ 48 - 1
/-- Is it one of 01-80-C2-00-00-00 to 01-80-C2-00-00-0F? -/
def linkLocal (mac : Nat) : Bool := mac / 16 == 0x0180c200000

/-! ## Stages 3 and 4 -/

/-- VID, PCP and DEI of a frame at input `p`, none if it is discarded (R327). -/
def Blk.vlanOf (b : Blk) (p : Nat) (x : Parsed) : Option (Nat × Nat × Bool) :=
  let acc := b.fld (F.FWD_PORT_ACCEPT p)
  let pvid := b.fld (F.FWD_PORT_PVID p)
  let pv := if pvid = 0 ∨ pvid = 4095 then 1 else pvid
  let real := x.tag.any (fun t => t.2.2 != 0)
  let c : Nat × Nat × Bool := match x.tag with
    | none => (pv, b.fld (F.FWD_PORT_DEF_PCP p), false)
    | some (pcp, dei, vid) => (if vid = 0 then pv else vid, pcp, dei)
  if c.1 = 4095 ∨ (acc = 1 ∧ real = false) ∨ (acc = 2 ∧ real) then none
  else if b.on (F.FWD_PORT_INGRESS_FILT p) && !(b.fld (F.VLAN_MEMBER_MEMBER c.1)).testBit p then none
  else if b.on (F.VLAN_CFG_VALID c.1) then some c
  else none

/-- The traffic class of a PCP at input `p` (R328). -/
def Blk.tcOf (b : Blk) (p pcp : Nat) : Nat := b.fld (F.FWD_TCMAP_MAP p) / 2 ^ (3 * pcp) % 8

/-- The bucket of a key (R330). -/
def Blk.bucket (b : Blk) (fid mac : Nat) : Nat :=
  let k := fid * 2 ^ 48 + mac
  b.fld F.FWD_CTL_SEED ^^^ (k % 2 ^ 13) ^^^ (k / 2 ^ 13 % 2 ^ 13) ^^^ (k / 2 ^ 26 % 2 ^ 13) ^^^
    (k / 2 ^ 39 % 2 ^ 13) ^^^ (k / 2 ^ 52 % 2 ^ 8)

/-- The handle of a stream identity entry of METHOD `m` for an address and VID (R335). -/
def Blk.sidHit (b : Blk) (m mac vid : Nat) : Option Nat :=
  let bk := b.bucket vid mac % 1024
  ((List.range 4).map (fun w => 4 * bk + w)).findSome? (fun e =>
    let l := (List.range 4).flatMap (fun w => leBytes 4 (b.reg (R.SID e w)).toNat)
    if beAt l 0 6 = mac ∧ fieldAt l 6 2 % 4096 = vid ∧ fieldAt l 8 1 = m then some (fieldAt l 10 2 % 4096) else none)

/-- Stage 4 (R335). -/
def Blk.streamOf (b : Blk) (vid : Nat) (x : Parsed) : Option Nat :=
  (b.sidHit 1 x.da vid).orElse (fun _ => b.sidHit 2 x.sa vid)

/-! ## Stage 5: gates and meters -/

/-- The entries of stream gate `n`: interval and STATE (R338). -/
def Blk.sgateList (b : Blk) (n : Nat) : List (Nat × Nat) :=
  let c := max 1 (min 16 ((b.reg (R.SGATE n 1)).toNat / 2 ^ 8 % 256))
  (List.range c).map (fun k => ((b.reg (R.SGATE n (4 + 2 * k))).toNat, (b.reg (R.SGATE n (5 + 2 * k))).toNat % 256))

def Blk.sgateFlag (b : Blk) (n k : Nat) : Bool := (b.reg (R.SGATE n 1)).getLsbD k

/-- A write of word `w` of stream gate `n`: EN becoming 1 starts the list (R339). -/
def Blk.sgateWrite (b : Blk) (n w : Nat) (v : W32) : Blk :=
  let b1 := b.writeReg (R.SGATE n w) v
  if w ≠ 1 then b1
  else if b1.sgateFlag n 1 = false then { b1 with k := { b1.k with sgate := b1.k.sgate.set (fun _ => 0) n 0 } }
  else if b.sgateFlag n 1 then b1
  else
    let base := (b1.reg (R.SGATE n 0)).toNat + (b1.sgateFlag n 0).toNat * 2 ^ 32
    let st := listStart base (max 1 (b1.reg (R.SGATE n 2)).toNat) b1.now
    { b1 with k := { b1.k with sgate := b1.k.sgate.set (fun _ => 0) n (st + 1) } }

/-- The state of stream gate `n` for a frame of TS `ts` (R339): open with no IPV while EN is 0 or before the
list starts. -/
def Blk.sgateState (b : Blk) (n ts : Nat) : Nat :=
  match b.k.sgate.get (fun _ => 0) n with
  | 0 => 1
  | st + 1 =>
    let t : Int := (b.now : Int) - b.ageOf ts
    if t < st then 1
    else (listAt (b.sgateList n) ((t - st).toNat % max 1 (b.reg (R.SGATE n 2)).toNat) 0).2

/-- Tokens of meter `m` filled to the present time (R340). -/
def Blk.meterFill (b : Blk) (m : Nat) : Meter :=
  let x := b.k.meter.get (fun _ => {}) m
  let dt := b.now - x.since
  let cmax := b.fld (F.METER_CBS_CBS m) * 8000000
  let emax := b.fld (F.METER_EBS_EBS m) * 8000000
  let c := x.c + b.fld (F.METER0_CIR m) * dt
  let spill := if b.on (F.METER0_CF m) then c - cmax else 0
  { c := min cmax c, e := min emax (x.e + b.fld (F.METER_EIR_EIR m) * dt + spill), since := b.now }

def Blk.setMeter (b : Blk) (m : Nat) (x : Meter) : Blk :=
  { b with k := { b.k with meter := b.k.meter.set (fun _ => {}) m x } }

/-- A write of word `w` of meter `m`: the buckets are full after a write to CBS or EBS (R340). -/
def Blk.meterWrite (b : Blk) (m a : Nat) (v : W32) : Blk :=
  let f := b.meterFill m
  let b1 := b.writeReg a v
  let c := if a = R.METER_CBS m ∨ a = R.METER_EBS m then b1.fld (F.METER_CBS_CBS m) * 8000000 else f.c
  let e := if a = R.METER_CBS m ∨ a = R.METER_EBS m then b1.fld (F.METER_EBS_EBS m) * 8000000 else f.e
  b1.setMeter m { c := c, e := e, since := b.now }

/-- The colour that meter `m` gives a frame of `l` bytes: 0 green, 1 yellow, 2 red (R340). -/
def Blk.meterColour (b : Blk) (m l : Nat) (dei : Bool) : Nat × Blk :=
  let x := b.meterFill m
  let need := l * 8000000
  if b.on (F.METER0_MARK_RED m) then (2, b.setMeter m x)
  else if !(b.on (F.METER0_CM m) && dei) && decide (need ≤ x.c) then (0, b.setMeter m { x with c := x.c - need })
  else if need ≤ x.e then (1, b.setMeter m { x with e := x.e - need })
  else
    let b1 := b.setMeter m x
    (2, if b.on (F.METER0_MARK_RED_EN m) then (b1.put (F.METER0_MARK_RED m) 1).raise 73 m else b1)

/-- The gate of a filter (R337, R339): open or not, and the class it sets. -/
def Blk.gateCheck (b : Blk) (n ts : Nat) : Bool × Option Nat × Blk :=
  if b.sgateFlag n 3 then (false, none, b)
  else
    let st := b.sgateState n ts
    if st.testBit 0 then (true, if st.testBit 3 then some (st / 16 % 8) else none, b)
    else if b.sgateFlag n 2 then
      (false, none, (b.setReg (R.SGATE n 1) (b.reg (R.SGATE n 1) ||| 8)).raise 73 n)
    else (false, none, b)

/-- Stage 5 for handle `h` (R337): the frame with the class and DEI it leaves with, or none. -/
def Blk.filter (b : Blk) (h : Nat) (f : Frm) : Option Frm × Blk :=
  if b.on (F.SFILT0_EN h) = false then (some f, b)
  else
    let b0 := b.incWrap (F.FLT_CNT_CNT h 0)
    let max := b.fld (F.SFILT1_MAX_SDU h)
    if b.on (F.SFILT1_BLOCKED h) then (none, b0.incWrap (F.FLT_CNT_CNT h 2))
    else if max ≠ 0 ∧ max < f.len then
      (none, (if b.on (F.SFILT1_BLOCK_EN h) then b0.put (F.SFILT1_BLOCKED h) 1 else b0).incWrap (F.FLT_CNT_CNT h 2))
    else
      let g := if b.on (F.SFILT0_GATE_EN h) then b0.gateCheck (b.fld (F.SFILT0_GATE h)) f.ts else (true, none, b0)
      if g.1 = false then (none, g.2.2.incWrap (F.FLT_CNT_CNT h 3))
      else
        let f1 := { f with tc := g.2.1.getD f.tc }
        if b.on (F.SFILT0_METER_EN h) then
          let m := b.fld (F.SFILT0_METER h)
          let c := g.2.2.meterColour m f.len f.dei
          if c.1 = 2 ∨ (c.1 = 1 ∧ b.on (F.METER0_DROP_YELLOW m)) then (none, c.2.incWrap (F.FLT_CNT_CNT h 4))
          else (some { f1 with dei := f1.dei || c.1 == 1 }, c.2.incWrap (F.FLT_CNT_CNT h 1))
        else (some f1, g.2.2.incWrap (F.FLT_CNT_CNT h 1))

/-! ## Stage 6: sequence recovery -/

def Blk.srfOf (b : Blk) (n : Nat) : Srf := b.k.srf.get (fun _ => {}) n
def Blk.setSrf (b : Blk) (n : Nat) (x : Srf) : Blk :=
  { b with k := { b.k with srf := b.k.srf.set (fun _ => {}) n x } }
/-- HIST of a function (R342). -/
def Blk.srfHist (b : Blk) (n : Nat) : Nat := max 1 (min 32 (b.fld (F.SRF_CFG_HIST n)))
def Blk.srfCnt (b : Blk) (n k : Nat) (v : Nat := 1) : Blk := b.incWrap (F.SRF_CNT_CNT n k) v

/-- A frame with number `q` is accepted: PASSED, the state, the reset time (R343). -/
def Blk.srfPass (b : Blk) (n q hist : Nat) : Blk :=
  ((b.srfCnt n 0).put (F.SRF_STATE_RECOV_SEQ n) q).setSrf n { hist := hist, take := false, since := b.clk }

/-- Zeros that `d` shifts push out of a history of `h` bits. -/
def histLost (hist h d : Nat) : Nat :=
  ((List.range (min d h)).filter (fun k => !hist.testBit (h - 1 - k))).length + (d - h)

/-- Stage 6 for function `n` (R343; IEEE 802.1CB): accepted or not. -/
def Blk.recover (b : Blk) (n : Nat) (seq : Option Nat) : Bool × Blk :=
  let x := b.srfOf n
  match seq with
  | none =>
    if b.on (F.SRF_CFG_TAKE_NO_SEQ n) then (true, (b.srfCnt n 0).setSrf n { x with since := b.clk })
    else (false, b.srfCnt n 5)
  | some q =>
    let h := b.srfHist n
    let last := b.fld (F.SRF_STATE_RECOV_SEQ n)
    let up := (q + 65536 - last) % 65536
    if x.take then (true, b.srfPass n q 1)
    else if b.on (F.SRF_CFG_ALG n) then
      if up = 0 then (false, b.srfCnt n 1)
      else (true, (if up = 1 then b else b.srfCnt n 2).srfPass n q 1)
    else if 32768 ≤ up ∨ up = 0 then
      let back := (65536 - up) % 65536
      if h ≤ back then (false, b.srfCnt n 3)
      else if x.hist.testBit back then (false, b.srfCnt n 1)
      else (true, ((b.srfCnt n 2).srfCnt n 0).setSrf n { x with hist := x.hist + 2 ^ back, since := b.clk })
    else if h ≤ up then (false, b.srfCnt n 3)
    else
      let b1 := if up = 1 then b else b.srfCnt n 2
      (true, (b1.srfCnt n 4 (histLost x.hist h up)).srfPass n q ((x.hist * 2 ^ up + 1) % 2 ^ h))

/-- No frame has been accepted for RESET_MS (R343). -/
def Blk.srfReset (b : Blk) (n : Nat) : Blk :=
  let x := b.srfOf n
  if b.on (F.SRF_CFG_EN n) && !x.take && decide (x.since + max 1 (b.fld (F.SRF_CFG_RESET_MS n)) * tickMs ≤ b.clk) then
    (((b.srfCnt n 6).put (F.SRF_STATE_RECOV_SEQ n) 0xffff).setSrf n { hist := 0, take := true, since := b.clk }).raise
      74 n
  else b

/-! ## The MAC table -/

def Blk.macEnt (b : Blk) (e : Nat) : Nat × Nat := b.k.mac.get (fun _ => (0, 0)) e
def Blk.setMac (b : Blk) (e : Nat) (x : Nat × Nat) : Blk :=
  { b with k := { b.k with mac := b.k.mac.set (fun _ => (0, 0)) e x } }
/-- VALID, STATIC, HIT, MC and DEST of an entry's data (R361). -/
def macValid (d : Nat) : Bool := d.testBit 31
def macStatic (d : Nat) : Bool := d.testBit 30
def macDyn (d : Nat) : Bool := macValid d && !macStatic d
def macKey (fid mac : Nat) : Nat := fid * 2 ^ 48 + mac

/-- The entries of a key's bucket. -/
def Blk.macWays (b : Blk) (key : Nat) : List Nat :=
  let bk := b.bucket (key / 2 ^ 48) (key % 2 ^ 48) % 8192
  (List.range 4).map (fun w => 4 * bk + w)

/-- The entry that holds a key. -/
def Blk.macFind (b : Blk) (key : Nat) : Option Nat :=
  (b.macWays key).find? (fun e => (b.macEnt e).1 == key && macValid (b.macEnt e).2)

/-- A free way of a key's bucket. -/
def Blk.macFree (b : Blk) (key : Nat) : Option Nat := (b.macWays key).find? (fun e => !macValid (b.macEnt e).2)

/-- The dynamic entries for which `p` holds of the data are removed. -/
def Blk.macDrop (b : Blk) (p : Nat → Bool) : Blk :=
  { b with k := { b.k with mac := b.k.mac.filter (fun e => !(macDyn e.2.2 && p e.2.2)) } }

/-- A good frame's source address is learned (R332). -/
def Blk.learn (b : Blk) (p vid sa : Nat) : Blk :=
  if b.swcOff || isGroup sa || b.on (F.FWD_PORT_LEARN_DIS p) || b.on (F.VLAN_CFG_LEARN_DIS vid) then b
  else
    let key := macKey (b.fld (F.VLAN_CFG_FID vid)) sa
    match b.macFind key with
    | some e =>
      let d := (b.macEnt e).2
      if macStatic d then (if d % 1024 = p ∧ d.testBit 28 = false then b else b.incWrap F.STATIC_MOVE_STATIC_MOVE)
      else b.setMac e (key, 2 ^ 31 + 2 ^ 29 + p)
    | none =>
      match b.macFree key with
      | some e => b.setMac e (key, 2 ^ 31 + 2 ^ 29 + p)
      | none => (b.incWrap F.LEARN_FAIL_LEARN_FAIL).raise 72 p

/-- AGE seconds have passed since the last sweep (R333). -/
def Blk.sweep (b : Blk) : Blk :=
  let age := b.fld F.FWD_AGE_AGE
  if b.swcOff || age == 0 || decide (b.clk < b.k.sweepAt + age * tickSec) then b
  else
    let b1 := b.macDrop (fun d => !d.testBit 29)
    { b1 with k := { b1.k with
      sweepAt := b.clk
      mac := b1.k.mac.map (fun e => (e.1, (e.2.1, if e.2.2.testBit 29 then e.2.2 - 2 ^ 29 else e.2.2))) } }

/-- The command OP with INDEX (R361): RESULT, INDEX, and the key and MAC_DATA it returns; the table. -/
def Blk.macOp (b : Blk) (op ix : Nat) : (Nat × Nat × Option (Nat × Nat)) × Blk :=
  let key := b.fld F.MAC_KEY_HI_FID * 2 ^ 48 + b.fld F.MAC_KEY_HI_MAC * 2 ^ 32 + b.fld F.MAC_KEY_LO_MAC
  let data := (b.reg R.MAC_DATA).toNat
  match op with
  | 1 => ((0, ix, some (b.macEnt ix)), b)
  | 2 => ((0, ix, none), b.setMac ix (key, data))
  | 3 =>
    match b.macFind key with
    | some e => ((0, e, some (b.macEnt e)), b)
    | none => ((1, ix, none), b)
  | 4 =>
    match (b.macFind key).orElse (fun _ => b.macFree key) with
    | some e => ((0, e, none), b.setMac e (key, data ||| 2 ^ 31))
    | none => ((2, ix, none), b)
  | 5 =>
    match b.macFind key with
    | some e => ((0, e, none), b.setMac e (0, 0))
    | none => ((1, ix, none), b)
  | 6 =>
    let p := ix % 32
    if p = 31 then ((0, ix, none), b.macDrop (fun _ => true))
    else if p < 29 then ((0, ix, none), b.macDrop (fun d => d % 1024 == p && !d.testBit 28))
    else ((3, ix, none), b)
  | _ => ((3, ix, none), b)

/-- A write of MAC_CMD (R361): the command runs, at most 1 µs. While one runs, a write is ignored. -/
def Blk.macCmd (b : Blk) (op ix : Nat) : Blk :=
  if b.on F.MAC_CMD_BUSY then b
  else
    let r := b.macOp op ix
    ({ r.2 with k := { r.2.k with macRes := some r.1 } }.put F.MAC_CMD_INDEX ix).put F.MAC_CMD_BUSY 1

/-- The command completes (R361). -/
def Blk.macDone (b : Blk) : Blk :=
  match b.k.macRes with
  | none => b
  | some (r, ix, ret) =>
    let b1 := (({ b with k := { b.k with macRes := none } }.put F.MAC_CMD_BUSY 0).put F.MAC_CMD_RESULT r).put
      F.MAC_CMD_INDEX ix
    match ret with
    | none => b1
    | some (key, d) =>
      (((b1.put F.MAC_KEY_LO_MAC key).put F.MAC_KEY_HI_MAC (key / 2 ^ 32)).put F.MAC_KEY_HI_FID
        (key / 2 ^ 48)).setReg R.MAC_DATA (BitVec.ofNat 32 d)

/-- A write of FWD_CTL: a change of SEED empties the dynamic entries (R359). -/
def Blk.fwdCtl (b : Blk) (v : W32) : Blk :=
  let b1 := b.writeReg R.FWD_CTL v
  if b1.fld F.FWD_CTL_SEED = b.fld F.FWD_CTL_SEED then b1 else b1.macDrop (fun _ => true)

/-! ## Stages 7 to 10 -/

/-- Where stage 7 sends a frame (R331). -/
inductive Dest where
  | port (p : Nat)
  | group (g : Nat)
  | drop
deriving DecidableEq, Repr

/-- Stage 7 for a destination address (R331, R333). -/
def Blk.destOf (b : Blk) (p vid da : Nat) : Dest × Blk :=
  let flood := Dest.group (b.fld (F.VLAN_CFG_FLOOD_MCG vid))
  if da = broadcast then (flood, b)
  else
    match b.macFind (macKey (b.fld (F.VLAN_CFG_FID vid)) da) with
    | some e =>
      let x := b.macEnt e
      let b1 := b.setMac e (x.1, x.2 ||| 2 ^ 29)
      if x.2.testBit 28 then (.group (x.2 % 1024), b1)
      else if x.2 % 1024 = p then (.drop, b1)
      else (.port (x.2 % 1024), b1)
    | none =>
      let stop := if isGroup da then b.on (F.VLAN_CFG_UNK_MC_DROP vid) else b.on (F.VLAN_CFG_UNK_UC_DROP vid)
      (if stop then .drop else flood, b)

/-- Does session `s` select a frame (R349)? -/
def Blk.csSelects (b : Blk) (s : Nat) (f : Frm) : Bool :=
  let src := b.fld (F.CS_CFG_SRC s)
  b.on (F.CS_CFG_EN s) && (match b.fld (F.CS_CFG_KIND s) with
    | 1 => f.inp == src
    | 2 => (if f.mc = 0 then f.dst == src else f.mc.testBit src) && !f.csOnly
    | 3 => f.stream == some src
    | _ => false)

def Blk.csSeenOf (b : Blk) (s : Nat) : Nat := b.k.csSeen.get (fun _ => 0) s

/-- Stage 10 (R349): every selecting session counts the frame; the lowest-numbered of them alone may copy it. -/
def Blk.coreSample (b : Blk) (f : Frm) : Option (Nat × Nat) × Blk :=
  let sel := (List.range 4).filter (fun s => b.csSelects s f)
  let b1 := sel.foldl (fun x s =>
    { x with k := { x.k with csSeen := x.k.csSeen.set (fun _ => 0) s (b.csSeenOf s + 1) } }) b
  match sel with
  | [] => (none, b1)
  | s :: _ =>
    let n := b.csSeenOf s + 1
    (if n % max 1 (b.fld (F.CS_N_N s)) = 0 then some (s, n) else none, b1)

/-- A write of CS_CFG: EN becoming 1 starts the count (R349). -/
def Blk.csWrite (b : Blk) (s : Nat) (v : W32) : Blk :=
  let b1 := b.writeReg (R.CS_CFG s) v
  if b1.on (F.CS_CFG_EN s) && !b.on (F.CS_CFG_EN s) then
    { b1 with k := { b1.k with csSeen := b1.k.csSeen.set (fun _ => 0) s 0 } }
  else b1

/-- Stage 10, then the fabric (R349, R350): a selected frame that has no destination goes to DST of its session. -/
def Blk.stage10 (b : Blk) (f : Frm) : Blk :=
  let c := b.coreSample f
  if f.csOnly then
    match c.1 with
    | none => c.2.hostEnd f
    | some (s, n) =>
      if c.2.fld (F.CS_CFG_DST s) < 29 then
        c.2.fabAccept { f with dst := c.2.fld (F.CS_CFG_DST s), tc := c.2.fld (F.CS_CFG_TC s), cs := some (s, n) }
      else c.2.hostEnd f
  else c.2.fabAccept { f with cs := c.1 }

/-- Stage 9 (R341), then stage 10. -/
def Blk.stage9 (b : Blk) (f : Frm) : Blk :=
  let g := match f.stream with
    | some h =>
      let n := b.fld (F.SFILT2_SGF h)
      if b.on (F.SFILT2_SGF_EN h) && b.on (F.SGF0_EN n) && !f.csOnly then
        (some (n, b.fld (F.SGF0_GEN_SEQ n)), b.put (F.SGF0_GEN_SEQ n) (b.fld (F.SGF0_GEN_SEQ n) + 1))
      else (none, b)
    | none => (none, b)
  g.2.stage10 { f with gen := g.1 }

/-- Stages 7 and 8 (R331, R334). -/
def Blk.stage7 (b : Blk) (f : Frm) (da : Nat) : Blk :=
  let r := b.destOf f.inp f.vid da
  match r.1 with
  | .drop => (r.2.incWrap F.SAME_PORT_SAME_PORT).hostEnd f
  | .port d =>
    if d < 29 then r.2.stage9 { f with dst := d } else (r.2.incWrap F.NO_DEST_NO_DEST).hostEnd f
  | .group g =>
    let set := b.fld (F.MCG_MASK g) &&& b.fld (F.VLAN_MEMBER_MEMBER f.vid)
    let mc := if set.testBit f.inp then set - 2 ^ f.inp else set
    match (List.range 29).find? (fun d => mc.testBit d) with
    | some a => r.2.stage9 { f with dst := a, mc := mc, mcg := g }
    | none => (r.2.incWrap F.NO_DEST_NO_DEST).stage9 { f with csOnly := true }

/-- Must a frame wait until it has arrived whole and good (R324)? -/
def Blk.mustWait (b : Blk) (p : Nat) (x : Parsed) : Bool :=
  x.rtag.isSome && (match b.vlanOf p x with
    | some (vid, _, _) => (b.streamOf vid x).any (fun h => b.on (F.SFILT2_SRF_EN h) && b.on (F.SRF_CFG_EN (b.fld (F.SFILT2_SRF h))))
    | none => false)

/-- The engine judges a frame of `l` bytes at input `p` (R325). The second component says what is to be
learned when the port reports the frame good: VID and source address. A frame that waits for its end and ends bad
goes no further (R324), nor does any while the engine is off (R367). -/
def Blk.judgeFrame (b : Blk) (p : Nat) (x : Rx) (l : Nat) : Blk × Option (Nat × Nat) :=
  let f : Frm :=
    { id := 0, inp := p, data := x.data, whole := x.whole, bad := x.bad, len := l, ts := x.ts, host := x.host,
      lt := x.lt }
  let h := parse x.data
  if b.swcOff || (x.bad && b.mustWait p h) then (b.hostEnd f, none)
  else if linkLocal h.da then
    let b1 := b.incWrap F.FWD_TRAP_TRAP
    let t := b.fld F.FWD_CTL_TRAP_PORT
    (b1.stage10 { f with dst := t, tc := 7, raw := true, csOnly := 29 ≤ t }, none)
  else
    match b.vlanOf p h with
    | none => ((b.incWrap F.VLAN_DROP_VLAN_DROP).hostEnd f, none)
    | some (vid, pcp, dei) =>
      let st := b.streamOf vid h
      let f1 := { f with vid := vid, pcp := pcp, dei := dei, tc := b.tcOf p pcp, stream := st }
      let r := match st with
        | some k => b.filter k f1
        | none => (some f1, b)
      match r.1 with
      | none => (r.2.hostEnd f, none)
      | some f2 =>
        let q := match st with
          | some k =>
            let n := r.2.fld (F.SFILT2_SRF k)
            if r.2.on (F.SFILT2_SRF_EN k) && r.2.on (F.SRF_CFG_EN n) then
              let z := r.2.recover n h.rtag
              (z.1, z.1 && r.2.on (F.SRF_CFG_STRIP n), z.2)
            else (true, false, r.2)
          | none => (true, false, r.2)
        if q.1 then (q.2.2.stage7 { f2 with strip := q.2.1 } h.da, some (vid, h.sa)) else (q.2.2.hostEnd f, none)

/-- The frame that waits first at input `p` is judged and, being whole and good, learned (R323, R332). -/
def Blk.judgeFirst (b : Blk) (p : Nat) : Blk :=
  match b.lookOf p with
  | [] => b
  | x :: l =>
    let r := (b.setLook p l).judgeFrame p x (x.data.length + 4)
    match r.2 with
    | some (vid, sa) => if x.bad then r.1 else r.1.learn p vid sa
    | none => r.1

/-- The inputs whose first waiting frame the engine judges before one of input `p` whose decision point is tick `t`:
its decision point was earlier, or on the same tick at a lower-numbered input (R323). -/
def Blk.lookBefore (b : Blk) (p t : Nat) : List Nat :=
  (List.range 29).filter (fun q =>
    match b.lookOf q with
    | [] => false
    | y :: _ => y.since < t || (y.since == t && q < p))

/-- The waiting frames that come before one of input `p` at tick `t` are judged, at most `n` of them (R323). -/
def Blk.judgeUntil (b : Blk) (p t : Nat) : Nat → Blk
  | 0 => b
  | n + 1 =>
    match b.lookBefore p t with
    | [] => b
    | l =>
      let at' (q : Nat) : Nat := ((b.lookOf q).head?.map (·.since)).getD 0
      let first := l.foldl (fun m q => if at' q < at' m then q else m) (l.headD p)
      (b.judgeFirst first).judgeUntil p t n

/-- How many frames wait for the engine. -/
def Blk.lookLen (b : Blk) : Nat := ((List.range 29).map (fun q => (b.lookOf q).length)).sum

/-- The frame that waits first at input `p` is judged after all that come before it (R323). -/
def Blk.judgeWaiting (b : Blk) (p : Nat) : Blk :=
  match b.lookOf p with
  | [] => b
  | x :: _ => (b.judgeUntil p x.since b.lookLen).judgeFirst p

/-! ## CG -/

/-- The tunnel with RX_EN whose STREAM_ID is `sid`, in wire order (R356). -/
def Blk.tunnelFor (b : Blk) (sid : List Byte) : Option Nat :=
  (List.range 64).find? (fun t => (b.fld (F.TUN4_TFLAGS t)).testBit 1 && (b.tunBytes t).drop 8 == sid)

/-- The ACF messages of a byte string, `none` if their lengths do not add up. -/
def acfSplit : Nat → List Byte → Option (List (List Byte))
  | 0, l => if l = [] then some [] else none
  | n + 1, l =>
    if l = [] then some []
    else
      let k := beAt l 0 2 % 512 * 4
      if k = 0 ∨ l.length < k then none
      else (acfSplit n (l.drop k)).map (fun r => l.take k :: r)

/-- The message that an ACF message carries, with SRC of tunnel `t` (R355, R356). Its time is message_timestamp, the
end of the frame on its source bus, where mtv says that there is one (R432); else `tb1`, when CG received it (assumption
105). -/
def acfParse (t : Nat) (l : List Byte) (tb1 : Nat) : Option GwMsg :=
  let ty := beAt l 0 2 / 512
  let fl := fieldAt l 2 1
  let pad := fl / 64
  let time := if fl.testBit 5 then beAt l 4 8 else tb1
  let frame (o : Nat) (id : Nat) : CanFrame :=
    let data := (l.drop o).take (l.length - o - pad)
    { fmt := if fl.testBit 1 then 1 else 0, ide := fl.testBit 3, rtr := fl.testBit 4, brs := fl.testBit 2,
      esi := fl.testBit 0, id := id, dlc := (fdLen data.length).2, data := data }
  match ty with
  | 1 => if 16 ≤ l.length then
      some ⟨0x40 + t, fieldAt l 3 1 % 32, false, frame 16 (beAt l 12 4 % 2 ^ 29), time⟩ else none
  | 2 => if 8 ≤ l.length then
      some ⟨0x40 + t, fieldAt l 3 1 % 32, false, frame 8 (beAt l 4 4 % 2 ^ 29), tb1⟩ else none
  | 3 => if 12 ≤ l.length then
      let data := (l.drop 12).take (l.length - 12 - pad)
      some ⟨0x40 + t, fl % 32, true, { fmt := 0, id := fieldAt l 3 1 % 64, dlc := data.length, data := data }, time⟩
      else none
  | _ => none

/-- CG takes the frame that output 28 has delivered first (R356). -/
def Blk.cgReceive (b : Blk) : Blk :=
  match b.k.fab.out.get (fun _ => []) 28 with
  | [] => b
  | (l, _, _, _) :: rest =>
    let b0 := b.setFab { b.k.fab with out := b.k.fab.out.set (fun _ => []) 28 rest }
    let h := parse l
    let body := l.drop (h.off + 2)
    let w := beAt body 0 4
    let len := w / 2 ^ 8 % 2 ^ 11
    let bad := (b0.incWrap F.NTSCF_BAD_NTSCF_BAD).raise 78
    if h.ety ≠ 0x22f0 ∨ w / 2 ^ 24 ≠ 0x82 ∨ (body.drop 12).length < len then bad
    else
      match b0.tunnelFor ((body.drop 4).take 8), acfSplit 2048 ((body.drop 12).take len) with
      | some t, some ms =>
        let seq := w % 256
        let gap := (seq + 256 - b.fld (F.TUN4_RX_SEQ t)) % 256
        let b1 := (b0.incWrap (F.TUN_CNT_CNT t 2) gap).put (F.TUN4_RX_SEQ t) (seq + 1)
        let b2 := (ms.take 16).foldl (fun x m =>
          match acfParse t m x.gptp with
          | some g => (x.incWrap (F.TUN_CNT_CNT t 1)).gateway g
          | none => x.incWrap F.ACF_SKIP_CNT) b1
        b2.incWrap F.ACF_SKIP_CNT (ms.length - 16)
      | _, _ => bad

/-! ## Meanings -/

/-- AGE seconds have passed (R333). -/
def execAgingSweep (s : State) : Host.Outcome State Fault Refusal := onBlk true s Blk.sweep

/-- RESET_MS have passed on recovery function `n` (R343). -/
def execRecoveryFunctionReset (n : Nat) (s : State) : Host.Outcome State Fault Refusal :=
  onBlk (n < 512) s (fun b => b.srfReset n)

/-- MAC_CMD with OP 1 (R361). -/
def execMacReadEntry (i : Init) (ix : Nat) (s : State) : Host.Outcome State Fault Refusal :=
  onBlk (ix < 32768) s (fun b => b.onWrite i R.MAC_CMD (F.MAC_CMD_OP.word 1 ||| F.MAC_CMD_INDEX.word ix) (fun b =>
    b.macCmd 1 ix))
/-- MAC_CMD with OP 2 (R361). -/
def execMacWriteEntry (i : Init) (ix : Nat) (s : State) : Host.Outcome State Fault Refusal :=
  onBlk (ix < 32768) s (fun b => b.onWrite i R.MAC_CMD (F.MAC_CMD_OP.word 2 ||| F.MAC_CMD_INDEX.word ix) (fun b =>
    b.macCmd 2 ix))
/-- MAC_CMD with OP 3 (R361). -/
def execMacSearch (i : Init) (ix : Nat) (s : State) : Host.Outcome State Fault Refusal :=
  onBlk (ix < 32768) s (fun b => b.onWrite i R.MAC_CMD (F.MAC_CMD_OP.word 3 ||| F.MAC_CMD_INDEX.word ix) (fun b =>
    b.macCmd 3 ix))
/-- MAC_CMD with OP 4 (R361). -/
def execMacInsert (i : Init) (ix : Nat) (s : State) : Host.Outcome State Fault Refusal :=
  onBlk (ix < 32768) s (fun b => b.onWrite i R.MAC_CMD (F.MAC_CMD_OP.word 4 ||| F.MAC_CMD_INDEX.word ix) (fun b =>
    b.macCmd 4 ix))
/-- MAC_CMD with OP 5 (R361). -/
def execMacDelete (i : Init) (ix : Nat) (s : State) : Host.Outcome State Fault Refusal :=
  onBlk (ix < 32768) s (fun b => b.onWrite i R.MAC_CMD (F.MAC_CMD_OP.word 5 ||| F.MAC_CMD_INDEX.word ix) (fun b =>
    b.macCmd 5 ix))
/-- MAC_CMD with OP 6 (R361). -/
def execMacFlushPort (i : Init) (ix : Nat) (s : State) : Host.Outcome State Fault Refusal :=
  onBlk (ix < 32768) s (fun b => b.onWrite i R.MAC_CMD (F.MAC_CMD_OP.word 6 ||| F.MAC_CMD_INDEX.word ix) (fun b =>
    b.macCmd 6 ix))
/-- MAC_CMD with OP 0 or 7 to 15 (R361). -/
def execMacCmdInvalid (i : Init) (ix : Nat) (s : State) : Host.Outcome State Fault Refusal :=
  onBlk (ix < 32768) s (fun b => b.onWrite i R.MAC_CMD (F.MAC_CMD_OP.word 0 ||| F.MAC_CMD_INDEX.word ix) (fun b =>
    b.macCmd 0 ix))
/-- The MAC table command completes (R361). -/
def execMacCmdComplete (s : State) : Host.Outcome State Fault Refusal := onBlk true s Blk.macDone

/-- A write of FWD_CTL (R359). -/
def execSeedWrite (i : Init) (v : W32) (s : State) : Host.Outcome State Fault Refusal :=
  onBlk true s (fun b => b.onWrite i R.FWD_CTL v (fun b => b.fwdCtl v))

/-- A write of 1 to QBV_CTL.CHANGE of port `p` (R347). -/
def execQbvChange (i : Init) (p : Nat) (s : State) : Host.Outcome State Fault Refusal :=
  onBlk (p < 29) s (fun b => b.onWrite i (R.QBV_CTL p) ((F.QBV_CTL_CHANGE p).word 1) (fun b => b.qbvChange p))

/-- CG receives a frame (R356). -/
def execCgFrameReceive (s : State) : Host.Outcome State Fault Refusal := onBlk true s Blk.cgReceive

end Sys2Proof.Machine
end

