-- ==== Sys2Proof/Machine/Time.lean ====
section
/-!
DEFINITION. Machine/Time.lean: the time bases, captures, pulse outputs, PTP timestamps and the Tally (R426
to R448), and the passing of one tick.
-/

namespace Sys2Proof.Machine

/-! ## The counters -/

/-- The extended time of base `x` in ns (R426). -/
def Blk.ext (b : Blk) (x : Nat) : Nat := if x = 0 then b.now % 2 ^ 64 else b.k.tb1 / 2 ^ 32 % 2 ^ 64

/-- The 33-bit time of base `x`. -/
def Blk.time33 (b : Blk) (x : Nat) : Nat := b.ext x % 2 ^ 33

/-- R435: `t` lies behind `now`, both 33 bits; a time equal to `now` lies ahead. -/
def behind33 (t now : Nat) : Bool := 2 ^ 32 ≤ (t + 2 ^ 33 - now) % 2 ^ 33

/-- `t` lies ahead of `now` (R435) and is not `now` itself: it has not fallen due yet. -/
def ahead33 (t now : Nat) : Bool := 0 < (t + 2 ^ 33 - now) % 2 ^ 33 && (t + 2 ^ 33 - now) % 2 ^ 33 < 2 ^ 32

/-- The sum NOM + ADJ of base `x` in ppb, before the clamp (R427). -/
def Blk.tbTrim (b : Blk) (x : Nat) : Int :=
  toSigned 21 (b.fld (F.TB_NOM_NOM x)) + toSigned 32 (b.fld (F.TB_ADJ_ADJ x))

/-- A value limited to ±`m`. -/
def clampTo (m : Nat) (v : Int) : Int := max (-(m : Int)) (min m v)

/-- The applied increment of base `x` in units of 2^-32 ns (R427). -/
def Blk.tbInc (b : Blk) (x : Nat) : Nat :=
  (roundDiv (2 ^ 33 * (1000000000 + clampTo 500000 (b.tbTrim x))) 1000000000).toNat

def Blk.servoOf (b : Blk) (x : Nat) : Servo := b.k.servo.get (fun _ => {}) x
def Blk.setServo (b : Blk) (x : Nat) (v : Servo) : Blk :=
  { b with k := { b.k with servo := b.k.servo.set (fun _ => {}) x v } }

/-- TB_INC, INC_INT and CLAMP follow the increment (R427). -/
def Blk.tbSync (b : Blk) (x : Nat) : Blk :=
  let c := b.tbTrim x < -500000 || 500000 < b.tbTrim x
  let inc := b.tbInc x
  let b1 := ((b.put (F.TB_INC_FRAC x) inc).put (F.TB_STAT_INC_INT x) (inc / 2 ^ 32)).putB (F.TB_STAT_CLAMP x) c
  if c && !b.on (F.TB_STAT_CLAMP x) then
    b1.setServo x { b.servoOf x with clampAt := b.clk, told := false }
  else b1

/-- One tick of 2 ns passes (R19, R20, R93, R100, R426, R648): the local ticks, TB0 on KC or UH, TB1
while KC is present, the RTC, and ALIVE while it toggles is moved by `PIN_READBACK`. -/
def Blk.tick (b : Blk) : Blk :=
  let b1 := { b with
    clk := b.clk + 1
    tb0 := if b.pwr.ready && !b.asleep then b.tb0 + b.tbInc 0 else b.tb0
    k := if b.kc == .down || b.asleep then b.k else { b.k with tb1 := (b.k.tb1 + b.tbInc 1) % 2 ^ 96 } }
  if b.pwr.vkeep then b1.rtcTick else b1

/-- NS of base `x` wraps on the next tick. -/
def Blk.wrapsNext (b : Blk) (x : Nat) : Bool :=
  let v := if x = 0 then b.tb0 else b.k.tb1
  2 ^ 64 ≤ v % 2 ^ 64 + b.tbInc x

/-! ## Pulse outputs -/

def Blk.pulseOf (b : Blk) (p : Nat) : Pulse := b.k.pulse.get (fun _ => {}) p
def Blk.setPulse (b : Blk) (p : Nat) (v : Pulse) : Blk :=
  { b with k := { b.k with pulse := b.k.pulse.set (fun _ => {}) p v } }

/-- The first of `t`, `t` + `per`, `t` + 2 × `per` and so on that does not lie behind `now`, `t` behind it (R438). -/
def firstAhead (t per now : Nat) : Nat := (t + ((now + 2 ^ 33 - t) % 2 ^ 33 + per - 1) / per * per) % 2 ^ 33

/-- The first of `t`, `t` + `per`, `t` + 2 × `per` and so on that comes after `now`. -/
def nextAhead (t per now : Nat) : Nat :=
  if ahead33 t now then t
  else (t + ((now + 2 ^ 33 - t) % 2 ^ 33 / per + 1) * per) % 2 ^ 33

/-- The time base that output `p` runs on. -/
def Blk.poBase (b : Blk) (p : Nat) : Nat := b.fld (F.PO_CTL_TB p)

/-- A write of PO_CTL (R438). -/
def Blk.poWrite (b : Blk) (p : Nat) (v : W32) : Blk :=
  let en := (F.PO_CTL_EN p).get v == 1
  if b.on (F.PO_CTL_EN p) then
    if en then b else (b.put (F.PO_CTL_EN p) 0).setPulse p {}
  else
    let b1 := b.writeReg (R.PO_CTL p) v
    let per := b.fld (F.PO_PERIOD_PERIOD p)
    let wid := b.fld (F.PO_WIDTH_WIDTH p)
    let start := b1.fld (F.PO_CTL_START_EP p) * 2 ^ 32 + b.fld (F.PO_START_START p)
    let now := b.time33 (b1.poBase p)
    if !en then b1
    else if wid = 0 ∨ (per ≠ 0 ∧ per ≤ wid) then
      ((b1.put (F.PO_CTL_EN p) 0).put (F.PO_CTL_CFG_ERR p) 1).raise 167 p
    else if !behind33 start now then b1.setPulse p { next := some start }
    else if per ≠ 0 then b1.setPulse p { next := some (firstAhead start per now) }
    else (b1.put (F.PO_CTL_LATE p) 1).setPulse p {}

/-- Output `p` rises (R438). -/
def Blk.poRise (b : Blk) (p : Nat) : Blk :=
  match (b.pulseOf p).next with
  | none => b
  | some t =>
    let now := b.time33 (b.poBase p)
    let per := b.fld (F.PO_PERIOD_PERIOD p)
    if ahead33 t now then b
    else b.setPulse p {
      next := if per = 0 then none else some (nextAhead t per now)
      high := true
      fallAt := ((b.pulseOf p).dueAt.getD t + b.fld (F.PO_WIDTH_WIDTH p)) % 2 ^ 33 }

/-- Output `p` falls after WIDTH (R438). -/
def Blk.poFall (b : Blk) (p : Nat) : Blk :=
  let x := b.pulseOf p
  if x.high && !ahead33 x.fallAt (b.time33 (b.poBase p)) then b.setPulse p { x with high := false } else b

/-- The level of TPULSE `p`. -/
def Blk.poLevel (b : Blk) (p : Nat) : Bool := (b.pulseOf p).high != b.on (F.PO_CTL_POL p)

/-- The first point of the grid of `t` with period `per` that comes after `now` (R430). -/
def gridAhead (t per now : Nat) : Nat :=
  if ahead33 t now then (now + ((t + 2 ^ 33 - now) % 2 ^ 33 - 1) % per + 1) % 2 ^ 33 else nextAhead t per now

/-- Base `x` has stepped: an output that has begun its periodic pulses continues from the new time without
acting for the skipped instants; a START that was skipped falls due (R430, R438). -/
def Blk.poStep (b : Blk) (x : Nat) : Blk :=
  [0, 1].foldl (fun y p =>
    let per := b.fld (F.PO_PERIOD_PERIOD p)
    let start := b.fld (F.PO_CTL_START_EP p) * 2 ^ 32 + b.fld (F.PO_START_START p)
    match (b.pulseOf p).next with
    | some t =>
      if b.poBase p ≠ x then y
      else if per ≠ 0 ∧ t ≠ start then
        y.setPulse p { b.pulseOf p with next := some (gridAhead t per (b.time33 x)) }
      else if behind33 t (b.time33 x) then y.setPulse p { b.pulseOf p with dueAt := some (b.time33 x) }
      else y
    | none => y) b

/-! ## Servo and steps -/

/-- Base `x` steps by `off` ns (R429, R430); the timer comparisons that TB0 passes become pending at once (R470). -/
def Blk.tbStepBy (b : Blk) (x : Nat) (off : Int) : Blk :=
  let b1 : Blk := if x = 0 then { b with tb0 := b.tb0 + off.toNat * 2 ^ 32 }
    else { b with k := { b.k with tb1 := ((b.k.tb1 + off * 2 ^ 32) % 2 ^ 96).toNat } }
  let b2 := (b1.poStep x).put (F.TB_STAT_STEPPED x) 1
  if x = 1 then b2.raise 163 else b2.timers

/-- A step of base `x` by `off` ns is called for (R429). -/
def Blk.tbStep (b : Blk) (x : Nat) (off : Int) : Blk :=
  if x = 0 ∧ off < 0 then (b.put (F.TB_STAT_STEP_REF 0) 1).raise 162
  else b.tbStepBy x off

/-- The servo of base `x` uses the sample `off` (R428). -/
def Blk.servo (b : Blk) (x : Nat) (off : Int) : Blk :=
  let sv := b.servoOf x
  let i := clampTo (500000 * 1024) (sv.i + b.fld (F.TB_SERVO_KI x) * off)
  let adj := clampTo 500000 (roundDiv (b.fld (F.TB_SERVO_KP x) * 16 * off + i) 1024)
  ((b.setServo x { sv with i := i }).put (F.TB_ADJ_ADJ x) (ofSigned 32 adj)).tbSync x

/-- SYNC counts the sample `off` (R428). -/
def Blk.syncCount (b : Blk) (x : Nat) (off : Int) : Blk :=
  let sv := b.servoOf x
  if off.natAbs ≤ b.fld (F.TB_THR_SYNC_THR x) then
    let b1 := b.setServo x { sv with good := min 4 (sv.good + 1) }
    if 3 ≤ sv.good then b1.put (F.TB_STAT_SYNC x) 1 else b1
  else (b.setServo x { sv with good := 0 }).put (F.TB_STAT_SYNC x) 0

/-- An offset sample of base `x` (R428, R429). -/
def Blk.tbSample (b : Blk) (x : Nat) (off : Int) : Blk :=
  let thr := b.fld (F.TB_THR_STEP_THR x) * 1000
  let b1 := b.syncCount x off
  if thr ≠ 0 ∧ thr < off.natAbs then
    if x = 0 ∧ off < 0 then (b1.tbStep x off).servo x off else b1.tbStep x off
  else b1.servo x off

/-- A write of TB_OFFS of base `x` (R428). -/
def Blk.offsWrite (b : Blk) (x : Nat) (v : W32) : Blk :=
  if b.on (F.TB_SERVO_EN x) && b.fld (F.TB_SERVO_SRC x) == 1 then b.tbSample x v.toInt else b

/-- TB_CMD.SET of base `x` (R429); it has given the base time, so SYNC is 1 until a sample says otherwise (R431,
DEDUCED, assumption 105). -/
def Blk.tbSet (b : Blk) (x : Nat) : Blk :=
  if x = 1 then
    let t := b.fld (F.TB_SET_HI_SET 1) * 2 ^ 32 + b.fld (F.TB_SET_LO_SET 1)
    ((({ b with k := { b.k with tb1 := t * 2 ^ 32 } }.poStep 1).put (F.TB_STAT_STEPPED 1) 1).put (F.TB_STAT_SYNC 1)
      1).raise 163
  else b

/-- CLAMP of base `x` has been 1 for 1 s (R428). -/
def Blk.clampLong (b : Blk) (x : Nat) : Blk :=
  let sv := b.servoOf x
  if b.on (F.TB_STAT_CLAMP x) && !sv.told && sv.clampAt + tickSec ≤ b.clk then
    (b.setServo x { sv with told := true }).raise (160 + x)
  else b

/-! ## Captures -/

/-- The capture uncertainty of a source in half ns (R436); none for a code that captures nothing. -/
def capU (src : Nat) : Option Nat :=
  if src < 2 then some 8 else if src < 4 then some 4
  else if 0x10 ≤ src ∧ src < 0x20 then some 29
  else if 0x20 ≤ src ∧ src < 0x2c then some 8
  else none

/-- Does `e` lie in (c − U, c + U], U in half ns, all 33 bits (R437)? -/
def nearEdge (e c u : Nat) : Bool :=
  let d := (e + 2 ^ 33 - c) % 2 ^ 33
  2 * d ≤ u || 2 ^ 34 < 2 * d + u

/-- R437: does `c` lie in the window [open, close)? -/
def inWindow (c op cl : Nat) : Bool := (c + 2 ^ 33 - op) % 2 ^ 33 < (cl + 2 ^ 33 - op) % 2 ^ 33

/-- Channel `n` captures an event whose uncertainty is `u` half ns (R436, R437). -/
def Blk.capture (b : Blk) (n u : Nat) : Blk :=
  let c := b.time33 0
  let c1 := b.time33 1
  let win := b.on (F.CAP_CFG_WIN_EN n)
  let op := b.fld (F.CAP_CFG_OPEN_EP n) * 2 ^ 32 + b.fld (F.WIN_OPEN_T n)
  let cl := b.fld (F.CAP_CFG_CLOSE_EP n) * 2 ^ 32 + b.fld (F.WIN_CLOSE_T n)
  let ovr := b.on (F.CAP_FLAGS_VALID n)
  let b1 := (((b.put (F.CAP_TB0_TS0 n) c).put (F.CAP_TB1_TS1 n) c1).put (F.CAP_FLAGS_EP0 n) (c / 2 ^ 32)).put
    (F.CAP_FLAGS_EP1 n) (c1 / 2 ^ 32)
  let b2 := ((b1.putB (F.CAP_FLAGS_IN n) (win && inWindow c op cl)).putB (F.CAP_FLAGS_BOUNDARY n)
    (win && (nearEdge op c u || nearEdge cl c u))).put (F.CAP_FLAGS_VALID n) 1
  let b3 := if ovr then (b2.put (F.CAP_FLAGS_OVR n) 1).raise 166 n else b2
  [0, 1].foldl (fun y x =>
    if b.on (F.TB_SERVO_EN x) && b.fld (F.TB_SERVO_SRC x) == 2 && b.fld (F.TB_SERVO_CAP x) == n then
      let t : Int := b.ext x
      y.tbSample x (roundDiv t 1000000000 * 1000000000 - t)
    else y) b3

/-- An event of capture source `src`, a rising edge or not (R436). -/
def Blk.captureEvent (b : Blk) (src : Nat) (rise : Bool) : Blk :=
  match capU src with
  | none => b
  | some u =>
    (List.range 16).foldl (fun x n =>
      let e := b.fld (F.CAP_CFG_EDGE n)
      if b.fld (F.CAP_CFG_SRC n) = src ∧ (2 ≤ e ∨ (e = 0 ↔ rise = true)) then x.capture n u else x) b

/-! ## PTP timestamps -/

def Blk.ptsOf (b : Blk) (p : Nat) : List Pts := b.k.pts.get (fun _ => []) p

/-- The FIFO of port `p` becomes `l`, and the head registers show it (R446). -/
def Blk.setPts (b : Blk) (p : Nat) (l : List Pts) : Blk :=
  let b1 := { b with k := { b.k with pts := b.k.pts.set (fun _ => []) p l } }
  match l with
  | [] => ((b1.setReg (R.PTS_TB0 p) 0).setReg (R.PTS_TB1 p) 0).setReg (R.PTS_INFO p) 0
  | e :: _ =>
    ((((((((b1.put (F.PTS_TB0_TS0 p) e.tb0).put (F.PTS_TB1_TS1 p) e.tb1).put (F.PTS_INFO_VALID p) 1).putB
      (F.PTS_INFO_DIR p) e.sent).put (F.PTS_INFO_EP1 p) (e.tb1 / 2 ^ 32)).put (F.PTS_INFO_EP0 p)
      (e.tb0 / 2 ^ 32)).put (F.PTS_INFO_MSGTYPE p) e.ty).put (F.PTS_INFO_DOMAIN p) e.dom).put
      (F.PTS_INFO_SEQID p) e.seq

/-- Port `p` has sent or received an 802.1AS event message, which passed its MDI or PCS `back` ns ago (R433). -/
def Blk.ptpCapture (b : Blk) (p : Nat) (sent : Bool) (back dom ty seq : Nat) : Blk :=
  let l := b.ptsOf p
  let at' (t : Nat) : Nat := (t + 2 ^ 33 - back % 2 ^ 33) % 2 ^ 33
  if l.length < 16 then b.setPts p (l ++ [⟨at' (b.time33 0), at' (b.time33 1), sent, dom, ty, seq⟩])
  else (b.incWrap (F.PTS_LOST_LOST p)).raise 166 p

/-! ## The Tally -/

/-- The copy of a block's counters: every listed register whose shadow lies in `g` is copied `off` up;
the shadows of unlisted ones are at reset, as they are (R299). -/
def Blk.copyShadow (b : Blk) (g : Nat → Bool) (off : Nat) : Blk :=
  (b.regs.filter (fun e => g (e.1 + off))).foldl (fun x e => x.setReg (e.1 + off) e.2)
    (b.keepRegs (fun a => !g a))

/-- A unit on KC takes its copy, or keeps it and sets STALE while its gate is off (R441). -/
def Blk.tallyUnit (b : Blk) (seq : Nat) (off : Bool) (stale tag : Fld) (copy : Blk → Blk) : Blk :=
  if off then b.put stale 1 else ((copy b).put stale 0).put tag (seq % 65536)

/-- The units of group `g` of TALLY_PART.KCG take their copies (R299, R357, R392, R421, R424, R654). -/
def Blk.tallyKc (b : Blk) (seq g : Nat) : Blk :=
  match g with
  | 0 => b.tallyUnit seq (b.gateOff 0x50) F.SWC_TALLY_STALE F.SWC_TALLY_SEQ (fun b =>
      (b.copyShadow (fun a => 0x41080000 ≤ a && a < 0x41100000) 0x80000).copyShadow
        (fun a => 0x41500000 ≤ a && a < 0x41800000) 0x400000)
  | 1 => (List.range 28).foldl (fun x p => x.tallyUnit seq (x.gateOff p) (F.ETH_TALLY_STALE p)
      (F.ETH_TALLY_SEQ p) (fun b => b.copyShadow (fun a =>
        R.ETH_CNT_SH p 0 ≤ a && a < R.ETH_CNT_SH p 14) 0x80)) b
  | 2 => (List.range 16).foldl (fun x n => x.tallyUnit seq (x.gateOff (0x20 + n)) (F.CAN_TALLY_STALE n)
      (F.CAN_TALLY_SEQ n) (fun b => b.copyShadow (fun a =>
        R.CAN_CNT_SH n 0 ≤ a && a < R.CAN_CNT_SH n 13) 0x80)) b
  | 3 => (List.range 12).foldl (fun x n => x.tallyUnit seq (x.gateOff (0x30 + n)) (F.LIN_TALLY_STALE n)
      (F.LIN_TALLY_SEQ n) (fun b => b.copyShadow (fun a =>
        R.LIN_CNT_SH n 0 ≤ a && a < R.LIN_CNT_SH n 7) 0x40)) b
  | _ => b.tallyUnit seq false F.FCU_TALLY_STALE F.FCU_TALLY_SEQ (fun b =>
      b.copyShadow (fun a => R.FCU_CNT_SH 0 ≤ a && a < R.FCU_CNT_SH 384) 0x8000)

/-- Did any unit of group `g` set STALE at this strobe? -/
def Blk.kcStale (b : Blk) (g : Nat) : Bool :=
  match g with
  | 0 => b.gateOff 0x50
  | 1 => (List.range 28).any b.gateOff
  | 2 => (List.range 16).any (fun n => b.gateOff (0x20 + n))
  | 3 => (List.range 12).any (fun n => b.gateOff (0x30 + n))
  | _ => false

/-- A field die does not copy: it is halted, or has had no alignment pulse since SLEEP (R441). -/
def Blk.dieStale (b : Blk) (n : Nat) : Bool := b.halted n || (b.dieOf n).asleep

/-- The accumulator of channel `c` as it stood before tick `s33` (R192): without the last sample if that came on
this tick or since. -/
def Blk.energyBefore (b : Blk) (s33 c : Nat) : Nat :=
  let d := b.dieOf (c / 16)
  if d.sampAt ≠ 0 ∧ ahead33 s33 (t33 d.sampTb) = false then (b.chanOf c).eOld else b.energy c

/-- Field die `n` takes no copy of strobe `st`: as `dieStale`, or it did not receive S in time (R441). -/
def Blk.copyMissed (b : Blk) (st : Strobe) (n : Nat) : Bool := b.dieStale n || !st.got.testBit n

/-- Field die `n` takes its copy at strobe `st`, or keeps the old one and sets STALE (R192, R441). -/
def Blk.tallyDie (b : Blk) (st : Strobe) (n : Nat) : Blk :=
  (List.range 16).foldl (fun x j =>
    let c := 16 * n + j
    if b.copyMissed st n then x.put (F.CH_ESH_TAG_STALE c) 1
    else
      let e := x.energyBefore st.at33 c
      (((x.put (F.CH_ESH_LO_ESH_LO c) e).put (F.CH_ESH_HI_ESH_HI c) (e / 2 ^ 32)).put (F.CH_ESH_TAG_STALE c)
        0).put (F.CH_ESH_TAG_SEQ c) (st.seq % 65536)) b

/-- S is sent to the dies that take part (R439). Which of them receive it in time over their links is a free value
(R441, assumption 104). A die keeps an earlier S that it holds (R442). -/
def Blk.armAt (b : Blk) (s : Nat) : Blk :=
  let b1 := b.draw.2.put F.TALLY_STAT_ARMED 1
  { b1 with strobe := b.strobe ++ [⟨s, b.fld F.TALLY_SEQ_SEQ + 1, b.fld F.TALLY_PART_BF, b.draw.1⟩] }

/-- A write of 1 to ARM (R439). -/
def Blk.tallyArm (b : Blk) : Blk :=
  let s := b.fld F.TALLY_CTL_EP * 2 ^ 32 + b.fld F.TALLY_TIME_TIME
  let lead := (s + 2 ^ 33 - b.time33 0) % 2 ^ 33
  let late := lead < 20000 || 2 ^ 32 ≤ lead
  let busy := b.on F.TALLY_STAT_ARMED
  let b1 := if late then (b.put F.TALLY_STAT_LATE 1).raise 164 else b
  let b2 := if busy then b1.put F.TALLY_STAT_BUSY_REF 1 else b1
  if late || busy then b2
  else { b2.armAt s with k := { b2.k with tallyStop := false } }

/-- A write of TALLY_CTL (R439, R440, R447). -/
def Blk.tallyCtl (b : Blk) (v : W32) : Blk :=
  let b1 := b.writeReg R.TALLY_CTL v
  let b2 := if F.TALLY_CTL_ARM.get v = 1 then b1.tallyArm else b1
  if F.TALLY_CTL_ARM_STOP.get v = 1 then { b2 with k := { b2.k with tallyStop := true } } else b2

/-- The strobe at S, the oldest that has fallen due (R440 to R442). -/
def Blk.tallyStrobe (b : Blk) : Blk :=
  match b.strobe.find? (fun st => !ahead33 st.at33 (b.time33 0)) with
  | none => b
  | some st =>
    let dies := (List.range 12).filter (fun n => st.bf.testBit n)
    let b1 := dies.foldl (fun x n => x.tallyDie st n) { b with strobe := b.strobe.erase st }
    if b.on F.TALLY_STAT_ARMED && b.kcRun && b.strobe.getLast? == some st then
      let groups := (List.range 5).filter (fun g => (b.fld F.TALLY_PART_KCG).testBit g)
      let b2 := groups.foldl (fun x g => x.tallyKc st.seq g) (b1.put F.TALLY_SEQ_SEQ st.seq)
      let stale := (groups.filter b.kcStale).foldl (fun m g => m ||| 2 ^ g) 0 |||
        (dies.filter (b.copyMissed st)).foldl (fun m n => m ||| 2 ^ (16 + n)) 0
      let b3 := ((b2.put F.TALLY_STALE_STALE stale).put F.TALLY_STAT_DONE 1).put F.TALLY_STAT_ARMED 0
      let b4 := if stale = 0 then b3 else b3.raise 165
      let per := b.fld F.TALLY_CTL_PERIOD
      if per = 0 ∨ b.k.tallyStop = true then b4
      else b4.armAt ((st.at33 + max 100 per * 1000) % 2 ^ 33)
    else b1

/-! ## Meanings -/

/-- The tick on which NS of base `x` wraps (R426). -/
def execTimeBaseWrap (x : Nat) (s : State) : Host.Outcome State Fault Refusal :=
  onBlk (x < 2) s (fun b => if b.wrapsNext x then b.tick else b)

/-- A write of TB_OFFS of base `x` (R428). -/
def execTbOffsWrite (i : Init) (x : Nat) (v : W32) (s : State) : Host.Outcome State Fault Refusal :=
  onBlk (x < 2) s (fun b => b.onWrite i (R.TB_OFFS x) v (fun b => b.offsWrite x v))

/-- A write of TB_STEP of base `x` (R429). -/
def execTbStepWrite (i : Init) (x : Nat) (v : W32) (s : State) : Host.Outcome State Fault Refusal :=
  onBlk (x < 2) s (fun b => b.onWrite i (R.TB_STEP x) v (fun b => b.tbStep x v.toInt))

/-- A write of 1 to TB_CMD.SET of base `x` (R429). -/
def execSet (i : Init) (x : Nat) (s : State) : Host.Outcome State Fault Refusal :=
  onBlk (x < 2) s (fun b => b.onWrite i (R.TB_CMD x) ((F.TB_CMD_SET x).word 1) (fun b => b.tbSet x))

/-- CLAMP of base `x` stays 1 for 1 s (R428). -/
def execClampTimeout (x : Nat) (s : State) : Host.Outcome State Fault Refusal :=
  onBlk (x < 2) s (fun b => b.clampLong x)

/-- A read of TB_NS of base `x` (R434). -/
def execTbNsRead (i : Init) (x : Nat) (s : State) : Host.Outcome State Fault Refusal :=
  onBlk (x < 2) s (fun b => b.onRead i (R.TB_NS x) (fun b =>
    { b.put (F.TB_WRAP_LAT_WRAP x) (b.ext x / 2 ^ 32) with resp := .data (b.ext x % 2 ^ 32) }))

/-- An event of capture source `src` (R436). -/
def execTimeCapture (src : Nat) (rise : Bool) (s : State) : Host.Outcome State Fault Refusal :=
  onBlk true s (fun b => if b.kcRun then b.captureEvent src rise else b)

/-- A write of 1 to PTS_POP of port `p` (R446). -/
def execPtsPop (i : Init) (p : Nat) (s : State) : Host.Outcome State Fault Refusal :=
  onBlk (p < 26) s (fun b => b.onWrite i (R.PTS_POP p) 1 (fun b => b.setPts p (b.ptsOf p).tail))

/-- A write of PO_CTL of output `p` (R438). -/
def execPulseEnable (i : Init) (p : Nat) (v : W32) (s : State) : Host.Outcome State Fault Refusal :=
  onBlk (p < 2) s (fun b => b.onWrite i (R.PO_CTL p) v (fun b => b.poWrite p v))

/-- The next rise of output `p` falls due (R438). -/
def execPulseRise (p : Nat) (s : State) : Host.Outcome State Fault Refusal :=
  onBlk (p < 2) s (fun b => b.poRise p)

/-- The pulse of output `p` has lasted WIDTH (R438). -/
def execPulseFall (p : Nat) (s : State) : Host.Outcome State Fault Refusal :=
  onBlk (p < 2) s (fun b => b.poFall p)

/-- A write of TALLY_CTL with ARM 1 (R439); the other bits of `v` act by their types. -/
def execArm (i : Init) (v : W32) (s : State) : Host.Outcome State Fault Refusal :=
  onBlk true s (fun b => b.onWrite i R.TALLY_CTL (v ||| F.TALLY_CTL_ARM.mask) (fun b => b.tallyCtl (v ||| F.TALLY_CTL_ARM.mask)))

/-- A write of TALLY_CTL with ARM_STOP 1 (R440). -/
def execArmStop (i : Init) (v : W32) (s : State) : Host.Outcome State Fault Refusal :=
  onBlk true s (fun b => b.onWrite i R.TALLY_CTL (v ||| F.TALLY_CTL_ARM_STOP.mask) (fun b =>
    b.tallyCtl (v ||| F.TALLY_CTL_ARM_STOP.mask)))

/-- TB0 reaches S (R440). -/
def execTallyStrobe (s : State) : Host.Outcome State Fault Refusal := onBlk true s Blk.tallyStrobe

end Sys2Proof.Machine
end

