-- ==== Sys2Proof/Machine/Eth.lean ====
section
/-!
DEFINITION. Machine/Eth.lean: the Ethernet ports: links and training, reception, pause, transmission with
cut-through and preemption, MACsec, TC10 (R344, R348, R350, R368 to R384, R389 to R392).
-/

namespace Sys2Proof.Machine

/-! ## Port types -/

def isMg (p : Nat) : Bool := p < 4
def isTs (p : Nat) : Bool := 20 ≤ p && p < 24
def isUx (p : Nat) : Bool := p == 24 || p == 25
def hasTc10 (p : Nat) : Bool := p < 20
/-- Ports that honour pause (R373) and can cut through (R368): MG, GB, FE, UX. -/
def isFast (p : Nat) : Bool := p < 20 || isUx p
/-- Ports that send pause. -/
def sendsPause (p : Nat) : Bool := isMg p || isUx p
def hasMacsec (p : Nat) : Bool := p < 12 || isUx p

/-- MAX_LEN as it acts (R368). -/
def Blk.maxLen (b : Blk) (p : Nat) : Nat :=
  max 64 (min (if 12 ≤ p ∧ p < 24 then 2000 else 9216) (b.fld (F.ETH_CTL_MAX_LEN p)))

/-- The ticks that `n` bit times of port `p` take. -/
def Blk.bitTicks (b : Blk) (p n : Nat) : Nat := n * 500000 / b.portRate p

def Blk.ethCnt (b : Blk) (p k : Nat) : Blk := b.incWrap (F.ETH_CNT_CNT p k)
def Blk.ethEvt (b : Blk) (p k : Nat) : Blk := b.setBit (F.ETH_EVT_EVT p) k

/-! ## Links -/

/-- The reception in progress ends without its end: the frame's last cell carries ERR. -/
def Blk.rxAbort (b : Blk) (p : Nat) : Blk :=
  let x := b.portOf p
  let b1 := match x.rx.bind (·.frm) with
    | some id => b.updFrm id (fun f => { f with
        whole := true
        bad := true })
    | none => b
  b1.setPort p { x with rx := none }

/-- An MG port asks the weighbridge for leave to train (R370). -/
def Blk.trainAsk (b : Blk) (p : Nat) : Blk :=
  let a : Ask := { id := b.nreq, kind := 5, unit := p, ctx := (b.ownOf 0x02 p).ctx
                   power := Config.trainPower, since := b.clk }
  (({ b with nreq := b.nreq + 1 }.setWb { b.k.wb with new := b.k.wb.new ++ [a] }).put (F.ETH_STAT_STATE p) 1).setPort
    p { b.portOf p with retryAt := none }

/-- The request of an MG port is withdrawn, its grant released. -/
def Blk.trainDrop (b : Blk) (p : Nat) : Blk :=
  let mine (a : Ask) : Bool := a.kind == 5 && a.unit == p
  { b with
    wbgGrants := b.wbgGrants.filter (fun a => !mine a)
    wbgQueue := b.wbgQueue.filter (fun a => !mine a) }.setWb { b.k.wb with
      new := b.k.wb.new.filter (fun a => !mine a) }

/-- A port with EN 1 that has no link begins to bring it up, unless R455 has powered its PHY down. -/
def Blk.linkSeek (b : Blk) (p : Nat) : Blk :=
  if b.slp.sbEth.testBit p then b.put (F.ETH_STAT_STATE p) 5
  else if isMg p then b.trainAsk p else b.put (F.ETH_STAT_STATE p) 0

/-- The link comes up (R369, R378). -/
def Blk.linkUp (b : Blk) (p : Nat) : Blk :=
  let st := if isMgGb p && b.on (F.ETH_PREEMPT_EN p) then (if b.on (F.ETH_PREEMPT_VERIFY_DIS p) then 2 else 1) else 0
  (((b.put (F.ETH_STAT_LINK p) 1).put (F.ETH_STAT_STATE p) 3).put (F.ETH_PREEMPT_STATUS p) st).ethEvt p 0

/-- The link goes down (R369); `tc10`: by TC10 sleep. -/
def Blk.linkDown (b : Blk) (p : Nat) (tc10 : Bool) : Blk :=
  if b.on (F.ETH_STAT_LINK p) then
    let b1 := (((b.put (F.ETH_STAT_LINK p) 0).put (F.ETH_PREEMPT_STATUS p) 0).ethEvt p 0).rxAbort p
    let b2 := b1.setPort p { b1.portOf p with xoffAt := none, slpAt := none }
    if b.on (F.ETH_CTL_EN p) && !tc10 then b2.raise 81 p else b2
  else b

/-- TS with PLCA disabled is up whenever EN is 1 (R369). -/
def Blk.tsSync (b : Blk) (p : Nat) : Blk :=
  if isTs p && b.on (F.ETH_CTL_EN p) && !(b.portOf p).barred && !b.slp.sbEth.testBit p && !b.on (F.ETH_PLCA_EN p) && !b.on (F.ETH_STAT_LINK p) then b.linkUp p else b

/-- A write of ETH_CTL (R369, R370, R384, R390). A port in TC10 sleep stays there. -/
def Blk.ethCtl (b : Blk) (p : Nat) (v : W32) : Blk :=
  let was := b.on (F.ETH_CTL_EN p)
  let b1 := (b.shapeAll p).writeReg (R.ETH_CTL p) v
  let en := b1.on (F.ETH_CTL_EN p)
  if en && !was then
    let b2 := b1.qbvRun p
    let x := b2.portOf p
    let b3 := if hasTc10 p && b2.on (F.ETH_TC10_FWD p) && b2.fld F.AON_PSTATE_CAUSE == 4 && !x.fwdDone then
        b2.setPort p { x with
          wups := x.wups + 1
          fwdDone := true }
      else b2
    if 26 ≤ p then b3.linkUp p
    else if b3.fld (F.ETH_STAT_STATE p) = 4 then b3
    else (b3.linkSeek p).tsSync p
  else if was && !en then
    let b2 := (b1.linkDown p false).trainDrop p
    let b3 := b2.setPort p { b2.portOf p with
      retryAt := none
      barred := false }
    if b3.fld (F.ETH_STAT_STATE p) = 4 then b3 else b3.put (F.ETH_STAT_STATE p) 5
  else b1

/-- A write of ETH_PLCA: with EN 0 no PLCA status is true (R369, R390). EN becoming 1 leaves the port without a true
PLCA status: its link is down until there is one. -/
def Blk.ethPlca (b : Blk) (p : Nat) (v : W32) : Blk :=
  let b1 := b.writeReg (R.ETH_PLCA p) v
  if !b1.on (F.ETH_PLCA_EN p) then (b1.put (F.ETH_STAT_PLCA p) 0).tsSync p
  else if !b.on (F.ETH_PLCA_EN p) && b1.on (F.ETH_STAT_LINK p) then (b1.linkDown p false).linkSeek p
  else b1

/-- A write of ETH_PREEMPT: EN 0 disables preemption (R378, R390). -/
def Blk.ethPreempt (b : Blk) (p : Nat) (v : W32) : Blk :=
  let b1 := b.writeReg (R.ETH_PREEMPT p) v
  if b1.on (F.ETH_PREEMPT_EN p) then b1 else b1.put (F.ETH_PREEMPT_STATUS p) 0

/-- The PHY enters (`up`) or leaves its link-OK state, or the PLCA status of a TS port changes (R369, R389). -/
def Blk.phyChange (b : Blk) (p : Nat) (up : Bool) : Blk :=
  if !b.kcRun || !b.on (F.ETH_CTL_EN p) || b.gateOff p || (b.portOf p).barred || b.slp.sbEth.testBit p || (isTs p && !b.on (F.ETH_PLCA_EN p)) then b
  else if up then
    if isMg p || b.on (F.ETH_STAT_LINK p) || b.fld (F.ETH_STAT_STATE p) == 4 then b
    else (if isTs p then b.put (F.ETH_STAT_PLCA p) 1 else b).linkUp p
  else if b.on (F.ETH_STAT_LINK p) then
    let b1 := if isTs p then (b.put (F.ETH_STAT_PLCA p) 0).raise 85 p else b
    (b1.linkDown p false).linkSeek p
  else b

/-- Link training of an MG port ends (R370). -/
def Blk.trainEnd (b : Blk) (p : Nat) (ok : Bool) : Blk :=
  if isMg p && b.fld (F.ETH_STAT_STATE p) == 2 then
    if ok then (b.trainDrop p).linkUp p else (b.trainDrop p).trainFail p
  else b

/-- An MG port retries (R370); a TC10 sleep does not end by it (R394). -/
def Blk.trainRetry (b : Blk) (p : Nat) : Blk :=
  match (b.portOf p).retryAt with
  | none => b
  | some t =>
    if t ≤ b.clk ∧ b.on (F.ETH_CTL_EN p) ∧ b.slp.sbEth.testBit p = false ∧ b.fld (F.ETH_STAT_STATE p) ≠ 4 then b.trainAsk p
    else b

/-! ## MACsec -/

/-- Word `w` of the SA memory of a port (R391). -/
def Blk.saWord (b : Blk) (p w : Nat) : Nat := (b.reg (R.SA_MEM p w)).toNat
/-- NEXT_PN, SSCI and SALT of the SA whose first word is `w`. -/
def Blk.saPn (b : Blk) (p w : Nat) : Nat := b.saWord p w + b.saWord p (w + 1) * 2 ^ 32
def Blk.setSaPn (b : Blk) (p w n : Nat) : Blk :=
  (b.setReg (R.SA_MEM p w) (BitVec.ofNat 32 n)).setReg (R.SA_MEM p (w + 1)) (BitVec.ofNat 32 (n / 2 ^ 32))
def Blk.saSalt (b : Blk) (p w : Nat) : List Byte := (List.range 3).flatMap (fun k => leBytes 4 (b.saWord p (w + 3 + k)))

def Blk.saSlot (b : Blk) (p w : Nat) : Nat := b.saWord p (w + 6) % 64
/-- Does the SA's slot permit it (R380, R611)? -/
def Blk.saKeyOk (b : Blk) (p w : Nat) : Bool :=
  let n := b.saSlot p w
  b.slotHas n 1 && b.fld (F.KV_SLOT_MSEC_PORT n) == p && b.slotOwner n == (b.ownOf 0x02 p).ctx

/-- Is the SA enabled? One whose slot does not permit it acts as EN 0 and raises FS082 (R380, R611). -/
def Blk.saUse (b : Blk) (p w : Nat) : Bool × Blk :=
  if (b.saWord p (w + 6)).testBit 8 = false then (false, b)
  else if b.saKeyOk p w then (true, b)
  else (false, (b.raise 214 (b.saSlot p w) (some (b.slotOwner (b.saSlot p w)))).raise 82 p)

/-- The IV of GCM-AES-XPN: SSCI and PN, exclusive-or SALT. -/
def Blk.saIv (b : Blk) (p w pn : Nat) : List Byte :=
  List.zipWith (· ^^^ ·) (beBytes 4 (b.saWord p (w + 2)) ++ beBytes 8 pn) (b.saSalt p w)

/-- The confidentiality offset (R391). -/
def Blk.msecOff (b : Blk) (p : Nat) : Nat := match b.fld (F.MSEC_CTL_OFFSET p) with | 1 => 30 | 2 => 50 | _ => 0

/-- A frame protected with transmit SA `an` and packet number `pn` (R379). -/
def Blk.protect (b : Blk) (p an pn : Nat) (l : List Byte) : List Byte :=
  let w := 8 * an
  let sci := leBytes 4 (b.reg (R.MSEC_SCI_LO p)).toNat ++ leBytes 4 (b.reg (R.MSEC_SCI_HI p)).toNat
  let user := l.drop 12
  let off := b.msecOff p
  let sl := if user.length < 48 then user.length else 0
  let head := l.take 12 ++ [0x88, 0xe5] ++ leBytes 1 (0x2c + an) ++ leBytes 1 sl ++ beBytes 4 pn ++ sci
  let clear := user.take off
  head ++ clear ++ Config.gcmEnc (b.keyOf (b.saSlot p w)) (b.saIv p w pn) (head ++ clear) (user.drop off)

/-- Is a frame protected when port `p` sends it (R379, R382)? -/
def Blk.protects (b : Blk) (p : Nat) (l : List Byte) : Bool :=
  hasMacsec p && b.on (F.MSEC_CTL_TX_EN p) && (parse l).ety != 0x888e

/-- Transmission takes the packet number of the SA in use (R380); none: the frame is discarded. -/
def Blk.takePn (b : Blk) (p : Nat) : Option (Nat × Nat) × Blk :=
  let an := b.fld (F.MSEC_CTL_TX_AN p)
  let r := b.saUse p (8 * an)
  let pn := r.2.saPn p (8 * an)
  if r.1 = false ∨ pn = 2 ^ 64 - 1 then (none, r.2.ethCnt p 13)
  else
    let b1 := r.2.setSaPn p (8 * an) (pn + 1)
    (some (an, pn), if pn + 1 = 2 ^ 64 - 2 ^ 32 then (b1.ethEvt p 4).raise 82 p else b1)

/-- How MACsec handles a received frame (R379, R381): as it is; as one of the SA whose first word and PN are
given; not at all. -/
inductive Msec where
  | plain
  | sa (w pn : Nat)
  | drop
deriving DecidableEq, Repr

/-- The packet number that the 32 bits on the wire give, for an SA whose NEXT_PN is `next` (IEEE 802.1AE). -/
def xpn (next low : Nat) : Nat :=
  let up := next / 2 ^ 32
  (if 2 ^ 31 ≤ next % 2 ^ 32 ∧ low < 2 ^ 31 then up + 1 else up) * 2 ^ 32 + low

/-- The handling of a frame that begins with `l` (R381). -/
def Blk.msecOf (b : Blk) (p : Nat) (l : List Byte) : Msec × Blk :=
  let strict := 2 ≤ b.fld (F.MSEC_CTL_VALIDATE p)
  let off := b.fld (F.MSEC_CTL_VALIDATE p) == 0
  let ety := beAt l 12 2
  if !hasMacsec p || !b.on (F.MSEC_CTL_RX_EN p) || off || (parse l).ety == 0x888e then (.plain, b)
  else
    let miss (b : Blk) : Msec × Blk := if strict then (.drop, b) else (.plain, b)
    let tci := beAt l 14 1
    if ety ≠ 0x88e5 ∨ tci.testBit 5 = false then miss b
    else
      let sci := (l.drop 20).take 8
      match (List.range 8).find? (fun s =>
          (b.saWord p (64 + 64 * s + 2)).testBit 0 &&
            leBytes 4 (b.saWord p (64 + 64 * s)) ++ leBytes 4 (b.saWord p (64 + 64 * s + 1)) == sci) with
      | none => miss b
      | some s =>
        let w := 64 + 64 * s + 8 + 8 * (tci % 4)
        let r := b.saUse p w
        if r.1 then (.sa w (xpn (r.2.saPn p w) (beAt l 16 4)), r.2) else miss r.2

/-- The bytes of a protected frame as far as they have arrived, without SecTAG (R379). -/
def Blk.unprotect (b : Blk) (p w pn : Nat) (l : List Byte) : List Byte :=
  let body := l.drop 28
  let off := b.msecOff p
  l.take 12 ++ body.take off ++ Config.gcmCtr (b.keyOf (b.saSlot p w)) (b.saIv p w pn) (body.drop off)

/-- The check of a whole protected frame (R381): 10 ICV, 11 replay, or the plain frame. -/
def Blk.msecCheck (b : Blk) (p w pn : Nat) (l : List Byte) : Except Nat (List Byte) :=
  let body := (l.drop 28).take (l.length - 44)
  let tag := l.drop (l.length - 16)
  let off := b.msecOff p
  let aad := l.take (28 + off)
  match Config.gcmDec (b.keyOf (b.saSlot p w)) (b.saIv p w pn) aad (body.drop off) tag with
  | none => .error 10
  | some d =>
    if b.on (F.MSEC_CTL_REPLAY p) && decide (pn + b.fld (F.MSEC_CTL_REPLAY_WIN p) < b.saPn p w) then .error 11
    else .ok (l.take 12 ++ body.take off ++ d)

/-! ## Reception -/

/-- Is a frame a pause or PFC frame (R371)? -/
def isPause (l : List Byte) : Bool :=
  beAt l 0 6 == 0x0180c2000001 && beAt l 12 2 == 0x8808 && (beAt l 14 2 == 1 || beAt l 14 2 == 0x101)

/-- Class `tc` is paused for `q` quanta, or its pause ends (R373). -/
def Blk.pauseClass (b : Blk) (p tc q : Nat) : Blk :=
  let x := b.portOf p
  ((b.setPort p { x with
    pauseEnd := x.pauseEnd.set (fun _ => 0) tc (if q = 0 then 0 else b.clk + b.bitTicks p (q * 512)) }).putB
    (F.Q_STAT_PAUSED p tc) (q != 0)).outSync p

/-- A pause or PFC frame is honoured (R373). -/
def Blk.pauseRx (b : Blk) (p : Nat) (l : List Byte) : Blk :=
  if !isFast p || !b.on (F.ETH_CTL_PRX_EN p) then b
  else if beAt l 14 2 = 1 then (List.range 8).foldl (fun x tc => x.pauseClass p tc (beAt l 16 2)) b
  else (List.range 8).foldl (fun x tc =>
    if (beAt l 16 2).testBit tc then x.pauseClass p tc (beAt l (18 + 2 * tc) 2) else x) b

/-- The hash of a destination address (R372). -/
def hash372 (d : Nat) : Nat :=
  (d % 512) ^^^ (d / 2 ^ 9 % 512) ^^^ (d / 2 ^ 18 % 512) ^^^ (d / 2 ^ 27 % 512) ^^^ (d / 2 ^ 36 % 512) ^^^ (d / 2 ^ 45)

/-- Does the hash filter keep a destination (R372)? -/
def Blk.hashKeeps (b : Blk) (p d : Nat) : Bool :=
  !b.on (F.ETH_CTL_HASH_EN p) || !isGroup d || d == broadcast || linkLocal d ||
    (b.reg (R.ETH_HASH p (hash372 d / 32))).getLsbD (hash372 d % 32)

/-- An 802.1AS event message is timestamped (R433). -/
def Blk.ptpFrame (b : Blk) (p : Nat) (sent : Bool) (back : Nat) (l : List Byte) : Blk :=
  let h := parse l
  let o := h.off + 2
  let ty := beAt l o 1 % 16
  if p < 26 ∧ h.ety = 0x88f7 ∧ ty < 4 then b.ptpCapture p sent back (beAt l (o + 4) 1) ty (beAt l (o + 30) 2) else b

/-- Does the port receive? A TS port, half-duplex, does not while it sends (R368). -/
def Blk.rxOn (b : Blk) (p : Nat) : Bool :=
  b.kcRun && p < 26 && !b.gateOff p && b.on (F.ETH_CTL_EN p) && b.on (F.ETH_STAT_LINK p) &&
    !(isTs p && !(b.txOf p).isEmpty)

/-- The first 128 bytes of a frame of `l` bytes have come, `dur` ns after its start (R323, R324, R371). The engine
judges it after the frames that wait with an earlier decision point, or one on this tick at a lower input. -/
def Blk.rxHead (b0 : Blk) (p : Nat) (head : List Byte) (l dur : Nat) : Blk :=
  if !b0.rxOn p || head.length != 128 || l ≤ 128 || (b0.portOf p).rx.isSome then b0
  else
    let b := b0.judgeUntil p b0.clk b0.lookLen
    let ts := (b.now - dur) % 2 ^ 33
    let now : RxNow := { len := l, ts := ts }
    let lc := min l (b.maxLen p)
    let r := b.msecOf p head
    let put (b : Blk) (x : RxNow) : Blk := b.setPort p { b.portOf p with rx := some x }
    if isPause head then put (b.ethCnt p 5) { now with gone := true }
    else match r.1 with
    | .drop => put (r.2.ethCnt p 12) { now with gone := true }
    | m =>
      let d := match m with
        | .sa w pn => (r.2.unprotect p w pn head, lc - 32)
        | _ => (head, lc)
      if r.2.hashKeeps p (beAt head 0 6) = false then put (r.2.ethCnt p 4) { now with gone := true }
      else if r.2.mustWait p (parse d.1) then put r.2 { now with wait := true }
      else
        let n := r.2.k.fab.next
        let j := r.2.judgeFrame p { data := d.1, ts := ts, since := b.clk, whole := false } d.2
        put j.1 { now with
          frm := if j.1.k.fab.next = n then none else some n
          learn := j.2 }

/-- The checks at the end of a whole frame (R371, R381): the counter of the one that fails, and the frame that
goes on, plain and cut at MAX_LEN. -/
def Blk.rxCheck (b : Blk) (p : Nat) (l : List Byte) (fcs : Bool) : Option Nat × List Byte × Blk :=
  let cut := l.take (b.maxLen p - 4)
  let r := b.msecOf p l
  let plain := match r.1 with
    | .sa w pn => (r.2.unprotect p w pn cut).take (cut.length - 32)
    | _ => cut
  if fcs = false then (some 2, plain, r.2)
  else if b.maxLen p < l.length + 4 then (some 3, plain, r.2)
  else
    match r.1 with
    | .plain => (none, l, r.2)
    | .drop => (some 12, l, r.2)
    | .sa w pn =>
      match r.2.msecCheck p w pn l with
      | .error c => (some c, plain, r.2)
      | .ok d => (none, d, r.2.setSaPn p w (max (r.2.saPn p w) (pn + 1)))

/-- A good frame of TS `ts` is counted and timestamped with the time at which it passed the MDI or the PCS (R371,
R433). -/
def Blk.rxGood (b : Blk) (p : Nat) (l : List Byte) (ts : Nat) : Blk :=
  (b.ethCnt p 0).ptpFrame p false ((b.ts33 + 2 ^ 33 - ts % 2 ^ 33) % 2 ^ 33) l

/-- The end of a frame whose first 128 bytes were taken before (R371). -/
def Blk.rxFinish (b : Blk) (p : Nat) (x : RxNow) (l : List Byte) (fcs : Bool) : Blk :=
  let b0 := b.setPort p { b.portOf p with rx := none }
  let r := b0.rxCheck p l fcs
  let d := r.2.1
  let b1 := r.2.2
  if x.gone then (if isPause l && fcs then b1.pauseRx p l else b1)
  else if x.wait then
    match r.1 with
    | some c => b1.ethCnt p c
    | none => (b1.rxGood p d x.ts).setLook p (b1.lookOf p ++ [{ data := d, ts := x.ts, since := b.clk }])
  else
    let alive := (x.frm.bind b1.frm).any (fun f => !f.dead)
    let b2 := match x.frm with
      | some id => b1.updFrm id (fun f => { f with
          data := d
          whole := true
          bad := r.1.isSome })
      | none => b1
    match r.1 with
    | some c => if alive then b2.ethCnt p c else b2
    | none =>
      let b3 := b2.rxGood p d x.ts
      match x.learn with
      | some (vid, sa) => b3.learn p vid sa
      | none => b3

/-- The end of a frame of at most 128 bytes (R371): one longer than MAX_LEN goes on with ERR unless MACsec validation
or the hash filter discards it. -/
def Blk.rxShort (b : Blk) (p : Nat) (l : List Byte) (fcs : Bool) (ts : Nat) : Blk :=
  if l.length + 4 < 64 then b.ethCnt p 1
  else if isPause l then (if fcs then (b.ethCnt p 5).pauseRx p l else b.ethCnt p 5)
  else
    let r := b.rxCheck p l fcs
    let d := r.2.1
    let b1 := r.2.2
    let dropped := match (b.msecOf p l).1 with
      | .drop => true
      | _ => false
    match r.1 with
    | some 3 =>
      if !dropped && b1.hashKeeps p (beAt d 0 6) then
        (b1.ethCnt p 3).setLook p (b1.lookOf p ++ [{ data := d, ts := ts, since := b.clk, bad := true }])
      else b1.ethCnt p 3
    | some c => b1.ethCnt p c
    | none =>
      if b1.hashKeeps p (beAt d 0 6) then (b1.rxGood p d ts).setLook p (b1.lookOf p ++ [{ data := d, ts := ts, since := b.clk }])
      else b1.ethCnt p 4

/-- A frame ends at port `p`: its bytes without FCS, whether its FCS is right, its duration in ns (R371). On a TS port
it has begun after the port's own last frame (R368). -/
def Blk.rxEnd (b : Blk) (p : Nat) (l : List Byte) (fcs : Bool) (dur : Nat) : Blk :=
  if b.rxOn p = false then b
  else
    match (b.portOf p).rx with
    | some x => if l.length + 4 = x.len then b.rxFinish p x l fcs else b
    | none =>
      if l.length + 4 ≤ 128 ∧ (isTs p = false ∨ (b.portOf p).oppEnd + dur / 2 ≤ b.clk) then
        b.rxShort p l fcs ((b.now - dur) % 2 ^ 33)
      else b

/-! ## Pause -/

/-- The pause of a class runs out (R373). -/
def Blk.pauseOver (b : Blk) (p tc : Nat) : Blk :=
  if b.on (F.Q_STAT_PAUSED p tc) && decide ((b.portOf p).pauseEnd.get (fun _ => 0) tc ≤ b.clk) then
    b.pauseClass p tc 0
  else b

/-- A pause frame of `q` quanta is sent (R374). -/
def Blk.pauseSend (b : Blk) (p q : Nat) : Blk :=
  (b.setPort p { b.portOf p with
    xoffAt := if q = 0 then none else some b.clk
    pauseTx := some (b.on (F.ETH_PTX_PMODE p), q,
      if b.on (F.ETH_PTX_PMODE p) then b.fld (F.ETH_PTX_CLASSES p) else 0xff) }).ethCnt p 8

/-- XON as it acts (R374). -/
def Blk.xonOf (b : Blk) (p : Nat) : Nat :=
  if b.fld (F.ETH_PAUSE_XOFF p) ≤ b.fld (F.ETH_PAUSE_XON p) then b.fld (F.ETH_PAUSE_XOFF p) - 1
  else b.fld (F.ETH_PAUSE_XON p)

/-- Does the port send pause? -/
def Blk.ptxOn (b : Blk) (p : Nat) : Bool :=
  b.kcRun && sendsPause p && b.on (F.ETH_CTL_PTX_EN p) && b.on (F.ETH_STAT_LINK p)

/-- The input has crossed XOFF or XON (R374). -/
def Blk.pauseTx (b : Blk) (p : Nat) : Blk :=
  let used := b.fld (F.IN_VOQ_USED p)
  if b.ptxOn p = false then b
  else if (b.portOf p).xoffAt.isSome then (if used < b.xonOf p then b.pauseSend p 0 else b)
  else if b.fld (F.ETH_PAUSE_XOFF p) ≤ used then b.pauseSend p (b.fld (F.ETH_PTX_QUANTA p))
  else b

/-- The pause is refreshed (R374). -/
def Blk.pauseAgain (b : Blk) (p : Nat) : Blk :=
  let q := b.fld (F.ETH_PTX_QUANTA p)
  match (b.portOf p).xoffAt with
  | none => b
  | some t =>
    if b.ptxOn p && decide (b.xonOf p ≤ b.fld (F.IN_VOQ_USED p)) && decide (t + b.bitTicks p (q * 256) ≤ b.clk) then
      b.pauseSend p q
    else b

/-! ## What a port sends -/

/-- The sample that an entry of the core sample sends (R350). -/
def Blk.sampleBytes (b : Blk) (f : Frm) (s n : Nat) : List Byte :=
  let trunc := b.on (F.CS_CFG_TRUNC s) && 128 < f.data.length
  let egress := b.fld (F.CS_CFG_KIND s) == 2
  let fl := f.ts / 2 ^ 32 % 2 + 2 * trunc.toNat + 4 * egress.toNat
  let src := if egress then b.fld (F.CS_CFG_SRC s) else f.inp
  f.data.take 12 ++ [0x88, 0xb5] ++ beBytes 4 f.ts ++ leBytes 1 fl ++ leBytes 1 src ++ leBytes 1 s ++ [0] ++
    beBytes 2 f.len ++ [0, 0] ++ beBytes 4 n ++ ((if trunc then f.data.take 128 else f.data).drop 12)

/-- The edits of an egress port (R326, R328, R341): the tag of FWD_META or none, the R-TAG generated, kept or
stripped. -/
def Blk.editBytes (b : Blk) (p : Nat) (f : Frm) : List Byte :=
  let h := parse f.data
  let o := if h.tag.isSome then 16 else 12
  let tag := if (b.fld (F.VLAN_UNTAG_UNTAG f.vid)).testBit p then []
    else [0x81, 0x00] ++ beBytes 2 (f.pcp * 2 ^ 13 + f.dei.toNat * 2 ^ 12 + f.vid)
  let old := if h.rtag.isSome then (f.data.drop o).take 6 else []
  let rtag := match f.gen with
    | some (_, n) => [0xf1, 0xc1, 0, 0] ++ beBytes 2 n
    | none => if f.strip then [] else old
  f.data.take 12 ++ tag ++ rtag ++ f.data.drop (o + old.length)

/-- The bytes that port `p` sends for a queue entry, before MACsec. -/
def Blk.entBytes (b : Blk) (p : Nat) (e : QEnt) (f : Frm) : List Byte :=
  if e.cs then
    match f.cs with
    | some (s, n) => b.sampleBytes f s n
    | none => f.data
  else if f.raw then f.data
  else b.editBytes p f

/-! ## Transmission selection -/

/-- Cut-through threshold reached (R279, R376)? -/
def Blk.cutThrough (b : Blk) (p : Nat) (f : Frm) : Bool :=
  isFast p && b.on (F.ETH_CTL_CT_EN p) && b.fld (F.ETH_STAT_CT_THR p) ≤ f.linked * 64

/-- The entry of queue (p, tc) that goes next: the first that is not in transmission. -/
def Blk.headOf (b : Blk) (p tc : Nat) : Option (QEnt × Frm) :=
  match (b.queue p tc).find? (fun e => !(b.txOf p).any (fun s => s.tc == tc && s.ent == e)) with
  | none => none
  | some e => (b.frm e.frm).map (fun f => (e, f))

/-- Is preemption active, with `tc` of a preemptable class (R378)? -/
def Blk.isPre (b : Blk) (p tc : Nat) : Bool :=
  isMgGb p && b.fld (F.ETH_PREEMPT_STATUS p) == 2 && (b.preemptable p).testBit tc

/-- The bytes of an entry that the length check counts (R348, R382): L of the frame, or of the sample. -/
def Blk.wireLen (b : Blk) (p : Nat) (e : QEnt) (f : Frm) : Nat :=
  (if e.cs then (b.entBytes p e f).length + 4 else f.len) + 20 + if b.protects p (b.entBytes p e f) then 32 else 0

/-- How long an entry takes to send, in whole ns that it reaches into. -/
def Blk.wireNs (b : Blk) (p : Nat) (e : QEnt) (f : Frm) : Nat :=
  (b.wireLen p e f * 8 * 1000000 + b.portRate p - 1) / b.portRate p

/-- Is queue (p, tc) eligible (R279, R344, R348, R373, R375, R378)? -/
def Blk.eligible (b : Blk) (p tc : Nat) : Bool :=
  match b.headOf p tc with
  | none => false
  | some (e, f) =>
    let pre := b.isPre p tc
    let till := b.now + b.wireNs p e f
    (frmLinked f || b.cutThrough p f) && decide (0 ≤ b.ageOf f.ts) && (b.gatesAt p b.now).2.testBit tc &&
      !b.on (F.Q_STAT_PAUSED p tc) && (!b.on (F.CBS_CFG_EN p tc) || decide (0 ≤ (b.cbsOf p tc).credit)) &&
      (if pre then !b.holdPre p && !(b.txOf p).any (fun s => s.pre) else b.gateStays p tc till 520 b.now)

/-- The smallest fragment of a preempted frame in bytes (R378). -/
def Blk.minFragment (b : Blk) (p : Nat) : Nat := 64 * (1 + b.fld (F.ETH_PREEMPT_ADD_FRAG p)) - 4

/-- May the frame of a preemptable class be preempted now: its fragment on the wire has reached the smallest length,
and what would be left of it is a whole fragment of 64 bytes (R378, IEEE 802.3br, log 67)? -/
def Blk.mayPreempt (b : Blk) (p : Nat) (s : Sending) : Bool :=
  s.held || (decide (s.sent + b.minFragment p ≤ b.wireBytes p s) &&
    (b.frm s.ent.frm).all (fun f => b.wireBytes p s + 64 + 20 ≤ b.wireLen p s.ent f))

/-- The nodes of a TS port's segment (R390). -/
def Blk.plcaNodes (b : Blk) (p : Nat) : Nat :=
  let n := b.fld (F.ETH_PLCA_NODES p)
  if n = 0 ∨ 8 < n then 8 else n

/-- Has a TS port a transmit opportunity (R368, R390; Clause 148 of IEEE 802.3, log 67)? With PLCA its NODE_ID is one
of the segment's nodes; a frame follows the last one of its opportunity within 128 bit times, at most BURST of them, or
comes in the next, which the opportunities of the other nodes keep off by TO_TMR each. -/
def Blk.plcaMay (b : Blk) (p : Nat) : Bool :=
  let x := b.portOf p
  !b.on (F.ETH_PLCA_EN p) || (decide (b.fld (F.ETH_PLCA_NODE_ID p) < b.plcaNodes p) &&
    (x.oppN == 0 || (decide (x.oppN ≤ b.fld (F.ETH_PLCA_BURST p)) && decide (b.clk ≤ x.oppEnd + b.bitTicks p 128)) ||
      decide (x.oppEnd + b.bitTicks p ((b.plcaNodes p - 1) * b.fld (F.ETH_PLCA_TO_TMR p)) ≤ b.clk)))

/-- May port `p` begin a frame now: it is idle, or only a frame that may be preempted stands in its way (R378); a TS
port, half-duplex, receives none and has a transmit opportunity (R368). -/
def Blk.portFree (b : Blk) (p : Nat) : Bool :=
  (b.txOf p).all (fun s => s.pre && b.mayPreempt p s) &&
    (!isTs p || ((b.portOf p).rx.isNone && b.plcaMay p))

/-- A frame that a TS port begins is a further one of its opportunity, or the first of the next (R368, R390). -/
def Blk.plcaTake (b : Blk) (p : Nat) : Blk :=
  let x := b.portOf p
  if !isTs p then b
  else b.setPort p { x with
    oppN := if x.oppN ≤ b.fld (F.ETH_PLCA_BURST p) ∧ b.clk ≤ x.oppEnd + b.bitTicks p 128 then x.oppN + 1 else 1 }

/-- The frame at the head of queue (p, tc) begins; `ecc` 1 corrected, 2 uncorrectable buffer error, n from 3 on n - 1
corrected ones (R297). -/
def Blk.txBegin (b : Blk) (p tc : Nat) (e : QEnt) (f : Frm) (ecc : Nat) : Blk :=
  if ecc = 2 then (b.eccLose p f.id).outSync p
  else
    let b0 := if ecc = 0 then b else b.incWrap F.SWC_ECC_CORR_CORR (max 1 (ecc - 1))
    let prot := b0.protects p (b0.entBytes p e f)
    let m := if prot then b0.takePn p else (some (0, 0), b0)
    match m.1 with
    | none => m.2.unqueue p tc e
    | some sa =>
      let late := p < 28 && f.lt && decide (1000 < m.2.ageOf f.ts)
      let b1 := if late then m.2.ethCnt p 9 else m.2
      let b2 := (b1.plcaTake p).setTx p ({ ent := e, tc := tc, since := b.now, pre := b.isPre p tc
                                           msec := if prot then some sa else none, began := b.clk } ::
        (b1.txOf p).map (b1.holdTx p))
      if e.cs then b2 else b2.ptpFrame p true 0 f.data

/-- The port takes frames until one begins: those past MAXRES, and those of a doubled cell, are discarded
(R293, R296, R344). -/
def Blk.txPick (b : Blk) (p ecc : Nat) : Nat → Blk
  | 0 => b
  | n + 1 =>
    match ((List.range 8).reverse).find? (fun tc => b.eligible p tc) with
    | none => b
    | some tc =>
      match b.headOf p tc with
      | none => b
      | some (e, f) =>
        if f.dbl then (b.kill f.id).txPick p ecc n
        else if b.tooOld p tc f.ts then ((b.incWrap (F.Q_RES_DROP_RES_DROP p tc)).unqueue p tc e).txPick p ecc n
        else b.txBegin p tc e f ecc

/-- Does a port send: its link is up and reported so? -/
def Blk.txOn (b : Blk) (p : Nat) : Bool := b.kcRun && !b.gateOff p && b.portUp p && !b.downOf p

/-- An eligible queue starts its next frame (R344). -/
def Blk.txStart (b : Blk) (p ecc : Nat) : Blk :=
  if b.txOn p && b.portFree p then
    let b1 := b.shapeAll p
    b1.txPick p ecc (((List.range 8).map (fun tc => (b1.queue p tc).length)).sum + 1)
  else b

/-- The frame on the wire of port `p` ends: a frame that it preempted resumes if its gate is open (R348). -/
def Blk.txPop (b : Blk) (p : Nat) : Blk :=
  match (b.shapeAll p).txOf p with
  | [] => b
  | s :: l =>
    (((b.shapeAll p).setTx p l).resume p).unqueue p s.tc s.ent

/-- The last byte of the frame on the wire of port `p` has left (R290), once all its bytes have had their time, what
MACsec adds included (R382). A frame shorter than Ethernet's minimum is filled with zeros (log 96). -/
def Blk.txEnd (b : Blk) (p : Nat) : Blk :=
  match b.txOf p with
  | [] => b
  | s :: _ =>
    match b.frm s.ent.frm with
    | none => b.txPop p
    | some f =>
      if s.held || !frmLinked f then b
      else
        let l := b.entBytes p s.ent f
        let w0 := match s.msec with
          | some (an, pn) => b.protect p an pn l
          | none => l
        let w := if p < 26 then padFrame w0 else w0
        if b.wireBytes p s < w.length + 4 then b else
        let b1 := if p < 28 then b.ethCnt p 6 else b
        let b2 := if 26 ≤ p then b1.setFab { b1.k.fab with
              out := b1.k.fab.out.set (fun _ => []) p
                (b1.k.fab.out.get (fun _ => []) p ++ [(w, w.length + 4, f.ts, f.vid * 8 + s.tc)]) }
          else b1.setPort p { b1.portOf p with
            sent := w
            oppEnd := b1.clk }
        b2.txPop p

/-- The MAC needs a byte that has not been linked (R376). -/
def Blk.txUnderrun (b : Blk) (p : Nat) : Blk :=
  match b.txOf p with
  | [] => b
  | s :: _ =>
    if s.held || (b.frm s.ent.frm).any frmLinked || !isFast p then b
    else
      let b1 := (((b.ethCnt p 7).ethEvt p 1).raise 80 p).put (F.ETH_STAT_CT_THR p)
        (min 0xffff (b.fld (F.ETH_STAT_CT_THR p) + 256))
      ((b1.setPort p { b1.portOf p with ctAt := b.clk }).cutTx p s (b.frm s.ent.frm)).txPop p

/-- The bytes on the wire of a transmission ended early, the four of the complemented FCS among them (R376, R377): at
most what the port makes of the cells that had been linked, as far as the time it has been sent reaches. -/
def Blk.cutWire (b : Blk) (p : Nat) : List Byte :=
  match (b.portOf p).cut with
  | none => []
  | some (s, f, t) =>
    let whole := match s.msec with
      | some (an, pn) => b.protect p an pn (b.entBytes p s.ent f)
      | none => b.entBytes p s.ent f
    let part := b.entBytes p s.ent { f with data := f.data.take (f.linked * 64 - 16) }
    let n := if frmLinked f then whole.length else part.length + if s.msec.isSome then 16 else 0
    let w := whole.take (min n t)
    w ++ leBytes 4 (2 ^ 32 - 1 - crc32.of w)

/-- DECAY ms have passed without an underrun (R376). -/
def Blk.ctDecay (b : Blk) (p : Nat) : Blk :=
  let d := b.fld (F.ETH_CT_DECAY p)
  let x := b.portOf p
  if !b.kcRun || d == 0 || decide (b.clk < x.ctAt + d * tickMs) then b
  else (b.put (F.ETH_STAT_CT_THR p) (max 256 (b.fld (F.ETH_STAT_CT_THR p) - 256))).setPort p { x with ctAt := b.clk }

/-- A write of ETH_CT (R376). -/
def Blk.ctWrite (b : Blk) (p : Nat) (v : W32) : Blk :=
  let b1 := b.writeReg (R.ETH_CT p) v
  if (F.ETH_CT_CT_RESET p).get v = 1 then b1.put (F.ETH_STAT_CT_THR p) 256 else b1

/-- 802.3br verification ends (R378). -/
def Blk.verifyEnd (b : Blk) (p : Nat) (ok : Bool) : Blk :=
  if isMgGb p && b.fld (F.ETH_PREEMPT_STATUS p) == 1 then
    if ok then b.put (F.ETH_PREEMPT_STATUS p) 2
    else ((b.put (F.ETH_PREEMPT_STATUS p) 3).ethEvt p 5).raise 86 p
  else b

/-! ## TC10 -/

/-- The port enters TC10 sleep (R383). -/
def Blk.tc10Sleep (b : Blk) (p : Nat) : Blk := (b.linkDown p true).put (F.ETH_STAT_STATE p) 4

/-- The port leaves TC10 sleep, or retrains (R384). -/
def Blk.tc10Wake (b : Blk) (p : Nat) : Blk :=
  if b.on (F.ETH_CTL_EN p) && !(b.portOf p).barred then (((b.linkDown p false).trainDrop p).linkSeek p).tsSync p
  else b.put (F.ETH_STAT_STATE p) 5

/-- A write of ETH_TC10 (R383, R384). -/
def Blk.tc10Write (b : Blk) (p : Nat) (v : W32) : Blk :=
  let b1 := b.writeReg (R.ETH_TC10 p) v
  if hasTc10 p = false then b1
  else
    let b2 := if (F.ETH_TC10_SLEEP_REQ p).get v = 1 ∧ b1.on (F.ETH_STAT_LINK p) then
        b1.setPort p { b1.portOf p with slpAt := some b1.clk }
      else b1
    if (F.ETH_TC10_WAKE_REQ p).get v = 1 then
      (b2.setPort p { b2.portOf p with wups := (b2.portOf p).wups + 1 }).tc10Wake p
    else b2

/-- The partner accepts the sleep request (R383). -/
def Blk.tc10Accepted (b : Blk) (p : Nat) : Blk :=
  match (b.portOf p).slpAt with
  | none => b
  | some t => if b.clk ≤ t + 16 * tickMs then b.tc10Sleep p else b

/-- The partner has not accepted within 16 ms (R383). -/
def Blk.tc10Timeout (b : Blk) (p : Nat) : Blk :=
  match (b.portOf p).slpAt with
  | none => b
  | some t =>
    if t + 16 * tickMs ≤ b.clk then
      ((b.setPort p { b.portOf p with slpAt := none }).put (F.ETH_TC10_SLP_FAIL p) 1).ethEvt p 3
    else b

/-- The partner asks for sleep (R383). -/
def Blk.tc10Partner (b : Blk) (p : Nat) : Blk :=
  if b.kcRun && b.on (F.ETH_STAT_LINK p) && b.on (F.ETH_TC10_ACCEPT_RX p) then b.tc10Sleep p else b

/-- A detector receives a TC10 wake-up pulse (R384, R455, R456, R460): it runs in TC10 sleep and where STANDBY has
powered the PHY down while WAKE_EN is 1, and in SLEEP and its entry where WAKE_EN was 1 at step 1. -/
def Blk.tc10Pulse (b : Blk) (p : Nat) : Blk :=
  let on := b.kcRun && b.on (F.ETH_TC10_WAKE_EN p)
  let local' := on && b.fld (F.ETH_STAT_STATE p) == 4
  let b1 := if local' || (on && b.slp.sbEth.testBit p) || b.slp.detect.testBit p then b.wakeFrom (0x60 + p) else b
  if local' then (b1.ethEvt p 2).tc10Wake p else b1

/-- Port `p` returns to its reset state (R394). -/
def Blk.portReset (b : Blk) (p : Nat) : Blk :=
  let lo := 0x42000000 + 0x10000 * p
  let b1 := ((b.linkDown p true).rxAbort p).trainDrop p
  let b2 := b1.keepRegs (fun a => a < lo || lo + 0x10000 ≤ a)
  { b2 with k := { b2.k with port := b2.k.port.set (fun _ => {}) p {} } }

/-- The change time of port `p` has come (R347). A frame of an express class that is being sent, and whose gate the
new list does not leave open to its end, completes and counts as an overrun (R348). -/
def Blk.listSwitch (b : Blk) (p : Nat) : Blk :=
  let b1 := (b.shapeAll p).qbvSwitch p
  let short (s : Sending) : Bool := !s.pre && (match b1.frm s.ent.frm with
    | some f =>
      let till := s.since + b1.wireNs p s.ent f
      decide (b1.now < till) && !b1.gateStays p s.tc till 520 b1.now
    | none => false)
  if (b1.qbvOf p).chg != (b.qbvOf p).chg && (b1.txOf p).any short then
    (b1.incSat (F.QBV_STAT_GATE_OVERRUN p)).raise 76 p
  else b1

/-- The frames of preemptable classes on port `p` are preempted, where they may be, and resumed as the gates, Hold and
express frames have it (R346, R348, R378). The shapers are counted up to here. -/
def Blk.preemptSync (b : Blk) (p : Nat) : Blk :=
  let b1 := b.shapeAll p
  let g := b1.gatesAt p b1.now
  let l := b1.txOf p
  b1.setTx p (l.map (fun s =>
    if !s.pre then s
    else if !g.2.testBit s.tc || b1.holdPre p || l.any (fun x => !x.pre) then
      (if b1.mayPreempt p s then b1.holdTx p s else s)
    else b1.goOn s))

/-- A gate-list boundary of port `p` (R346, R348). -/
def Blk.gateBoundary (b : Blk) (p : Nat) : Blk := (b.preemptSync p).qbvSync p

/-- A frame whose gate has closed before its fragment had the smallest length is preempted once it has (R378). -/
def Blk.preemptAll (b : Blk) : Blk :=
  (b.k.fab.tx.filter (fun q => q.2.any (·.pre))).foldl (fun x q => x.preemptSync q.1) b

/-! ## Meanings -/

/-- A gate-list boundary of port `p` (R346). -/
def execGateEntryBoundary (p : Nat) (s : State) : Host.Outcome State Fault Refusal :=
  onBlk (p < 29) s (fun b => b.gateBoundary p)

/-- The administrative list of port `p` becomes the operating list (R347). -/
def execGateListSwitch (p : Nat) (s : State) : Host.Outcome State Fault Refusal :=
  onBlk (p < 29) s (fun b => b.listSwitch p)

/-- The engine judges the frame that waits first at input `p`, or takes the first 128 bytes of a frame of `l`
bytes that port `p` receives, `dur` ns after its start (R323 to R325). -/
def execFrameLookup (p : Nat) (head : List Byte) (l dur : Nat) (s : State) : Host.Outcome State Fault Refusal :=
  onBlk (p < 29) s (fun b => if (b.lookOf p).isEmpty then b.rxHead p head l dur else b.judgeWaiting p)

/-- A received frame ends (R371). -/
def execFrameReceiveEnd (p : Nat) (l : List Byte) (fcs : Bool) (dur : Nat) (s : State) :
    Host.Outcome State Fault Refusal := onBlk (p < 26) s (fun b => b.rxEnd p l fcs dur)

/-- An egress port starts its next frame (R344). -/
def execFrameTransmitStart (p ecc : Nat) (s : State) : Host.Outcome State Fault Refusal :=
  onBlk (p < 29) s (fun b => b.txStart p ecc)

/-- The PHY's link state changes (R369). -/
def execPhyLinkChange (p : Nat) (up : Bool) (s : State) : Host.Outcome State Fault Refusal :=
  onBlk (p < 26) s (fun b => b.phyChange p up)

/-- Link training ends (R370). -/
def execLinkTrainingDone (p : Nat) (ok : Bool) (s : State) : Host.Outcome State Fault Refusal :=
  onBlk (p < 4) s (fun b => b.trainEnd p ok)

/-- The port retries its training (R370). -/
def execTrainingRetry (p : Nat) (s : State) : Host.Outcome State Fault Refusal :=
  onBlk (p < 4) s (fun b => b.trainRetry p)

/-- A paused class's time runs out (R373). -/
def execPauseExpiry (p tc : Nat) (s : State) : Host.Outcome State Fault Refusal :=
  onBlk (p < 26 && tc < 8) s (fun b => b.pauseOver p tc)

/-- The port sends pause or quanta 0 (R374). -/
def execPauseTransmit (p : Nat) (s : State) : Host.Outcome State Fault Refusal :=
  onBlk (p < 26) s (fun b => b.pauseTx p)

/-- The port sends pause again (R374). -/
def execPauseRefresh (p : Nat) (s : State) : Host.Outcome State Fault Refusal :=
  onBlk (p < 26) s (fun b => b.pauseAgain p)

/-- TB0 reaches the launch time of a frame at the head of a queue of port `p` (R375): an idle port starts it. -/
def execLaunchTimeReached (p ecc : Nat) (s : State) : Host.Outcome State Fault Refusal :=
  onBlk (p < 29) s (fun b =>
    if (List.range 8).any (fun tc => (b.headOf p tc).any (fun x => x.2.lt && decide (0 ≤ b.ageOf x.2.ts))) then
      b.txStart p ecc
    else b)

/-- A transmit underrun (R376). -/
def execTransmitUnderrun (p : Nat) (s : State) : Host.Outcome State Fault Refusal :=
  onBlk (p < 26) s (fun b => b.txUnderrun p)

/-- DECAY ms without an underrun (R376). -/
def execCtDecay (p : Nat) (s : State) : Host.Outcome State Fault Refusal := onBlk (p < 26) s (fun b => b.ctDecay p)

/-- A write of ETH_CT (R376). -/
def execCtReset (i : Init) (p : Nat) (v : W32) (s : State) : Host.Outcome State Fault Refusal :=
  onBlk (p < 26) s (fun b => b.onWrite i (R.ETH_CT p) v (fun b => b.ctWrite p v))

/-- Verification of preemption ends (R378). -/
def execPreemptionVerify (p : Nat) (ok : Bool) (s : State) : Host.Outcome State Fault Refusal :=
  onBlk (p < 12) s (fun b => b.verifyEnd p ok)

/-- A write of ETH_TC10 with SLEEP_REQ (R383). -/
def execTc10SleepRequest (i : Init) (p : Nat) (v : W32) (s : State) : Host.Outcome State Fault Refusal :=
  onBlk (p < 20) s (fun b => b.onWrite i (R.ETH_TC10 p) v (fun b => b.tc10Write p v))

/-- The partner accepts TC10 sleep (R383). -/
def execTc10SleepAccepted (p : Nat) (s : State) : Host.Outcome State Fault Refusal :=
  onBlk (p < 20) s (fun b => b.tc10Accepted p)

/-- The partner does not accept within 16 ms (R383). -/
def execTc10SleepTimeout (p : Nat) (s : State) : Host.Outcome State Fault Refusal :=
  onBlk (p < 20) s (fun b => b.tc10Timeout p)

/-- The partner requests sleep (R383). -/
def execTc10PartnerSleep (p : Nat) (s : State) : Host.Outcome State Fault Refusal :=
  onBlk (p < 20) s (fun b => b.tc10Partner p)

/-- A wake-up pulse arrives (R384). -/
def execTc10WakePulse (p : Nat) (s : State) : Host.Outcome State Fault Refusal :=
  onBlk (p < 20) s (fun b => b.tc10Pulse p)

/-- A write of ETH_TC10 with WAKE_REQ (R384). -/
def execTc10WakeRequest (i : Init) (p : Nat) (v : W32) (s : State) : Host.Outcome State Fault Refusal :=
  onBlk (p < 20) s (fun b => b.onWrite i (R.ETH_TC10 p) v (fun b => b.tc10Write p v))

/-- A 10BASE-T1S port sees a duplicate node ID (R389). -/
def execDuplicateNodeId (p : Nat) (s : State) : Host.Outcome State Fault Refusal :=
  onBlk (20 ≤ p && p < 24) s (fun b =>
    if b.kcRun && b.on (F.ETH_CTL_EN p) && b.on (F.ETH_PLCA_EN p) then b.raise 85 p else b)

end Sys2Proof.Machine
end

