-- ==== Sys2Proof/Machine/Host.lean ====
section
/-!
DEFINITION. Machine/Host.lean: the host ports HP0 and HP1: queue pairs, descriptors, launch times, delivery into
memory (R385 to R388, R393), and the end of a transmission, which writes host descriptors back (R290).
-/

namespace Sys2Proof.Machine

/-- The length of a ring from its SIZE field; outside 4 to 12 it acts as 4. -/
def qpLen (n : Nat) : Nat := 2 ^ (if 4 ≤ n ∧ n ≤ 12 then n else 4)
def Blk.txLen (b : Blk) (q : Nat) : Nat := qpLen (b.fld (F.QP_CTL_TX_SIZE q))
def Blk.rxLen (b : Blk) (q : Nat) : Nat := qpLen (b.fld (F.QP_CTL_RX_SIZE q))

/-- The device address of transmit descriptor `k`, and of receive descriptor `k`. -/
def Blk.txDescAt (b : Blk) (q k : Nat) : Nat :=
  (b.reg (R.QP_TX_BASE_HI q)).toNat * 2 ^ 32 + (b.reg (R.QP_TX_BASE_LO q)).toNat / 64 * 64 + 16 * (k % b.txLen q)
def Blk.rxDescAt (b : Blk) (q k : Nat) : Nat :=
  (b.reg (R.QP_RX_BASE_HI q)).toNat * 2 ^ 32 + (b.reg (R.QP_RX_BASE_LO q)).toNat / 64 * 64 + 16 * (k % b.rxLen q)

/-- A descriptor (R387): ADDR, LEN, its flags and STATUS, LAUNCH. -/
structure Desc where
  addr : Nat
  len : Nat
  flags : Nat
  launch : Nat
deriving DecidableEq, Repr

def descOf (l : List Byte) : Desc := ⟨leNat (l.take 8), fieldAt l 8 2, fieldAt l 10 2, fieldAt l 12 4⟩
def Desc.hw (d : Desc) : Bool := d.flags.testBit 0
def Desc.eop (d : Desc) : Bool := d.flags.testBit 1

/-! ## Completions -/

/-- The queue pair sends its interrupt message (R491). -/
def Blk.qpMsg (b : Blk) (q : Nat) : Blk :=
  { b with k := { b.k with
    coal := b.k.coal.set (fun _ => (0, 0)) q (0, 0)
    msi := if b.k.msi.contains q then b.k.msi else b.k.msi ++ [q] } }

/-- A completion (R386, R393). -/
def Blk.qpDone (b : Blk) (q : Nat) : Blk :=
  let c := b.k.coal.get (fun _ => (0, 0)) q
  if max 1 (b.fld (F.QP_IRQ_COAL_N q)) ≤ c.1 + 1 then b.qpMsg q
  else { b with k := { b.k with
    coal := b.k.coal.set (fun _ => (0, 0)) q (c.1 + 1, if c.1 = 0 then b.clk else c.2) } }

/-- The ATU has refused an access of the pair: it stops, once (R388). -/
def Blk.qpErr (b : Blk) (q : Nat) : Blk :=
  if b.on (F.QP_STAT_FETCH_ERR q) then b
  else (b.put (F.QP_STAT_FETCH_ERR q) 1).raise 83 q (some (b.devCtx 1 q))

/-! ## Descriptors written back -/

/-- Transmit descriptors `k` to `k + n - 1` are written back with STATUS `st` and HW 0 (R385, R387). -/
def Blk.txBack (b : Blk) (m : List Host.Cell) (q k st : Nat) : Nat → Blk × List Host.Cell
  | 0 => (b, m)
  | n + 1 =>
    match b.rd m 1 q (b.txDescAt q k + 10) 2 with
    | (.ok d, b1, m1) =>
      match b1.wr m1 1 q (b1.txDescAt q k + 10) (leBytes 2 (leNat d / 2 * 2 % 2 ^ 12 + st * 2 ^ 12)) with
      | (.ok _, b2, m2) => b2.txBack m2 q (k + 1) st n
      | (.refused, b2, m2) => (b2.qpErr q, m2)
      | (.held, b2, m2) => (b2, m2)
    | (.refused, b1, m1) => (b1.qpErr q, m1)
    | (.held, b1, m1) => (b1, m1)

/-- The descriptors of frames that have left the core are written back as sent (R290, R385). -/
def hostBack : List (Nat × Nat × Nat) → Blk × List Host.Cell → Blk × List Host.Cell
  | [], r => r
  | (q, k, n) :: l, r =>
    let x := r.1.txBack r.2 q k 0 n
    hostBack l (((x.1.incWrap (F.QP_TXCNT_TXCNT q)).qpDone q), x.2)

def Blk.hostBack (r : Blk × List Host.Cell) : Blk × List Host.Cell :=
  Machine.hostBack r.1.k.fab.hostDone (r.1.setFab { r.1.k.fab with hostDone := [] }, r.2)

/-! ## Transmit -/

/-- Has the pair a turn to take (R385)? -/
def Blk.qpReady (b : Blk) (q : Nat) : Bool :=
  b.on (F.QP_CTL_EN q) && !b.on (F.QP_STAT_FETCH_ERR q) && !b.on (F.QP_STAT_STALLED q) &&
    b.fld (F.QP_TX_HEAD_HEAD q) % b.txLen q != b.fld (F.QP_TX_TAIL_TAIL q) % b.txLen q

/-- The descriptors of the frame at HEAD, up to the first with EOP; an error while it is not complete, with the
descriptor whose fetch was refused if one was. -/
def Blk.txFetch (b : Blk) (m : List Host.Cell) (q k : Nat) :
    Nat → Except (Option Nat) (List Desc) × Blk × List Host.Cell
  | 0 => (.ok [], b, m)
  | n + 1 =>
    if k % b.txLen q = b.fld (F.QP_TX_TAIL_TAIL q) % b.txLen q then (.error none, b, m)
    else
      match b.rd m 1 q (b.txDescAt q k) 16 with
      | (.ok l, b1, m1) =>
        let d := descOf l
        if d.hw = false then (.error none, b1, m1)
        else if d.eop then (.ok [d], b1, m1)
        else
          match b1.txFetch m1 q (k + 1) n with
          | (.ok ds, b2, m2) => (.ok (d :: ds), b2, m2)
          | r => r
      | (.refused, b1, m1) => (.error (some k), b1, m1)
      | (.held, b1, m1) => (.error none, b1, m1)

/-- The bytes of the buffers of a frame. -/
def Blk.txGather (b : Blk) (m : List Host.Cell) (q : Nat) : List Desc → DmaEnd × Blk × List Host.Cell
  | [] => (.ok [], b, m)
  | d :: ds =>
    match b.rd m 1 q d.addr d.len with
    | (.ok l, b1, m1) =>
      match b1.txGather m1 q ds with
      | (.ok l', b2, m2) => (.ok (l ++ l'), b2, m2)
      | r => r
    | r => r

/-- A frame waits at its input. -/
def Blk.hostLook (b : Blk) (hp : Nat) (x : Rx) : Blk :=
  b.setLook (26 + hp) (b.lookOf (26 + hp) ++ [{ x with since := b.clk }])

/-- The frame at HEAD of pair `q` is fetched and passed on, or ends with its STATUS (R385, R388). -/
def Blk.txFrame (b : Blk) (m : List Host.Cell) (q : Nat) : Blk × List Host.Cell :=
  let hp := q / 64
  let k := b.fld (F.QP_TX_HEAD_HEAD q) % b.txLen q
  match b.txFetch m q k (b.txLen q) with
  | (.error (some j), b1, m1) =>
    let r := b1.txBack m1 q j 2 1
    (r.1.qpErr q, r.2)
  | (.error none, b1, m1) => (b1, m1)
  | (.ok ds, b1, m1) =>
    let n := ds.length
    let skip (b : Blk) : Blk := b.put (F.QP_TX_HEAD_HEAD q) ((k + n) % b.txLen q)
    let fail (b : Blk) (m : List Host.Cell) (st : Nat) : Blk × List Host.Cell :=
      let r := b.txBack m q k st n
      ((skip r.1).qpDone q, r.2)
    let len := (ds.map (·.len)).sum
    let first := ds.headD ⟨0, 0, 0, 0⟩
    let lt := first.flags.testBit 2
    let at' := first.launch + (first.flags.testBit 3).toNat * 2 ^ 32
    let ahead := (at' + 2 ^ 33 - b.ts33) % 2 ^ 33
    if 16 < n ∨ b.maxLen (26 + hp) < max 60 len + 4 then fail b1 m1 1
    else if lt ∧ ahead < 2 ^ 32 ∧ 1000000000 < ahead then fail b1 m1 3
    else
      match b1.txGather m1 q ds with
      | (.refused, b2, m2) =>
        let r := b2.txBack m2 q k 2 n
        (r.1.qpErr q, r.2)
      | (.held, b2, m2) => (b2, m2)
      | (.ok l, b2, m2) =>
        let x : Rx :=
          { data := padFrame l, ts := if lt then at' else b.ts33, since := b.clk, host := some (q, k, n), lt := lt }
        let b3 := skip b2
        let lead := b.fld (F.QP_CTL_LT_LEAD q) * 1000
        if lt ∧ ahead < 2 ^ 32 ∧ lead < ahead then
          (b3.setPort (26 + hp) { b3.portOf (26 + hp) with
            wait := (b3.portOf (26 + hp)).wait ++ [(q, b.now + (ahead - lead), x)] }, m2)
        else (b3.hostLook hp x, m2)

/-- The pair whose turn it is at host port `hp`, and the turn state after it (R385). -/
def Blk.qpTurn (b : Blk) (hp : Nat) : Option (Nat × (Nat × Nat)) :=
  let t := (b.portOf (26 + hp)).turn
  let cur := 64 * hp + t.1 % 64
  if t.2 ≠ 0 ∧ b.qpReady cur then some (cur, (t.1, t.2 - 1))
  else
    match ((List.range 64).map (fun j => (t.1 + 1 + j) % 64)).find? (fun j => b.qpReady (64 * hp + j)) with
    | none => none
    | some j => some (64 * hp + j, (j, max 1 (b.fld (F.QP_CTL_WEIGHT (64 * hp + j))) - 1))

/-- A host port serves the next pair (R385). -/
def Blk.hostTx (b : Blk) (m : List Host.Cell) (hp : Nat) : Blk × List Host.Cell :=
  if !b.kcRun || b.gateOff (26 + hp) || !b.on (F.ETH_CTL_EN (26 + hp)) then (b, m)
  else
    match b.qpTurn hp with
    | none => Blk.hostBack (b, m)
    | some (q, t) =>
      Blk.hostBack ((b.setPort (26 + hp) { b.portOf (26 + hp) with turn := t }).txFrame m q)

/-- A launch frame of host port `hp` whose time less LT_LEAD has come is passed on (R385). -/
def Blk.hostPass (b : Blk) (hp : Nat) : Blk :=
  let x := b.portOf (26 + hp)
  match x.wait.find? (fun e => e.2.1 ≤ b.now) with
  | none => b
  | some e => (b.setPort (26 + hp) { x with wait := x.wait.erase e }).hostLook hp e.2.2

/-! ## Receive -/

/-- The free descriptors that hold `n` bytes from descriptor `k` on; an error with a descriptor: its fetch was
refused, without: it is held; `ok []`: they do not suffice. -/
def Blk.rxFetch (b : Blk) (m : List Host.Cell) (q k n : Nat) :
    Nat → Except (Option Nat) (List Desc) × Blk × List Host.Cell
  | 0 => (.ok [], b, m)
  | fuel + 1 =>
    if k % b.rxLen q = b.fld (F.QP_RX_TAIL_TAIL q) % b.rxLen q then (.ok [], b, m)
    else
      match b.rd m 1 q (b.rxDescAt q k) 16 with
      | (.ok l, b1, m1) =>
        let d := descOf l
        if d.hw = false then (.ok [], b1, m1)
        else if n ≤ d.len then (.ok [d], b1, m1)
        else
          match b1.rxFetch m1 q (k + 1) (n - d.len) fuel with
          | (.ok [], b2, m2) => (.ok [], b2, m2)
          | (.ok ds, b2, m2) => (.ok (d :: ds), b2, m2)
          | r => r
      | (.refused, b1, m1) => (.error (some k), b1, m1)
      | (.held, b1, m1) => (.error none, b1, m1)

/-- The buffers are written in order. -/
def Blk.rxFill (b : Blk) (m : List Host.Cell) (q : Nat) : List Desc → List Byte → DmaEnd × Blk × List Host.Cell
  | [], _ => (.ok [], b, m)
  | d :: ds, l =>
    match b.wr m 1 q d.addr (l.take d.len) with
    | (.ok _, b1, m1) => b1.rxFill m1 q ds (l.drop d.len)
    | r => r

/-- The descriptors are written back in ring order (R386, R387); `left` bytes remain to be shown. -/
def Blk.rxBack (b : Blk) (m : List Host.Cell) (q k ts left st : Nat) : List Desc → DmaEnd × Blk × List Host.Cell
  | [] => (.ok [], b, m)
  | d :: ds =>
    let fl := (ds.isEmpty).toNat * 2 + ts / 2 ^ 32 % 2 * 4 + st * 2 ^ 12
    match b.wr m 1 q (b.rxDescAt q k + 8) (leBytes 2 (min left d.len) ++ leBytes 2 fl ++ leBytes 4 ts) with
    | (.ok _, b1, m1) => b1.rxBack m1 q (k + 1) ts (left - d.len) st ds
    | r => r

/-- The pair that a delivered frame goes to (R386). -/
def Blk.steer (b : Blk) (hp vid tc : Nat) : Nat :=
  64 * hp + (b.fld (F.HP_STEER_BASE hp vid) + tc % 2 ^ b.fld (F.HP_STEER_TCBITS hp vid)) % 64

/-- Host port `hp` stores the frame that its output delivered first, or drops it (R386, R388). -/
def Blk.hostRx (b : Blk) (m : List Host.Cell) (hp : Nat) : Blk × List Host.Cell :=
  match b.k.fab.out.get (fun _ => []) (26 + hp) with
  | [] => (b, m)
  | (data, _, ts, vt) :: rest =>
    let took (b : Blk) : Blk := b.setFab { b.k.fab with out := b.k.fab.out.set (fun _ => []) (26 + hp) rest }
    let q := b.steer hp (vt / 8) (vt % 8)
    let l := if b.on (F.ETH_CTL_FCS_STRIP (26 + hp)) then data else data ++ leBytes 4 (crc32.of data)
    let k := b.fld (F.QP_RX_HEAD_HEAD q) % b.rxLen q
    let drop (b : Blk) : Blk := (took b).incWrap (F.QP_RXDROP_RXDROP q)
    if !b.on (F.QP_CTL_EN q) || b.on (F.QP_STAT_FETCH_ERR q) then (drop b, m)
    else
      match b.rxFetch m q k l.length (b.rxLen q) with
      | (.error none, b1, m1) => (b1, m1)
      | (.error (some j), b1, m1) =>
        let r := b1.rxBack m1 q j ts 0 2 [⟨0, 0, 0, 0⟩]
        ((drop r.2.1).qpErr q, r.2.2)
      | (.ok [], b1, m1) => (drop b1, m1)
      | (.ok ds, b1, m1) =>
        let fin : DmaEnd × Blk × List Host.Cell :=
          match b1.rxFill m1 q ds l with
          | (.ok _, b2, m2) => b2.rxBack m2 q k ts l.length 0 ds
          | (.refused, b2, m2) =>
            let r := b2.rxBack m2 q k ts l.length 2 ds
            (.refused, r.2.1, r.2.2)
          | r => r
        match fin with
        | (.ok _, b3, m3) =>
          (((took b3).put (F.QP_RX_HEAD_HEAD q) ((k + ds.length) % b3.rxLen q)).qpDone q, m3)
        | (.refused, b3, m3) => ((drop b3).qpErr q, m3)
        | (.held, b3, m3) => (b3, m3)

/-- A write of QP_CTL (R388, R393): EN 0 clears FETCH_ERR. -/
def Blk.qpCtl (b : Blk) (q : Nat) (v : W32) : Blk :=
  let b1 := b.writeReg (R.QP_CTL q) v
  if b1.on (F.QP_CTL_EN q) then b1 else b1.put (F.QP_STAT_FETCH_ERR q) 0

/-- COAL_US has passed with completions waiting (R393). -/
def Blk.coalOver (b : Blk) (q : Nat) : Blk :=
  let c := b.k.coal.get (fun _ => (0, 0)) q
  let us := b.fld (F.QP_IRQ_COAL_US q)
  if b.kcRun && c.1 != 0 && us != 0 && decide (c.2 + us * tickUs ≤ b.clk) then b.qpMsg q else b

/-! ## Meanings -/

/-- The last byte of a frame copy leaves egress port `p` (R290). -/
def execFrameTransmitEnd (p : Nat) (s : State) : Host.Outcome State Fault Refusal :=
  onMem (p < 29) s (fun b m => Blk.hostBack (b.txEnd p, m))

/-- A write of QP_TX_TAIL (R385). -/
def execQpTxTailWrite (i : Init) (q : Nat) (v : W32) (s : State) : Host.Outcome State Fault Refusal :=
  onBlk (q < 128) s (fun b => b.onWrite i (R.QP_TX_TAIL q) v (fun b => b.writeReg (R.QP_TX_TAIL q) v))

/-- Host port `hp` serves the next queue pair (R385). -/
def execHostTxFrame (hp : Nat) (s : State) : Host.Outcome State Fault Refusal :=
  onMem (hp < 2) s (fun b m => b.hostTx m hp)

/-- A launch frame is passed to its input (R385). -/
def execHostLaunchPass (hp : Nat) (s : State) : Host.Outcome State Fault Refusal :=
  onBlk (hp < 2) s (fun b => b.hostPass hp)

/-- A delivered frame is stored (R386). -/
def execHostRxFrame (hp : Nat) (s : State) : Host.Outcome State Fault Refusal :=
  onMem (hp < 2) s (fun b m => Blk.hostBack (b.hostRx m hp))

/-- A write of QP_CTL (R388). -/
def execQpEnableWrite (i : Init) (q : Nat) (v : W32) (s : State) : Host.Outcome State Fault Refusal :=
  onBlk (q < 128) s (fun b => b.onWrite i (R.QP_CTL q) v (fun b => b.qpCtl q v))

/-- COAL_US passes with completions waiting (R393). -/
def execQpCoalesceTimeout (q : Nat) (s : State) : Host.Outcome State Fault Refusal :=
  onBlk (q < 128) s (fun b => b.coalOver q)

end Sys2Proof.Machine
end

