-- ==== Sys2Proof/Machine/Inputs.lean ====
section
/-!
DEFINITION. Machine/Inputs.lean: the general inputs of UH (R194 to R201, R215 to R222) and the enable
registers of the message sources (R585).
-/

namespace Sys2Proof.Machine

/-- Event bit `k` of input `n`, message source 0xC0 + n (R220, R583). -/
def Blk.diEvt (b : Blk) (n k : Nat) : Blk := b.event ⟨R.DI_EVT n, 6, 0⟩ (F.DI_EVT_IEN n) k (0xc0 + n)

/-- Is input `n` digital? -/
def Blk.diDigital (b : Blk) (n : Nat) : Bool := b.fld (F.DI_CFG_MODE n) == 1

/-- The raw level at `mv` millivolts, from the present raw level (R195). -/
def Blk.diRaw (b : Blk) (n : Nat) (mv : Int) : Bool :=
  let hi : Int := b.fld (F.DI_CFG_THR_H n) * 250
  let lo : Int := if b.fld (F.DI_CFG_THR_H n) ≤ b.fld (F.DI_CFG_THR_L n) then hi - 250
    else b.fld (F.DI_CFG_THR_L n) * 250
  let pol := b.on (F.DI_CFG_POL n)
  if hi < mv then !pol else if mv < lo then pol else (b.inputOf n).raw

/-- The spacing of the samples in SLEEP, in ticks: 0, continuous (R215). -/
def Blk.diPoll (b : Blk) : Nat :=
  let p := b.fld F.DI_GCFG_POLL
  if p = 0 then 0 else 2 ^ (min p 7 - 1) * tickMs

/-- The next sample of input `n` in SLEEP is not due (R215): the last one was taken less than the spacing ago.
DESIGN CHOICE: the phase of the samples is not stated (log 88). -/
def Blk.diBetween (b : Blk) (n : Nat) : Bool :=
  b.asleep && (b.inputOf n).pollAt != 0 && decide (b.clk + 1 < (b.inputOf n).pollAt + b.diPoll)

/-- A sample of input `n` finds `mv` millivolts (R195, R196, R197); between two samples of SLEEP nothing is seen
(R215). -/
def Blk.diEdge (b : Blk) (n : Nat) (mv : Int) : Blk :=
  let x : Input := { b.inputOf n with pollAt := if b.asleep then b.clk + 1 else 0 }
  let raw := b.diRaw n mv
  if !b.diDigital n || b.diBetween n then b
  else if raw == x.raw then b.setInput n x
  else b.setInput n { x with
    raw := raw
    rawAt := b.clk
    rawTb := if b.asleep then none else some b.now
    edges := if b.on (F.DI_FILT_CHAT_N n) then x.edges + 1 else x.edges }

/-- DEB in ticks (R218). -/
def Blk.diDeb (b : Blk) (n : Nat) : Nat := max 1 (min 1000 (b.fld (F.DI_FILT_DEB n))) * 100 * tickUs

/-- The accepted level becomes `v`; STUCK ends with the active level (R198). -/
def Blk.diLevel (b : Blk) (n : Nat) (v : Bool) : Blk :=
  if v == b.on (F.DI_STAT_LEVEL n) then b
  else
    let b1 := (b.putB (F.DI_STAT_LEVEL n) v).setInput n { b.inputOf n with actAt := b.clk }
    if v then b1 else b1.put (F.DI_STAT_STUCK n) 0

/-- Does WAKE_EDGE select a change to `v` (R217)? -/
def Blk.diWakeEdge (b : Blk) (n : Nat) (v : Bool) : Bool :=
  match b.fld (F.DI_CFG_WAKE_EDGE n) with
  | 0 => v
  | 1 => !v
  | _ => true

/-- The wake storm guard counts a wake of input `n` (R200). -/
def Blk.diStorm (b : Blk) (n : Nat) : Blk :=
  let k := b.fld F.DI_GCFG_STORM_K
  let b1 := if b.on (F.DI_STAT_STORM_CNT n) then b else b.setInput n { b.inputOf n with stormAt := b.clk }
  let b2 := b1.incSat (F.DI_STAT_STORM_CNT n)
  if k ≠ 0 ∧ k ≤ b2.fld (F.DI_STAT_STORM_CNT n) then
    let b3 := ((b2.put (F.DI_STAT_WAKE_DIS n) 1).diEvt n 5).raiseF 243 n
    { b3 with wakeDue := b3.wakeDue ++ [⟨0x30 + n, b.clk, b.fld F.AON_RTC_SEC_SEC, b.rtcSub, true⟩] }
  else b2

/-- A change of the accepted level to `v` wakes the module if the input is so set (R199). -/
def Blk.diWake (b : Blk) (n : Nat) (v : Bool) : Blk :=
  if b.arms && b.on (F.DI_CFG_WAKE_EN n) && !b.on (F.DI_STAT_WAKE_DIS n) && b.diWakeEdge n v then
    ((b.wakeFrom (0x30 + n)).diEvt n 4).diStorm n
  else b

/-- An ignition cycle re-enables every input that the storm guard disabled (R201). -/
def Blk.diIgnition (b : Blk) (n : Nat) (v : Bool) : Blk :=
  if v && b.on F.DI_GCFG_IGN_EN && b.fld F.DI_GCFG_IGN == n then
    (List.range 48).foldl (fun x k =>
      if x.on (F.DI_STAT_WAKE_DIS k) then (x.put (F.DI_STAT_WAKE_DIS k) 0).diEvt k 6 else x) b
  else b

/-- The raw level of input `n` has stayed new for DEB (R196, R199, R201). A change accepted in SLEEP has no valid
timestamp. -/
def Blk.diAccept (b : Blk) (n : Nat) : Blk :=
  let x := b.inputOf n
  if b.diDigital n && !b.on (F.DI_STAT_CHATTER n) && x.raw != b.on (F.DI_STAT_LEVEL n) &&
      x.rawAt + b.diDeb n ≤ b.clk then
    let b1 := b.diLevel n x.raw
    let b2 := match (if b.asleep then none else x.rawTb) with
      | some t => ((b1.put (F.DI_TS_TS n) t).put (F.DI_STAT_TS_EP n) (t / 2 ^ 32)).put (F.DI_STAT_TS_VALID n) 1
      | none => b1.put (F.DI_STAT_TS_VALID n) 0
    ((b2.diEvt n (if x.raw then 0 else 1)).diWake n x.raw).diIgnition n x.raw
  else b

/-- CHAT_W in ticks (R218). -/
def Blk.diChatW (b : Blk) (n : Nat) : Nat := max 1 (b.fld (F.DI_FILT_CHAT_W n)) * 10 * tickMs

/-- A chatter window of input `n` ends (R197).
DESIGN CHOICE: CHAT_N written 0 while the input is in CHATTER leaves it there, since no further window ends; debounce
that resumes at the end of CHATTER counts DEB from that instant, and a change it then accepts has that instant in
DI_TS, no raw edge having begun it (log 89). -/
def Blk.diWindow (b : Blk) (n : Nat) : Blk :=
  let x := b.inputOf n
  let lim := b.fld (F.DI_FILT_CHAT_N n)
  if b.diDigital n && lim != 0 && x.chatAt + b.diChatW n ≤ b.clk then
    let b1 := b.setInput n { x with edges := 0, chatAt := x.chatAt + b.diChatW n }
    if !b.on (F.DI_STAT_CHATTER n) && lim < x.edges then
      ((b1.put (F.DI_STAT_CHATTER n) 1).diEvt n 2).raiseF 242 n
    else if b.on (F.DI_STAT_CHATTER n) && x.edges ≤ lim / 2 then
      (b1.put (F.DI_STAT_CHATTER n) 0).setInput n { b1.inputOf n with
        rawAt := b.clk, rawTb := if b.asleep then none else some b.now }
    else b1
  else b

/-- In CHATTER, LEVEL takes the raw level every 10 ms (R197). DESIGN CHOICE: that is no accepted change, so it makes no
ignition cycle, wake or edge event (R201, log 102). -/
def Blk.diSample (b : Blk) (n : Nat) : Blk :=
  let x := b.inputOf n
  if b.diDigital n && b.on (F.DI_STAT_CHATTER n) && x.sampAt + 10 * tickMs ≤ b.clk then
    (b.setInput n { x with sampAt := b.clk }).diLevel n x.raw
  else b

/-- The accepted level of input `n` has been active for STUCK_T (R198). -/
def Blk.diStuck (b : Blk) (n : Nat) : Blk :=
  let t := b.fld F.DI_GCFG_STUCK_T
  if b.diDigital n && t != 0 && b.on (F.DI_STAT_LEVEL n) && !b.on (F.DI_STAT_STUCK n) &&
      (b.inputOf n).actAt + t * tickSec ≤ b.clk then
    ((b.put (F.DI_STAT_STUCK n) 1).diEvt n 3).raiseF 244 n
  else b

/-- STORM_T has passed since the first wake counted (R200). -/
def Blk.diStormEnd (b : Blk) (n : Nat) : Blk :=
  if b.on (F.DI_STAT_STORM_CNT n) &&
      (b.inputOf n).stormAt + max 1 (b.fld F.DI_GCFG_STORM_T) * tickSec ≤ b.clk then
    b.put (F.DI_STAT_STORM_CNT n) 0
  else b

/-- A write of DI_EVT (R200, R220, R585). -/
def Blk.diEvtWrite (b : Blk) (n : Nat) (v : W32) : Blk :=
  let b1 := b.writeReg (R.DI_EVT n) v
  let b2 := if v.getLsbD 4 then b1.put (F.DI_STAT_STORM_CNT n) 0 else b1
  if (b2.fld ⟨R.DI_EVT n, 6, 0⟩) &&& (b2.fld (F.DI_EVT_IEN n)) = 0 then b2 else b2.msg (0xc0 + n)

/-- A write of DI_CFG (R195, R197): a change of MODE to digital starts the chatter windows; an input that
is not digital has LEVEL 0 and none of the functions of R195.
DESIGN CHOICE: a new POL or new thresholds act at the next sample; between the thresholds the raw level stays, POL
not inverting it (log 90); ANA and ANA_OVR keep their last values while MODE is not analog (R219, log 102). -/
def Blk.diCfgWrite (b : Blk) (n : Nat) (v : W32) : Blk :=
  let b1 := b.writeReg (R.DI_CFG n) v
  if b1.diDigital n then
    if b.diDigital n then b1 else b1.setInput n { b.inputOf n with edges := 0, chatAt := b.clk, rawAt := b.clk }
  else
    (((b1.put (F.DI_STAT_LEVEL n) 0).put (F.DI_STAT_CHATTER n) 0).put (F.DI_STAT_STUCK n) 0).setInput n
      { b.inputOf n with raw := false }

/-- A write of DI_FILT (R197): CHAT_N becoming nonzero starts the chatter windows. -/
def Blk.diFiltWrite (b : Blk) (n : Nat) (v : W32) : Blk :=
  let b1 := b.writeReg (R.DI_FILT n) v
  if !b.on (F.DI_FILT_CHAT_N n) && b1.on (F.DI_FILT_CHAT_N n) then
    b1.setInput n { b.inputOf n with edges := 0, chatAt := b.clk }
  else b1

/-- An analog input is converted at `mv` millivolts (R195, R219). DESIGN CHOICE: the code is truncated; R671 speaks of
field dies only (log 90). -/
def Blk.diAnalog (b : Blk) (n : Nat) (mv : Int) : Blk :=
  if b.fld (F.DI_CFG_MODE n) = 2 then
    let fs : Int := if b.on (F.DI_CFG_RANGE n) then 60000 else 6000
    let code := (max 0 (min 4095 (mv * 4096 / fs))).toNat
    (b.put (F.DI_STAT_ANA n) code).putB (F.DI_STAT_ANA_OVR n) (code == 4095)
  else b

/-- The event field and the enable register of message source `src`, where it has them (R583). -/
def msgEnable (src : Nat) : Option (Fld × Nat × Fld) :=
  if src < 0xc0 then some (⟨R.CH_EVT src, 15, 0⟩, R.CH_IEN src, ⟨R.CH_IEN src, 15, 0⟩)
  else if src < 0xf0 then
    some (⟨R.DI_EVT (src - 0xc0), 6, 0⟩, R.DI_EVT (src - 0xc0), F.DI_EVT_IEN (src - 0xc0))
  else if src = 0x101 then some (⟨R.NM_EVT, 3, 0⟩, R.NM_IEN, F.NM_IEN_IEN)
  else if src = 0x102 then some (⟨R.TAMPER_EVT, 7, 0⟩, R.TAMPER_IEN, F.TAMPER_IEN_IEN)
  else if src = 0x104 then some (⟨R.KEEP_EVT, 2, 0⟩, R.KEEP_IEN, F.KEEP_IEN_IEN)
  else if src = 0x105 then some (⟨R.AON_EVT, 1, 0⟩, R.AON_IEN, F.AON_IEN_IEN)
  else none

/-- A write of the enable register of source `src` (R585): the source sends its message if a bit is 1
while its event is set. -/
def Blk.enableWrite (b : Blk) (src : Nat) (v : W32) : Blk :=
  match msgEnable src with
  | none => b
  | some (evt, a, ien) =>
    if 0xc0 ≤ src ∧ src < 0xf0 then b.diEvtWrite (src - 0xc0) v
    else
      let b1 := b.applyReg a v
      if (b1.fld evt) &&& (b1.fld ien) = 0 then b1 else b1.msg src

/-! ## Meanings -/

/-- The voltage of input `n` becomes `mv` millivolts at a sample (R196). -/
def execInputRawEdge (n : Nat) (mv : Int) (s : State) : Host.Outcome State Fault Refusal :=
  onBlk (n < 48) s (fun b => b.diEdge n mv)

/-- DEB has passed on input `n` (R196). -/
def execDebounceExpiry (n : Nat) (s : State) : Host.Outcome State Fault Refusal :=
  onBlk (n < 48) s (fun b => b.diAccept n)

/-- A chatter window of input `n` ends (R197). -/
def execChatterWindowEnd (n : Nat) (s : State) : Host.Outcome State Fault Refusal :=
  onBlk (n < 48) s (fun b => b.diWindow n)

/-- The level of input `n` is sampled in CHATTER (R197). -/
def execChatterLevelSample (n : Nat) (s : State) : Host.Outcome State Fault Refusal :=
  onBlk (n < 48) s (fun b => b.diSample n)

/-- STUCK_T has passed on input `n` (R198). -/
def execStuckDetect (n : Nat) (s : State) : Host.Outcome State Fault Refusal :=
  onBlk (n < 48) s (fun b => b.diStuck n)

/-- STORM_T has passed on input `n` (R200). -/
def execStormPeriodExpiry (n : Nat) (s : State) : Host.Outcome State Fault Refusal :=
  onBlk (n < 48) s (fun b => b.diStormEnd n)

/-- A write of DI_EVT with WAKE 1 (R200); the other bits of `v` act by their types. -/
def execWakeAcknowledge (i : Init) (n : Nat) (v : W32) (s : State) : Host.Outcome State Fault Refusal :=
  onBlk (n < 48) s (fun b => b.onWrite i (R.DI_EVT n) (v ||| 0x10) (fun b => b.diEvtWrite n (v ||| 0x10)))

/-- Analog input `n` is converted (R195). -/
def execAnalogInputUpdate (n : Nat) (mv : Int) (s : State) : Host.Outcome State Fault Refusal :=
  onBlk (n < 48) s (fun b => b.diAnalog n mv)

/-- A write of the enable register of message source `src` (R585). -/
def execInterruptEnableWrite (i : Init) (src : Nat) (v : W32) (s : State) :
    Host.Outcome State Fault Refusal :=
  match msgEnable src with
  | none => onBlk false s id
  | some (_, a, _) => onBlk true s (fun b => b.onWrite i a v (fun b => b.enableWrite src v))

end Sys2Proof.Machine
end

