-- ==== Sys2Proof/Machine/Resp.lean ====
section
/-!
DEFINITION. Machine/Resp.lean: the hub responder on CAN15 and its limp commands (R649 to R652, R655).
-/

namespace Sys2Proof.Machine

/-- The 16 bytes of a command frame before its MAC (R650). -/
def limpHead (op ch arg fresh : Nat) : List Byte :=
  leBytes 1 op ++ [0] ++ leBytes 2 ch ++ leBytes 1 arg ++ [0, 0, 0] ++ leBytes 8 fresh

/-- The MAC of a frame's first 16 bytes (R650); `tag` 0x52 for a command, 0x41 for a response. -/
def Blk.limpMac (b : Blk) (tag : Byte) (l : List Byte) : List Byte :=
  Config.cmac (b.hk0.getD []) ([0x43, 0x5a, 0x48, tag] ++ Config.deviceUid ++ l)

/-- RESP_FRESH. -/
def Blk.respFresh (b : Blk) : Nat := b.fld F.RESP_FRESH_LO_FRESH + b.fld F.RESP_FRESH_HI_FRESH * 2 ^ 32
def Blk.setFresh (b : Blk) (v : Nat) : Blk :=
  (b.put F.RESP_FRESH_LO_FRESH v).put F.RESP_FRESH_HI_FRESH (v / 2 ^ 32)

/-- A frame refused on its MAC or its FRESH (R651). -/
def Blk.limpRefused (b : Blk) : Blk :=
  let l := b.keeper.refusals.filter (fun t => b.clk < t + tickSec) ++ [b.clk]
  let b1 := (b.incSat F.RESP_STAT_AUTH_FAIL).raiseF 251
  if 8 ≤ l.length then
    { b1.put F.RESP_STAT_BLOCKED 1 with keeper := { b1.keeper with
      refusals := []
      blockedAt := b.clk } }
  else { b1 with keeper := { b1.keeper with refusals := l } }

/-- The response of a command (R650): KP_STAT.LOST of the dies in bytes 6 and 7. -/
def Blk.limpAnswer (b : Blk) (op ch fresh result : Nat) : Blk :=
  let r := if ch < 192 then ch else 0
  let st := (b.chStat r).toNat
  let lost := (List.range 12).foldl (fun n d => n + b.fld (F.KP_STAT_LOST d) * 2 ^ d) 0
  let l := leBytes 1 op ++ leBytes 1 result ++ leBytes 2 ch ++ leBytes 1 (st / 2 ^ 16 % 16) ++
    leBytes 1 (st / 2 ^ 8 % 256) ++ leBytes 2 lost ++ leBytes 8 fresh
  { b with keeper := { b.keeper with respOut := l ++ b.limpMac 0x41 l } }

/-- What forbids a limp command to channel `ch`: its result code. -/
def Blk.limpBar (b : Blk) (ch : Nat) : Option Nat :=
  if 192 ≤ ch then some 4
  else if b.halted (ch / 16) then some 5
  else if b.leadOf ch ≠ ch ∨ b.on (F.CH_STAT_LIMP_ALLOWED ch) = false then some 1
  else none

/-- ON of lead `k`, as R164 lays down for policy ON, with leave of UH (R651). -/
def Blk.limpOn (b : Blk) (k : Nat) : Nat × Blk :=
  if b.on (F.CH_STAT_LATCH k) then (2, b)
  else
    let m := b.mode k
    if m = 2 then (0, b.changeMode k 1 0)
    else if m = 1 ∨ m = 3 then (0, b)
    else if m = 4 then (6, b.askUh k)
    else if b.fld (F.CH_PROT_STAT_PEND k) = 2 then (3, b)
    else if b.on (F.CH_PROT_STAT_PEND k) then
      (0, b.setChan k { b.chanOf k with restore := (1, (b.chanOf k).restore.2) })
    else if b.on (F.DIE_BANK_BANK_LOW (k / 16)) then (3, b)
    else if b.outranked k 12 then (0, b)
    else
      let r := (b.noteStart k 12 none).beginStart k (if b.on (F.CH_CAP_ILIM k) && b.on (F.CH_CAP_TMAX k) then 3 else 1) 0 false 0 none
      (if r.1 = 0 then 0 else 6, r.2)

/-- The effect of an accepted command: its result and the block (R651). -/
def Blk.limpDo (b : Blk) (op ch : Nat) : Nat × Blk :=
  if op = 1 then (if ch < 192 then (if b.halted (ch / 16) then 5 else 0) else if ch = 0xffff then 0 else 4, b)
  else if op = 5 then
    (0, (List.range 12).foldl (fun x n =>
      if x.halted n then x
      else (x.leads n).foldl (fun y k => if y.on (F.CH_STAT_LIMP_ALLOWED k) then y.cmdOff k 0xe else y) x) b)
  else if op = 2 ∨ op = 3 ∨ op = 4 then
    match b.limpBar ch with
    | some r => (r, b)
    | none =>
      if op = 2 then (0, b.cmdOff ch 0xe)
      else if op = 3 then b.limpOn ch
      else
        let b1 := b.latchClear ch
        (if b1.on (F.CH_STAT_LATCH ch) then 2 else 0, b1)
  else (4, b)

/-- A command frame arrives on CAN15 (R649 to R651). -/
def Blk.limp (b : Blk) (op ch arg fresh : Nat) (mac : List Byte) : Blk :=
  if !b.respActive || b.on F.RESP_STAT_BLOCKED then b
  else if mac ≠ b.limpMac 0x52 (limpHead op ch arg fresh) ∨ fresh % 2 ^ 64 ≤ b.respFresh then b.limpRefused
  else
    let b1 := ((b.setFresh fresh).incWrap F.RESP_CNT_ACCEPTED).msg 0x103
    let r := b1.limpDo op ch
    (r.2.raiseF 252).limpAnswer op (if op = 5 ∨ (op = 1 ∧ ch = 0xffff) then 0 else ch) fresh r.1

/-- A write of RESP_FRESH_LO is staged (R655). -/
def Blk.freshLoWrite (b : Blk) (v : W32) : Blk := { b with keeper := { b.keeper with freshLo := v.toNat } }

/-- A write of RESP_FRESH_HI applies the pair (R655). -/
def Blk.freshHiWrite (b : Blk) (v : W32) : Blk :=
  let n := b.keeper.freshLo % 2 ^ 32 + v.toNat * 2 ^ 32
  if n < b.respFresh ∨ b.respActive then b else b.setFresh n

/-! ## Meanings -/

/-- Limp command STATUS (R651). -/
def execStatus (ch arg fresh : Nat) (mac : List Byte) (s : State) : Host.Outcome State Fault Refusal :=
  onBlk true s (fun b => b.limp 1 ch arg fresh mac)
/-- Limp command OFF (R651). -/
def execLimpOff (ch arg fresh : Nat) (mac : List Byte) (s : State) : Host.Outcome State Fault Refusal :=
  onBlk true s (fun b => b.limp 2 ch arg fresh mac)
/-- Limp command ON (R651). -/
def execLimpOn (ch arg fresh : Nat) (mac : List Byte) (s : State) : Host.Outcome State Fault Refusal :=
  onBlk true s (fun b => b.limp 3 ch arg fresh mac)
/-- Limp command CLEAR (R651). -/
def execLimpClear (ch arg fresh : Nat) (mac : List Byte) (s : State) : Host.Outcome State Fault Refusal :=
  onBlk true s (fun b => b.limp 4 ch arg fresh mac)
/-- Limp command ALL_OFF (R651). -/
def execAllOff (ch arg fresh : Nat) (mac : List Byte) (s : State) : Host.Outcome State Fault Refusal :=
  onBlk true s (fun b => b.limp 5 ch arg fresh mac)
/-- A limp command with another OP (R651): 0x00 or 0x06 to 0xFF. -/
def execLimpBadOpcode (op ch arg fresh : Nat) (mac : List Byte) (s : State) : Host.Outcome State Fault Refusal :=
  onBlk true s (fun b => b.limp (if op = 0 ∨ 6 ≤ op then op else 0) ch arg fresh mac)

/-- 1 s after blocking the responder accepts frames again (R651). -/
def execResponderBlockExpiry (s : State) : Host.Outcome State Fault Refusal :=
  onBlk true s (fun b =>
    if b.on F.RESP_STAT_BLOCKED && decide (b.keeper.blockedAt + tickSec ≤ b.clk) then b.put F.RESP_STAT_BLOCKED 0 else b)

/-- A write of RESP_FRESH_HI (R655). -/
def execRespFreshWrite (i : Init) (v : W32) (s : State) : Host.Outcome State Fault Refusal :=
  onBlk true s (fun b => b.onWrite i R.RESP_FRESH_HI v (fun b => b.freshHiWrite v))

end Sys2Proof.Machine
end

