-- ==== Sys2Proof/Machine/FieldWrite.lean ====
section
/-!
DEFINITION. Machine/FieldWrite.lean: what an accepted write of a register of UH or of a field die does at
its target. Registers that the rules give an effect besides the types of their fields have a branch here;
every other register follows R8. The rows of the table that name one write call the same functions.
-/

namespace Sys2Proof.Machine

/-- The number of a channel or input from its two indices. -/
def flat (k : Nat) (ix : List Nat) : Nat := ix.getD 0 0 * k + ix.getD 1 0

/-- A write of CH_TCMD_TIME (R112): a halted die ignores it (R166). -/
def Blk.tcmdTime (b : Blk) (ch : Nat) (v : W32) : Blk :=
  if b.halted (ch / 16) then b
  else (b.put (F.CH_TCMD_TIME_TIME ch) v.toNat).setChan ch { b.chanOf ch with fresh := true }

/-- A write of CH_PROT_CLR (R177). -/
def Blk.protClr (b : Blk) (ch : Nat) (v : W32) : Blk :=
  let b1 := if (F.CH_PROT_CLR_LATCH ch).get v = 1 then b.latchClear ch else b
  if (F.CH_PROT_CLR_RETRY ch).get v = 1 then b1.retryClear ch else b1

/-- A write of CH_MCTL (R191). -/
def Blk.mctl (b : Blk) (ch : Nat) (v : W32) : Blk :=
  if (F.CH_MCTL_ECLR ch).get v = 0 ∨ b.halted (ch / 16) = true then b
  else b.setChan ch { b.chanOf ch with eclr := true }

/-- A write of a register of die space that `r` describes, at address `a` (R131 to R214). -/
def Blk.dieEffect (b : Blk) (r : RegSpec) (ix : List Nat) (a : Nat) (v : W32) : Blk :=
  let ch := flat 16 ix
  let n := ix.headD 0
  let g := ix.getD 1 0
  if r.base = R.CH_CMD 0 then b.immediate ch ((F.CH_CMD_OP ch).get v) ((F.CH_CMD_DUTY ch).get v)
  else if r.base = R.CH_TCMD_TIME 0 then b.tcmdTime ch v
  else if r.base = R.CH_TCMD 0 then
    b.timedWrite ch ((F.CH_TCMD_OP ch).get v) ((F.CH_TCMD_DUTY ch).get v) ((F.CH_TCMD_EP ch).get v)
  else if r.base = R.CH_ADOPT 0 then b.adopt ch ((F.CH_ADOPT_TAG ch).get v) ((F.CH_ADOPT_MODE ch).get v)
  else if r.base = R.PG_PERIOD 0 0 ∨ r.base = R.PG_ANCHOR 0 0 then b.pgWrite n g a v
  else if r.base = R.CH_PROT_CLR 0 then b.protClr ch v
  else if r.base = R.WM_AMB 0 then b.ambWrite n v
  else if r.base = R.CH_WCFG 0 then b.wcfgWrite ch v
  else if r.base = R.CH_MCTL 0 then b.mctl ch v
  else if r.base = R.CH_IEN 0 then b.enableWrite ch v
  else if r.base = R.CH_PHASE 0 then b.phaseWrite ch v
  else if r.base = R.CH_OL 0 then b.olWrite ch v
  else if r.base = R.CH_OT 0 then (b.applyReg a v).hotSync (b.leadOf ch)
  else if r.base = R.CH_WM_LIM 0 then (b.applyReg a v).wmSync ch
  else if r.base = R.TQ_STAT 0 then
    let b1 := b.applyReg a v
    b1.put (F.TQ_STAT_HWM n) (max (b1.fld (F.TQ_STAT_HWM n)) (b1.fld (F.TQ_STAT_USED n)))
  else b.applyReg a v

/-- A write of XC_CTL or XL_CTL: a mode that software sets ends what R459 has put to sleep. PWM_EN is there for
CAN0 to CAN3 only (R423). -/
def Blk.xcWrite (b : Blk) (lin : Bool) (n a : Nat) (v : W32) : Blk :=
  let b1 := b.writeReg a (if lin = false ∧ 4 ≤ n then v &&& ~~~ 8 else v)
  let b1 := if lin then b1 else b1.xcSync n
  if lin then { b1 with slp := { b1.slp with fsLin := b1.slp.fsLin - (b1.slp.fsLin &&& 2 ^ n) } }
  else { b1 with slp := { b1.slp with fsCan := b1.slp.fsCan - (b1.slp.fsCan &&& 2 ^ n) } }

/-- A write of a register of UH (R100, R182, R220, R423, R466, R467, R584, R655). -/
def Blk.uhEffect (b : Blk) (r : RegSpec) (ix : List Nat) (a : Nat) (v : W32) : Blk :=
  let n := ix.headD 0
  if r.base = R.AON_RTC_SEC then b.rtcSet v.toNat
  else if r.base = R.KEEP_ALIVE then (if F.KEEP_ALIVE_KEY.get v = 0xa5 then b.keepalive else b)
  else if r.base = R.DI_CFG 0 then b.diCfgWrite n v
  else if r.base = R.DI_FILT 0 then b.diFiltWrite n v
  else if r.base = R.DI_EVT 0 then b.diEvtWrite n v
  else if r.base = R.XC_CTL 0 then b.xcWrite false n a v
  else if r.base = R.XL_CTL 0 then b.xcWrite true n a v
  else if r.base = R.XF_ID 0 0 then (b.writeReg a v).xcSync n
  else if r.base = R.NM_CFG 0 then b.ringCfg n v
  else if r.base = R.NM_CONSENT then b.consentWrite v
  else if r.base = R.NM_LEDGER_CLR then (if F.NM_LEDGER_CLR_CLR.get v = 1 then b.ledgerClear else b)
  else if r.base = R.WK_ALARM_CTL then b.alarmCtl v
  else if r.base = R.WK_POP then (if F.WK_POP_POP.get v = 1 then b.wkPop else b)
  else if r.base = R.NM_IEN then b.enableWrite 0x101 v
  else if r.base = R.TAMPER_IEN then b.enableWrite 0x102 v
  else if r.base = R.KEEP_IEN then b.enableWrite 0x104 v
  else if r.base = R.AON_IEN then b.enableWrite 0x105 v
  else if r.base = R.RESP_FRESH_LO then b.freshLoWrite v
  else if r.base = R.RESP_FRESH_HI then b.freshHiWrite v
  else b.writeReg a v

/-- The effect of a write that has reached the register at field-space address `a`. -/
def Blk.fieldEffect (b : Blk) (a : Nat) (v : W32) : Blk :=
  match locate a with
  | none => b
  | some (r, ix) => if 0x51000000 ≤ a then b.dieEffect r ix a v else b.uhEffect r ix a v

end Sys2Proof.Machine
end

