-- ==== Sys2Proof/Machine/Power.lean ====
section
/-!
DEFINITION. Machine/Power.lean: supplies, power states and their transitions, the stop of KC and SLEEP
entry (R19 to R21, R36, R80 to R82, R92 to R100, R455 to R458). `Machine/Boot.lean` starts KC.
-/

namespace Sys2Proof.Machine

/-! ## KC stops -/

/-- A write that the bridge delivers reaches its target (R28, R577): it is applied, or the ownership copy
refuses it, which raises the target's source. -/
def Blk.txApply (b : Blk) (x : Tx) : Bool × Blk :=
  if x.mark || (dieOfAddr x.addr).any b.halted || copyAccepts (b.copyOf (unitOf x.addr).1 (unitOf x.addr).2) x.ctx then
    (true, b.fieldEffect x.addr (BitVec.ofNat 32 x.val))
  else
    (false, b.raiseF (match dieOfAddr x.addr with | some n => 256 + 10 * n | none => 240) (x.addr / 256))

/-- The writes in progress that the UH side has received whole when KC stops (R36). Which of those that have left the KC
side they are the spec does not say: bit `j` of `w` tells it of the `j`-th write, but none comes before an earlier one
that it must not pass (R577). A die and its link hold 12 posted writes, the die-to-die segment 32 more (R571); the rest
is still on the KC side. -/
def Blk.uhReceived (b : Blk) (w : Nat) : List Tx :=
  let l := b.k.brg.tx.filter (fun x => x.write && x.down)
  (l.zipIdx.foldl (fun (r : List Tx × List Tx × Nat) (e : Tx × Nat) =>
    let x := e.1
    let own := 16 ≤ fieldTarget x.addr &&
      ((l.take e.2).filter (fun y => y.posted && fieldTarget y.addr == fieldTarget x.addr)).length < 12
    let seg := if x.posted && !own then r.2.2 + 1 else r.2.2
    if (!x.posted || own || r.2.2 < 32) && w.testBit e.2 && r.2.1.all (fun y => !x.behind y) then (r.1 ++ [x], r.2.1, seg)
    else (r.1, r.2.1 ++ [x], seg)) ([], [], 0)).1

/-- The bridge when KC stops (R36): of the writes in progress, those that the UH side has received whole are applied
(a free choice, `Blk.uhReceived`). -/
def Blk.bridgeFlush (b : Blk) : Blk :=
  let r := b.draw
  (b.uhReceived r.1).foldl (fun y x => (y.txApply x).2) r.2

/-- Registers that a KC reset leaves as they are: those of UH and the field dies, and the fuses (R72, R78). -/
def keptByKc (a : Nat) : Bool := 0x50000000 ≤ a || a == R.BPL_FUSE || a == R.BPL_DBG_UNLOCK

/-- The MRAM window (R22). -/
def inMram (a : Nat) : Bool := 0x10000000 ≤ a && a < 0x11000000

/-- Is the grant or deferral one of a field-die start, which a KC reset does not end (R269)? -/
def Ask.ofDie (a : Ask) : Bool := a.kind < 2

/-- Requests of field dies that the weighbridge held or had on the way are UH's, and so are all until STARTED
becomes 1 (R31, R269). -/
def Blk.uhTakesOver (b : Blk) : Blk :=
  let b1 := b.takeHolds
  let asks := (b1.wbgQueue.filter Ask.ofDie).map (fun a => (⟨a.id, a.unit, a.peak, a.energy, a.since⟩ : Leave))
  { b1 with
    reqUh := b1.reqUh ++ asks ++ b1.reqWbg
    reqWbg := []
    wbgQueue := []
    wbgGrants := []
    uhStart := true }

/-- TB0 as UH has it in units of 2^-32 ns: counting on from the last value received, 2 ns per tick, while KC is
there (R20, R431); else its own count. -/
def Blk.uhTb0 (b : Blk) : Nat :=
  match b.pwr.uhTb with
  | none => b.tb0
  | some (t, c) => t + 2 ^ 33 * (b.clk - c)

/-- KC is reset or loses its rails (R36, R38, R92): every state of KC returns to its reset value but the
fuses and MRAM. Raisings of UH and the field dies that had not reached the FCU are held (R167, R645). TB0
goes on as UH has it. UH answers the leave requests of the dies from here on (R269). -/
def Blk.kcDown (b : Blk) : Blk :=
  let b1 := b.uhTakesOver.bridgeFlush.tear.keepRegs keptByKc
  let late := (b1.fcuIn.filter (fun r => 240 ≤ r.src)).foldl (fun l r =>
    if l.any (fun x => x.src == r.src) then l else l ++ [r]) b1.held
  { b1 with
    kc := .down
    mark := false
    k := {}
    own := []
    hart := []
    fcuIn := []
    held := late
    msgOut := []
    poison := b1.poison.filter inMram
    tb0 := b1.uhTb0
    pwr := { b1.pwr with
      trans := none
      idle := []
      uhTb := none
      goodAt := b1.clk } }

/-- A SLEEP entry before its point of no return is abandoned (R97): the transceivers return; the ring engines keep
their state (R468). -/
def Blk.entryDrop (b : Blk) : Blk :=
  if b.slp.armed && b.slp.latch.isNone then
    let b1 := b.setModes b.slp.can b.slp.lin
    { b1 with slp := { b1.slp with
      armed := false
      can := []
      lin := [] } }
  else b

/-- KC is reset with `cause`, which the next start carries (R95, R99). -/
def Blk.kcReset (b : Blk) (cause : Nat) : Blk :=
  (b.entryDrop.kcDown.put F.AON_PSTATE_CAUSE cause).put F.AON_PSTATE_STATE 7

/-- RAIL_GOOD falls (R82): KC is reset with CAUSE 3. Where R645 keeps KC in reset with SV4_ACT 1, CAUSE goes on
reading 2 (R99). -/
def Blk.railFall (b : Blk) : Blk :=
  let b1 := if b.kc = .down then b else b.kcReset (if b.kc = .held then 2 else 3)
  { b1 with pwr := { b1.pwr with railGood := false } }

/-- Die `n` takes the value of an alignment pulse (R20). A lead in PWM that ran on the sleep oscillator keeps its
timing until the next boundary of the TB0 grid (R124). -/
def Blk.align (b : Blk) (n : Nat) : Blk :=
  let d := b.dieOf n
  b.setDie n { d with
    alTb := b.uhTb0 / 2 ^ 32
    alAt := b.clk
    asleep := false
    slpK := if d.asleep then (b.leads n).filter (fun k => b.mode k == 2) else d.slpK }

/-! ## Supplies -/

/-- Registers that keep their contents without VKEEP: the fuses and the tamper monitor's counters and log
(R621, R624). -/
def keptByVkeep (a : Nat) : Bool :=
  a == R.BPL_FUSE || a == R.BPL_DBG_UNLOCK || (R.TAMPER_LOG_LO 0 ≤ a && a < R.TAMPER_LOG_LO 0 + 0x200)

/-- Everything but the non-volatile contents, poisoned and half-written MRAM among them (R478, R631), returns to its reset value;
TAMPER_STAT keeps HARD, ACK and COUNT. -/
def Blk.bare (b : Blk) : Blk :=
  let regs := b.regs.keep keptByVkeep
  let bad := b.poison.filter inMram
  let b1 : Blk := { regs := regs, poison := bad, torn := b.torn, nfree := b.nfree, nrand := b.nrand, dsOffDue := b.dsOffDue }
  (((b1.put F.TAMPER_STAT_HARD (b.fld F.TAMPER_STAT_HARD)).put F.TAMPER_STAT_ACK (b.fld F.TAMPER_STAT_ACK)).put F.TAMPER_STAT_COUNT
    (b.fld F.TAMPER_STAT_COUNT)).putB F.TAMPER_STAT_PENDING (b.fld F.TAMPER_STAT_ACK < b.fld F.TAMPER_STAT_COUNT)

/-- Memory without power: the MRAM and the boot storage, whose bytes stand above the address space. -/
def memKeep (m : List Host.Cell) : List Host.Cell := Sparse.keep (fun a => inMram a || 2 ^ 40 ≤ a) m

/-! ## SYSCTL_PWR -/

/-- A request is refused (R97). -/
def Blk.pwrRefuse (b : Blk) : Blk := b.put F.SYSCTL_PWR_REFUSED 1

/-- A transition to `st` begins. -/
def Blk.pwrBegin (b : Blk) (st : Nat) : Blk :=
  { b.put F.SYSCTL_PWR_BUSY 1 with pwr := { b.pwr with trans := some (st, b.clk) } }

/-- Are all application harts that are out of reset in WFI? `wfi` names those whose STATE does not show it,
as a bit set. -/
def Blk.appWfi (b : Blk) (wfi : Nat) : Bool :=
  (List.range 8).all (fun h => b.hartState h == 0 || b.hartState h == 2 || wfi.testBit h)

/-- Steps 1 and 2 of SLEEP entry (R456). -/
def Blk.sleepBegin (b : Blk) : Blk :=
  let can := (List.range 16).map (fun n =>
    if b.canWakes n && !b.on (F.NM_CFG_EN n) then 1 else b.fld (F.XC_CTL_MODE n))
  let lin := (List.range 12).map (fun n => if b.on (F.XL_CTL_WAKE_EN n) then 1 else b.fld (F.XL_CTL_MODE n))
  let b1 := (b.pwrBegin 4).setModes can lin
  { b1 with slp := { b1.slp with
      armed := true
      latch := none
      src := b.fld F.SYSCTL_PWR_STATE
      detect := (List.range 20).foldl (fun m p => if b.on (F.ETH_TC10_WAKE_EN p) then m + 2 ^ p else m) 0
      can := b.canModes
      lin := b.linModes } }

/-- A request of SYSCTL_PWR (R95, R97, R98, R456). -/
def Blk.pwrReq (b : Blk) (req wfi : Nat) : Blk :=
  let st := b.fld F.SYSCTL_PWR_STATE
  if req = 0 then b
  else if b.on F.SYSCTL_PWR_BUSY then b.pwrRefuse
  else if req = 1 then (if st = 1 ∨ st = 3 then b.pwrBegin 0 else b.pwrRefuse)
  else if req = 2 then (if st = 0 then b.pwrBegin 1 else b.pwrRefuse)
  else if req = 3 then (if (st = 0 ∨ st = 1) ∧ b.appWfi wfi = true then b.pwrBegin 3 else b.pwrRefuse)
  else if req = 4 then (if st ≤ 3 ∧ b.on F.NM_STAT_ALL_READY = true then b.sleepBegin else b.pwrRefuse)
  else if req = 7 then b.kcReset 1
  else b.pwrRefuse

/-- A write of SYSCTL_PWR takes effect only with KEY 0x5A (R98). -/
def Blk.pwrWrite (b : Blk) (v : W32) (wfi : Nat) : Blk :=
  if F.SYSCTL_PWR_KEY.get v = 0x5a then (b.writeReg R.SYSCTL_PWR v).pwrReq (F.SYSCTL_PWR_REQ.get v) wfi else b

/-- The same where the write does not say which application harts are in WFI: those that run may be, a free value
(assumption 85). -/
def Blk.pwrStore (b : Blk) (v : W32) : Blk := b.draw.2.pwrWrite v (b.draw.1 % 256)

/-- The word of SYSCTL_PWR that requests `req`. -/
def pwrWord (req : Nat) : W32 := BitVec.ofNat 32 (0x5a00 + req % 8)

/-! ## Transitions -/

/-- STANDBY entry (R95, R241, R455). -/
def Blk.standbyEnter (b : Blk) : Blk :=
  let can := (List.range 16).filter (fun n => !(b.fld F.NM_SB_BUS_CAN).testBit n && !b.on (F.NM_CFG_EN n))
  let lin := (List.range 12).filter (fun n => !(b.fld F.NM_SB_BUS_LIN).testBit n)
  let eth := (List.range 26).filter (fun p => !(b.fld F.NM_SB_ETH_PORTS).testBit p)
  let bits (l : List Nat) : Nat := l.foldl (fun m n => m + 2 ^ n) 0
  let b0 := { b with slp := { b.slp with
      sbCan := bits can
      sbLin := bits lin
      sbEth := bits eth
      sbCanMode := b.canModes
      sbLinMode := b.linModes } }
  let b1 := b0.setModes ((List.range 16).map (fun n => if can.contains n then 1 else b.fld (F.XC_CTL_MODE n)))
    ((List.range 12).map (fun n => if lin.contains n then 1 else b.fld (F.XL_CTL_MODE n)))
  let b2 := eth.foldl (fun x p =>
    let y := (x.linkDown p false).trainDrop p
    let z := y.setPort p { y.portOf p with
      retryAt := if isMg p && y.on (F.ETH_CTL_EN p) && y.fld (F.ETH_STAT_STATE p) != 4 then some y.clk else none }
    if z.fld (F.ETH_STAT_STATE p) = 4 then z else z.put (F.ETH_STAT_STATE p) 5) b1
  let b3 := (List.range 8).foldl (fun x h => x.hartStop h 4) b2
  (b3.put F.WBG_SB_USED_USED 0).setWb { b3.k.wb with
    sbNj := 0
    sbLast := b3.eTotal
    sbWarned := false }

/-- Every source that R455 put to sleep returns to the mode it had; MG, GB and FE ports send a TC10 wake-up
pulse as they return. -/
def Blk.standbyLeave (b : Blk) : Blk :=
  let can := (List.range 16).map (fun n =>
    if b.slp.sbCan.testBit n then b.slp.sbCanMode.getD n 1 else b.fld (F.XC_CTL_MODE n))
  let lin := (List.range 12).map (fun n =>
    if b.slp.sbLin.testBit n then b.slp.sbLinMode.getD n 1 else b.fld (F.XL_CTL_MODE n))
  let ports := (List.range 26).filter (fun p => b.slp.sbEth.testBit p)
  let b1 := b.setModes can lin
  let b2 := { b1 with slp := { b1.slp with
      sbCan := 0
      sbLin := 0
      sbEth := 0
      sbCanMode := []
      sbLinMode := [] } }
  let b3 := ports.foldl (fun x p =>
    let y := if hasTc10 p then x.setPort p { x.portOf p with
      wups := (x.portOf p).wups + 1 } else x
    if y.fld (F.ETH_STAT_STATE p) = 4 then y else y.tc10Wake p) b2
  b3.put F.WBG_STAT_SB_EXH 0

/-- Application harts come back from STANDBY (R95): AC0 under the checks of R471, the others in reset. -/
def Blk.appReturn (b : Blk) : Blk :=
  ((List.range 8).foldl (fun x h => x.hartStop h 0) b).hartRelease 0

/-- Application harts halt with their state kept, or resume. -/
def Blk.idleHalt (b : Blk) : Blk :=
  let l := (List.range 8).filter (fun h => b.hartState h == 1 || b.hartState h == 2)
  let b1 := l.foldl (fun x h => x.put (F.SYSCTL_HART_STAT_STATE h) 3) b
  { b1 with pwr := { b1.pwr with idle := l } }

def Blk.idleResume (b : Blk) : Blk :=
  let b1 := b.pwr.idle.foldl (fun x h => x.put (F.SYSCTL_HART_STAT_STATE h) 1) b
  { b1 with pwr := { b1.pwr with idle := [] } }

/-- The transition in progress completes (R95); SLEEP entry completes as KC_QUIESCENT. -/
def Blk.pwrDone (b : Blk) : Blk :=
  match b.pwr.trans with
  | none => b
  | some (st, _) =>
    if st = 4 then b
    else
      let from' := b.fld F.SYSCTL_PWR_STATE
      let b0 := b.put F.SYSCTL_PWR_BUSY 0
      let b1 := { b0 with pwr := { b0.pwr with trans := none } }
      if st = 1 then (b1.setPState 1).idleHalt
      else if st = 3 then ({ b1 with pwr := { b1.pwr with idle := [] } }.setPState 3).standbyEnter
      else if from' = 3 then ((b1.setPState 0).standbyLeave).appReturn
      else (b1.setPState 0).idleResume

/-! ## SLEEP entry -/

/-- SLEEP on die `n` (R96, R115, R124, R160, R163, R193). -/
def Blk.dieSleep (b : Blk) (n : Nat) : Blk :=
  let b1 := (b.leads n).foldl Blk.sleepOff b
  let b2 := ((b1.emptyTq n).2).engineStop n
  let b3 := (List.range 16).foldl (fun x c =>
    let k := 16 * n + c
    let y := if x.on (F.CH_STAT_SLEEP_HOLD k) then x else x.testStop k
    y.setChan k { y.chanOf k with
      boundAt := b.clk - b.pgPos n (b.chanOf k).pg
      win := {}
      newest := none
      wshort := true }) b2
  b3.setDie n { b3.dieOf n with
    asleep := true
    alTb := b3.dieNow n
    alAt := b3.clk }

/-- Steps 5 and 6 of R456: the field dies sleep, transceivers and ports keep their wake settings, the rails
go, the oscillator stops. -/
def Blk.sleepEnd (b : Blk) : Blk :=
  let can := (List.range 16).map (fun n =>
    if !b.canWakes n then 0 else if b.on (F.NM_CFG_EN n) then 1 else b.fld (F.XC_CTL_MODE n))
  let lin := (List.range 12).map (fun n => if b.on (F.XL_CTL_WAKE_EN n) then b.fld (F.XL_CTL_MODE n) else 0)
  let b1 := (((List.range 12).foldl Blk.dieSleep b).ringAllOff).setModes can lin
  let b2 := (b1.kcDown.put F.AON_PSTATE_STATE 4).put F.AON_PSTATE_KEEPER_ARMED 0
  { b2 with
    asleep := true
    slp := { b2.slp with
      sbCan := 0
      sbLin := 0
      sbEth := 0
      lowAt := b2.clk }
    pwr := { b2.pwr with
      railEn := false
      railGood := false
      linkKc := false } }

/-- Has KC completed every outstanding MRAM and field-space write? -/
def Blk.writesDone (b : Blk) : Bool := b.k.stall.isEmpty && b.k.brg.tx.all (fun x => !(x.write && x.down))

/-- KC reports quiescent: the point of no return, then the rest of the entry (R456). A wake made before this
tick aborts the entry instead (R457). -/
def Blk.quiescent (b : Blk) : Blk :=
  match b.pwr.trans with
  | some (4, _) =>
    if b.wakeDue.any (fun d => d.tick < b.clk) then b.wakeNext
    else if b.writesDone then
      { b with slp := { b.slp with
          latch := some b.clk
          lastSet := false
          late := false } }.sleepEnd
    else b
  | _ => b

/-! ## Meanings -/

/-- Each die's check of its factory calibration (R187): on which dies the fuses fail it is a free value
(assumption 87). -/
def Blk.calCheck (b : Blk) : Blk :=
  (List.range 12).foldl (fun x n => x.putB (F.DIE_MEAS_CAL_BAD n) (b.draw.1.testBit n)) b.draw.2

/-- VKEEP rises through 6 V and UH starts (R80, R95); the dies check their calibration (R187). -/
def execVkeepPowerUp (s : State) : Host.Outcome State Fault Refusal :=
  onMem true s (fun b m => if b.pwr.ready then (b, m) else (b.bare.calCheck, memKeep m))

/-- VKEEP stays below 5.5 V for 100 µs: OFF (R95). -/
def execVkeepLoss (s : State) : Host.Outcome State Fault Refusal :=
  onMem true s (fun b m =>
    if b.pwr.vkeep then
      let b1 := (b.bridgeFlush.bare).put F.AON_PSTATE_STATE 5
      ({ b1 with pwr := { b1.pwr with vkeep := false } }, memKeep m)
    else (b, m))

/-- UH is ready: TB0 starts, and with it the alignment pulse (R20, R80, R93, assumption 79). -/
def Blk.uhReady (b : Blk) : Blk :=
  (List.range 12).foldl Blk.align { b with
    tb0 := 0
    pwr := { b.pwr with
      ready := true
      railEn := true } }

/-- UH is ready (R80, R93). -/
def execUhReady (s : State) : Host.Outcome State Fault Refusal :=
  onBlk true s (fun b => if b.pwr.vkeep && !b.pwr.ready then b.uhReady else b)

/-- RAIL_GOOD rises (R81). -/
def execRailGoodRise (s : State) : Host.Outcome State Fault Refusal :=
  onBlk true s (fun b =>
    if b.pwr.railEn && !b.pwr.railGood then { b with pwr := { b.pwr with
      railGood := true
      goodAt := b.clk } }
    else b)

/-- RAIL_GOOD falls (R82). -/
def execRailLoss (s : State) : Host.Outcome State Fault Refusal :=
  onBlk true s (fun b =>
    if b.pwr.railGood then b.railFall else b)

/-- The field-link clock of KC stops (R19, R20): UH counts TB0 on from the value it received last. -/
def Blk.linkLoss (b : Blk) : Blk := { b with pwr := { b.pwr with linkKc := false } }

/-- The field-link clock of KC stops (R19, R20). -/
def execFieldLinkClockLoss (s : State) : Host.Outcome State Fault Refusal := onBlk true s Blk.linkLoss

/-- TIME hands TB0 to UH while KC's clock reaches the field links (R431). -/
def Blk.handTb (b : Blk) : Blk :=
  if b.pwr.linkKc && b.kc != .down then { b with pwr := { b.pwr with uhTb := some (b.tb0, b.clk) } } else b

/-- The alignment pulse: TIME hands its value to UH and every field die aligns its tick counter (R20, R124, R431). -/
def execAlignmentPulse (s : State) : Host.Outcome State Fault Refusal :=
  onBlk true s (fun b => if b.pwr.ready && !b.asleep then (List.range 12).foldl Blk.align b.handTb else b)

/-- The 32.768 kHz crystal stops (R21). -/
def execCrystalStop (s : State) : Host.Outcome State Fault Refusal :=
  onBlk true s (fun b =>
    if b.pwr.vkeep && !b.pwr.rcOsc then
      let b1 := (b.event ⟨R.AON_EVT, 1, 0⟩ F.AON_IEN_IEN 0 0x105).raiseF 241
      { b1 with pwr := { b1.pwr with rcOsc := true } }
    else b)

/-- A write of SYSCTL_PWR with KEY 0x5A and REQ `req`. -/
def pwrCmd (i : Init) (req wfi : Nat) (s : State) : Host.Outcome State Fault Refusal :=
  onBlk true s (fun b => b.onWrite i R.SYSCTL_PWR (pwrWord req) (fun b => b.pwrWrite (pwrWord req) wfi))

/-- REQ RUN (R95). -/
def execPwrReqRun (i : Init) (s : State) : Host.Outcome State Fault Refusal := pwrCmd i 1 0 s
/-- REQ IDLE (R95). -/
def execPwrReqIdle (i : Init) (s : State) : Host.Outcome State Fault Refusal := pwrCmd i 2 0 s
/-- REQ STANDBY (R95); `wfi` names the application harts that are in WFI. -/
def execPwrReqStandby (i : Init) (wfi : Nat) (s : State) : Host.Outcome State Fault Refusal := pwrCmd i 3 wfi s
/-- REQ SLEEP (R456). -/
def execPwrReqSleep (i : Init) (s : State) : Host.Outcome State Fault Refusal := pwrCmd i 4 0 s
/-- REQ KC_RESET (R95). -/
def execPwrReqKcReset (i : Init) (s : State) : Host.Outcome State Fault Refusal := pwrCmd i 7 0 s
/-- A REQ that R97 refuses. -/
def execPwrReqInvalid (i : Init) (req : Nat) (s : State) : Host.Outcome State Fault Refusal := pwrCmd i req 0 s

/-- The transition completes (R95). -/
def execPowerTransitionComplete (s : State) : Host.Outcome State Fault Refusal :=
  onBlk true s (fun b => if b.kcRun then b.pwrDone else b)

/-- An interrupt to an application core in IDLE (R95). -/
def execIdleWakeInterrupt (s : State) : Host.Outcome State Fault Refusal :=
  onBlk true s (fun b =>
    if b.kcRun && b.fld F.SYSCTL_PWR_STATE == 1 && !b.on F.SYSCTL_PWR_BUSY then b.pwrBegin 0 else b)

/-- A reset made through the Debug Module (R494), which the unlock of R626 permits. -/
def execDebugReset (s : State) : Host.Outcome State Fault Refusal :=
  onBlk true s (fun b =>
    if (b.kcRun || b.kc == .held) && b.fld F.KV_STAT_DBG_LEVEL != 0 then
      { b with keeper := { b.keeper with sv4Late := none } }.kcReset 5
    else b)

end Sys2Proof.Machine
end

