-- ==== Sys2Proof/Machine/Fcu.lean ====
section
/-!
DEFINITION. Machine/Fcu.lean: the fault collection unit: raisings, escalation, reactions up to SV3, recovery,
the log (R636 to R647, R653, R654), and the fault pins (R648). The SV4 reaction is in Machine/React.lean.
-/

namespace Sys2Proof.Machine

def Blk.setFcu (b : Blk) (f : Fcu → Fcu) : Blk := { b with k := { b.k with fcu := f b.k.fcu } }

/-! ## Sources -/

/-- The first sources of classes 0 to 15 and 28 to 31 (R637). -/
def classFirst : List (Nat × Nat) := [
  (250, 31), (240, 30), (233, 29), (224, 28), (211, 15), (209, 14), (200, 13), (192, 12), (170, 11), (164, 10),
  (160, 9), (144, 8), (128, 7), (80, 6), (72, 5), (64, 4), (13, 3), (10, 2), (8, 1), (0, 0)]

/-- The class of a source (R637). -/
def faultClass (k : Nat) : Nat :=
  if 376 ≤ k then 31
  else if 256 ≤ k then 16 + (k - 256) / 10
  else ((classFirst.find? (fun e => e.1 ≤ k)).map (·.2)).getD 0

/-- The sources of a class. -/
def classSources (c : Nat) : List Nat := (List.range 384).filter (fun k => faultClass k == c)

/-- A register of the block whose owner a restart without a context concerns (R643). -/
def srcBlock (src det : Nat) : Nat :=
  match faultClass src with
  | 0 => R.SYSCTL_ID
  | 1 => R.RCX_CTL 0
  | 2 => R.RCX_CTL 0
  | 3 => if src = 15 then R.FCU_CFG else R.CVU_PROF_POLY 0
  | 4 => R.SWC_FAB_CTL
  | 5 => R.SWC_FAB_CTL
  | 6 => R.ETH_CTL (det % 28)
  | 7 => R.CAN_CTL (src - 128)
  | 8 => R.CAN_CTL (det % 16)
  | 9 => R.TB_NS 0
  | 10 => if src = 164 ∨ src = 165 then R.TALLY_CTL else R.TB_NS 0
  | 11 => R.BRG_CTL
  | 12 => if src < 198 then R.SEC_POT_CTL else R.ATU_INV
  | 13 => if src = 208 then R.ATU_INV else R.BPL_FUSE
  | 14 => R.TAMPER_CFG
  | 15 => R.KV_CMD
  | 28 => R.WBG_LIM
  | 29 => R.DISP_CTL 0
  | 30 => R.AON_PSTATE
  | 31 => R.KEEP_PINS
  | n => 0x51000000 + 0x100000 * (n - 16)

/-- The context that a raising concerns (R643). -/
def Blk.restartTarget (b : Blk) (r : Raise) : Nat := r.ctx.getD (b.ownerOf (srcBlock r.src r.det)).ctx

/-- The Ethernet port that a raising names (R389, R298, R358). -/
def portNamed (r : Raise) : Option Nat :=
  if r.src = 83 then some (26 + r.det / 64)
  else if (80 ≤ r.src ∧ r.src ≤ 86 ∨ r.src ∈ [65, 68, 70, 72, 75, 76]) ∧ r.det < 28 then some r.det
  else none

/-- The CAN controller that a raising names (R420). -/
def busNamed (r : Raise) : Option Nat :=
  if 128 ≤ r.src ∧ r.src < 144 then some (r.src - 128)
  else if r.src ∈ [144, 145, 146, 147, 148, 150] ∧ r.det < 16 then some r.det
  else none

/-- The severity of a source: fixed for FS015 and FS254 (R638). -/
def Blk.sevOf (b : Blk) (k : Nat) : Nat := if k = 15 ∨ k = 254 then 4 else min 4 (b.fld (F.FCU_SRC_SEV k))

/-- Does the condition of a source that has one hold (R636)? -/
def Blk.condHolds (b : Blk) (k : Nat) : Bool :=
  match k with
  | 69 => decide (b.fld F.SWC_BUF_FREE_FREE < b.floor)
  | 147 => (List.range 16).any (fun n => b.on (F.XC_STAT_OT n))
  | 149 => (List.range 12).any (fun n => b.on (F.XL_STAT_BUS_SHORT n))
  | 160 => b.on (F.TB_STAT_CLAMP 0)
  | 161 => b.on (F.TB_STAT_CLAMP 1)
  | 225 => b.k.wb.uhOver || b.k.wb.flOver
  | 226 => decide (b.headCond < 0)
  | 229 => decide (b.kcTlim * 1000000000 < b.k.wb.tKc) || decide (b.bfTlim * 1000000000 < b.k.wb.tBf)
  | 230 => b.k.wb.lidZero
  | 235 => b.k.wb.diff.any (fun e => e.2.isSome)
  | _ => false

def condSources : List Nat := [69, 147, 149, 160, 161, 225, 226, 229, 230, 235]

/-- The conditions that hold now are noted: quiet periods count from their ends (R646). -/
def Blk.condMark (b : Blk) : Blk :=
  if b.kcRun then
    (condSources.filter (fun k => b.on (F.FCU_SRC_ACTIVE k) && b.condHolds k)).foldl (fun x k =>
      x.setFcu (fun f => { f with condAt := f.condAt.set (fun _ => 0) k (b.clk + 1) })) b
  else b

/-! ## Registers that show the sources -/

/-- ACTIVE of a source, here and in FCU_ACTIVE. -/
def Blk.setActive (b : Blk) (k : Nat) (v : Bool) : Blk :=
  let b1 := b.putB (F.FCU_SRC_ACTIVE k) v
  if v then b1.setBit (F.FCU_ACTIVE_ACTIVE (k / 32)) (k % 32) else b1.clrBit (F.FCU_ACTIVE_ACTIVE (k / 32)) (k % 32)

/-- PEND of a source, here and in FCU_PEND. -/
def Blk.setPend (b : Blk) (k : Nat) (v : Bool) : Blk :=
  let b1 := b.putB (F.FCU_SRC_PEND k) v
  if v then b1.setBit (F.FCU_PEND_PEND (k / 32)) (k % 32) else b1.clrBit (F.FCU_PEND_PEND (k / 32)) (k % 32)

/-- FCU_STAT and the head of the log. -/
def Blk.fcuSync (b : Blk) : Blk :=
  let f := b.k.fcu
  let m := f.eff.foldl (fun n e => max n e.2) 0
  let b1 := ((b.put F.FCU_STAT_SV_MAX m).putB F.FCU_STAT_FAULT (3 ≤ m)).put F.FCU_STAT_LOG_COUNT f.log.length
  match f.log with
  | [] => ((b1.setReg R.FCU_LOG 0).setReg R.FCU_LOG_TS 0).setReg R.FCU_LOG_DET 0
  | e :: _ => ((b1.setReg R.FCU_LOG e.1).put F.FCU_LOG_TS_TS e.2.1).put F.FCU_LOG_DET_DET e.2.2

/-- Is a class open (R639)? -/
def Blk.classOpen (b : Blk) (c : Nat) : Bool := (classSources c).any (fun k => b.on (F.FCU_SRC_PEND k))

/-- A log entry (R641, R654). -/
def Blk.fcuLog (b : Blk) (r : Raise) (eff : Nat) (esc held : Bool) : Blk :=
  let w : Nat := 2 ^ 31 + esc.toNat * 2 ^ 30 + held.toNat * 2 ^ 29 + r.ctx.isSome.toNat * 2 ^ 28 + eff * 2 ^ 24 +
    r.ctx.getD 0 % 256 * 2 ^ 16 + r.core.isSome.toNat * 2 ^ 15 + r.core.getD 0 % 8 * 2 ^ 12 + r.src
  if b.k.fcu.log.length < 64 then
    b.setFcu (fun f => { f with log := f.log ++ [(BitVec.ofNat 32 w, b.now % 2 ^ 32, r.det % 2 ^ 32)] })
  else b.incSat F.FCU_STAT_LOG_OVF

/-! ## Reactions -/

/-- The partition restart of R643. A restart already pending stays as it is. -/
def Blk.restart (b : Blk) (c : Nat) (r : Raise) : Blk :=
  let b1 := b.put (F.ATU_CTX_STAT_STOPPED c) 1
  if (b.fld (F.FCU_RST_PEND_RST (c / 32))).testBit (c % 32) then b1
  else (b1.setBit (F.FCU_RST_PEND_RST (c / 32)) (c % 32)).setFcu (fun f => { f with rst := f.rst ++ [(c, b.clk, r)] })

/-- The module enters LIMP (R94, R95, R644): the application cluster is held in reset, and what STANDBY put to
sleep returns. A transition in progress ends, a SLEEP entry before its point of no return as an abandoned one
(assumption 78). -/
def Blk.enterLimp (b : Blk) : Blk :=
  let st := b.fld F.SYSCTL_PWR_STATE
  if st = 0 ∨ st = 1 ∨ st = 3 then
    let b0 := if st = 3 then b.entryDrop.standbyLeave else b.entryDrop
    let b1 := (List.range 8).foldl (fun x h => x.hartStop h 4) b0
    { ((b1.put F.SYSCTL_PWR_STATE 2).put F.AON_PSTATE_STATE 2).put F.SYSCTL_PWR_BUSY 0 with
      pwr := { b1.pwr with
        trans := none
        idle := [] } }
  else b

/-- The hand-over of a source (R644). -/
def Blk.handOver644 (b : Blk) (r : Raise) : Blk :=
  match b.fld (F.FCU_SRC_HO r.src) with
  | 1 => b.enterLimp
  | 2 =>
    match r.core with
    | some n =>
      let b1 := (b.hartStop (16 + n) 0).put (F.DISP_CTL_EN n) 0
      b1.fileDeliver (mFile (16 + (n ^^^ 1))) (b.fld F.FCU_CFG_HO_IDENT)
    | none => b
  | 3 =>
    match portNamed r with
    | some p =>
      let b1 := ((b.linkDown p false).trainDrop p).put (F.ETH_STAT_STATE p) 0
      b1.setPort p { b1.portOf p with
        retryAt := none
        barred := true }
    | none => b
  | 4 =>
    match busNamed r with
    | some n => b.canLeave n
    | none => b
  | _ => b

/-- The severity with which a raising acts (R643): SV2 acts as SV3 where no partition can be restarted. -/
def Blk.actsAs (b : Blk) (r : Raise) (eff : Nat) : Nat :=
  let c := b.restartTarget r
  if eff = 2 ∧ (c < 2 ∨ b.ctxExists c = false) then 3 else eff

/-- The reactions below SV4 (R641, R643, R644). -/
def Blk.reactTo (b : Blk) (r : Raise) (act : Nat) : Blk :=
  let c := b.restartTarget r
  let b1 := if 2 ≤ act ∧ 2 ≤ c ∧ b.ctxExists c then b.restart c r else b
  if act = 3 then b1.handOver644 r else b1

/-- A raising counts, and its source is active and pending (R639 to R641). -/
def Blk.fcuCount (b : Blk) (r : Raise) : Blk :=
  (((b.incSat (F.FCU_CNT_RAISED r.src)).setActive r.src true).setPend r.src true).setFcu (fun f => { f with
    last := f.last.set (fun k => ⟨k, none, none, 0⟩) r.src r
    lastAt := f.lastAt.set (fun _ => 0) r.src (b.clk + 1)
    openAt := f.openAt.set (fun _ => 0) r.src 0 })

/-- The effective severity of a raising acts (R640, R641): the block after every reaction but that of SV4, and
whether SV4 is to follow. -/
def Blk.fcuAct (b : Blk) (r : Raise) (esc held : Bool) : Bool × Blk :=
  let eff := min 4 (b.sevOf r.src + esc.toNat)
  let act := b.actsAs r eff
  let b1 := ((b.putB (F.FCU_SRC_ESC r.src) esc).setFcu (fun f => { f with
    eff := f.eff.set (fun _ => 0) r.src act })).fcuLog r eff esc held
  (act == 4, (b1.reactTo r act).fcuSync)

/-- A raising reaches the FCU (R640, R641); `force`: it is escalated in any case (R643, R646). -/
def Blk.fcuRaise (b : Blk) (r : Raise) (force : Bool) : Bool × Blk :=
  if faultNamed r.src = false then (false, b)
  else
    let esc := force || b.classOpen (faultClass r.src)
    (b.fcuCount r).fcuAct r esc false

/-- A source raised on KC before step 5 of R60 (R645): it counts, and acts at once only if its fuse severity is
SV4. -/
def Blk.fcuEarly (b : Blk) (r : Raise) : Bool × Blk :=
  if faultNamed r.src = false then (false, b)
  else if (faultDefault r.src).1 = 4 then (b.fcuCount r).fcuAct r false false
  else (false, (b.fcuCount r).fcuSync)

/-- A source that waited is presented at step 5 (R645, R653); one that UH or a die held counts now. -/
def Blk.fcuPresent (b : Blk) (r : Raise) (count : Bool) : Bool × Blk :=
  if faultNamed r.src = false then (false, b)
  else
    let b1 := if count then b.fcuCount r else b
    b1.fcuAct r false true

/-! ## Recovery -/

/-- The source is no longer active (R646). -/
def Blk.endActive (b : Blk) (k : Nat) : Blk :=
  ((b.setActive k false).setFcu (fun f => { f with eff := f.eff.set (fun _ => 0) k 0 })).fcuSync

/-- The recovery mode in force: 0 SW_CLEAR, 1 AUTO_QUIET, 2 HYBRID (R646). -/
def Blk.modeOf (b : Blk) (k : Nat) : Nat :=
  match b.fld (F.FCU_SRC_MODE k) with
  | 1 => if b.on (F.FCU_SRC_REVERTED k) then 0 else 1
  | 2 => 2
  | _ => 0

/-- The quiet period of source `k` has passed (R646). -/
def Blk.quietOver (b : Blk) (k : Nat) : Bool :=
  let f := b.k.fcu
  let t := max (f.lastAt.get (fun _ => 0) k) (f.condAt.get (fun _ => 0) k)
  b.on (F.FCU_SRC_ACTIVE k) && !b.condHolds k &&
    decide (t - 1 + max 1 (b.fld (F.FCU_CLASS_QUIET (faultClass k))) * tickMs ≤ b.clk)

/-- The quiet period passes (R646). -/
def Blk.quietEnd (b : Blk) (k : Nat) : Blk :=
  if b.kcRun && b.quietOver k then
    match b.modeOf k with
    | 1 =>
      let n := min 255 (b.fld (F.FCU_SRC_RCNT k) + 1)
      let lim := b.fld (F.FCU_CLASS_RLIM (faultClass k))
      let b1 := ((b.endActive k).setPend k false).put (F.FCU_SRC_RCNT k) n
      if lim ≠ 0 ∧ lim ≤ n then b1.put (F.FCU_SRC_REVERTED k) 1 else b1
    | 2 => (b.endActive k).setFcu (fun f => { f with openAt := f.openAt.set (fun _ => 0) k (b.clk + 1) })
    | _ => b
  else b

/-- The window of ACK in ticks (R646). -/
def Blk.ackWin (b : Blk) (k : Nat) : Nat := max 1 (b.fld (F.FCU_CLASS_ACK_WIN (faultClass k))) * 10 * tickMs

/-- The window of a HYBRID source has closed without ACK. -/
def Blk.windowClosed (b : Blk) (k : Nat) : Bool :=
  match b.k.fcu.openAt.get (fun _ => 0) k with
  | 0 => false
  | t + 1 => b.on (F.FCU_SRC_PEND k) && !b.on (F.FCU_SRC_ACTIVE k) && decide (t + b.ackWin k ≤ b.clk)

/-- CLR of source `k` (R646). -/
def Blk.fcuClr (b : Blk) (k : Nat) : Blk :=
  if b.on (F.FCU_SRC_ACTIVE k) && b.modeOf k == 0 && !b.condHolds k then (b.endActive k).setPend k false else b

/-- ACK of source `k` (R646). -/
def Blk.fcuAck (b : Blk) (k : Nat) : Blk :=
  match b.k.fcu.openAt.get (fun _ => 0) k with
  | 0 => b
  | t + 1 =>
    if b.on (F.FCU_SRC_PEND k) && !b.on (F.FCU_SRC_ACTIVE k) && decide (b.clk < t + b.ackWin k) then
      (b.setPend k false).setFcu (fun f => { f with openAt := f.openAt.set (fun _ => 0) k 0 })
    else b

/-- RCLR of source `k` (R646). -/
def Blk.fcuRclr (b : Blk) (k : Nat) : Blk := (b.put (F.FCU_SRC_RCNT k) 0).put (F.FCU_SRC_REVERTED k) 0

/-- A write of FCU_SRC(k) (R638, R646, R654): SEV holds at most 4, and that of FS015 and FS254 is fixed. -/
def Blk.srcWrite (b : Blk) (k : Nat) (v : W32) : Blk :=
  if faultNamed k = false then b
  else
    let b1 := b.writeReg (R.FCU_SRC k) v
    let b2 := if k = 15 ∨ k = 254 then b1.put (F.FCU_SRC_SEV k) 4 else b1.put (F.FCU_SRC_SEV k) (b1.sevOf k)
    let b3 := if (F.FCU_SRC_CLR k).get v = 1 then b2.fcuClr k else b2
    let b4 := if (F.FCU_SRC_ACK k).get v = 1 then b3.fcuAck k else b3
    if (F.FCU_SRC_RCLR k).get v = 1 then b4.fcuRclr k else b4

/-- A write of FCU_TEST (R654). -/
def Blk.fcuTest (b : Blk) (v : W32) : Blk :=
  if F.FCU_TEST_KEY.get v = 0xf5 then b.raise (F.FCU_TEST_SRC.get v) else b

/-- A write of FCU_LOG_POP (R654). -/
def Blk.fcuPop (b : Blk) (v : W32) : Blk :=
  if F.FCU_LOG_POP_POP.get v = 1 then (b.setFcu (fun f => { f with log := f.log.tail })).fcuSync else b

/-- A write of FCU_RST_PEND(w): bits written 1 end their restart requests (R643). -/
def Blk.rstWrite (b : Blk) (w : Nat) (v : W32) : Blk :=
  (b.writeReg (R.FCU_RST_PEND w) v).setFcu (fun f => { f with
    rst := f.rst.filter (fun e => !(e.1 / 32 == w && v.getLsbD (e.1 % 32))) })

/-- The restart of context `c` has not been made within RST_TMO (R643): the raising to repeat, and the request
no longer timed. -/
def Blk.restartLate (b : Blk) (c : Nat) : Option Raise × Blk :=
  match b.k.fcu.rst.find? (fun e => e.1 == c) with
  | none => (none, b)
  | some e =>
    if e.2.1 + max 1 (b.fld F.FCU_CFG_RST_TMO) * tickMs ≤ b.clk then
      (some e.2.2, b.setFcu (fun f => { f with rst := f.rst.filter (fun x => x.1 != c) }))
    else (none, b)

/-! ## Fault pins -/

/-- The pins UH drives (R648): FAULT_N, none while it is not driven; whether ALIVE toggles; WHY. -/
def Blk.pins (b : Blk) : Option Bool × Bool × Nat :=
  let fcu3 := b.kcRun && b.on F.FCU_STAT_FAULT
  let sv4 := b.keeper.sv4
  let lost := b.on F.AON_PSTATE_KEEPER_LOST
  let why := b.keeper.noKeep.toNat + 2 * lost.toNat + 4 * fcu3.toNat + 8 * sv4.toNat
  if !b.pwr.vkeep || !b.pwr.ready then (none, false, why)
  else if b.asleep then (some true, false, why)
  else if sv4 || lost || b.keeper.noKeep || b.keeper.bootHalt then (some false, false, why)
  else if fcu3 then (some false, true, why)
  else (some true, true, why)

/-- ALIVE toggles every 500 µs while it runs, and is low in SLEEP (R648). -/
def Blk.aliveTick (b : Blk) : Blk :=
  if b.pins.2.1 && decide (b.pwr.aliveAt + 500 * tickUs ≤ b.clk) then
    { b with pwr := { b.pwr with
      alive := !b.pwr.alive
      aliveAt := b.clk } }
  else if b.asleep && b.pwr.alive then { b with pwr := { b.pwr with alive := false } }
  else b

/-- UH reads the pins back: their levels (R648). -/
def Blk.pinRead (b : Blk) (faultN alive : Bool) : Blk :=
  match b.pins.1 with
  | none => b
  | some f =>
    let b1 := ((b.putB F.KEEP_PINS_FAULT_N faultN).putB F.KEEP_PINS_ALIVE_RUN b.pins.2.1).put F.KEEP_PINS_WHY b.pins.2.2
    if faultN = f ∧ alive = b.pwr.alive then b1 else (b1.keepEvt 2).raiseF 253

end Sys2Proof.Machine
end

