-- ==== Sys2Proof/Machine/Aplic.lean ====
section
/-!
DEFINITION. Machine/Aplic.lean: the two APLIC domains (R488, R490, R642). The spec gives the sources, the
delivery mode and the source modes, and follows the RISC-V Advanced Interrupt Architecture for the rest: the
layout of the registers, delegation and the rules of the pending bits are that document's (assumption 23).
Domain 0 is the machine-level domain, domain 1 the supervisor-level domain.
-/

namespace Sys2Proof.Machine

/-- FCU line `l` (R642, R643). -/
def Blk.fcuLine (b : Blk) (l : Nat) : Bool :=
  (List.range 384).any (fun k => b.fld (F.FCU_CLASS_LINE (faultClass k)) == l &&
    ((b.on (F.FCU_SRC_ACTIVE k) && 1 ≤ b.k.fcu.eff.get (fun _ => 0) k) ||
      (b.on (F.FCU_SRC_PEND k) && b.k.fcu.openAt.get (fun _ => 0) k != 0))) ||
  (b.fld F.FCU_CFG_RST_LINE == l && (List.range 8).any (fun k => b.reg (R.FCU_RST_PEND k) != 0))

/-- Is an event register's enabled part nonzero? -/
def Blk.evtHigh (b : Blk) (evt ien : Nat) : Bool := b.reg evt &&& b.reg ien != 0

/-- The line of wired source `s` (R490). -/
def Blk.lineHigh (b : Blk) (s : Nat) : Bool :=
  if s < 1 then false
  else if s ≤ 16 then b.evtHigh (R.CAN_EVT (s - 1)) (R.CAN_IEN (s - 1))
  else if s ≤ 28 then b.evtHigh (R.LIN_EVT (s - 17)) (R.LIN_IEN (s - 17))
  else if s ≤ 56 then b.evtHigh (R.ETH_EVT (s - 29)) (R.ETH_IEN (s - 29))
  else if s = 57 then b.on F.TALLY_STAT_DONE
  else if s = 58 then
    (List.range 16).any (fun x => b.on (F.CAP_FLAGS_VALID x)) || (List.range 2).any (fun p => b.on (F.PO_CTL_LATE p))
  else if s = 59 then b.on F.BPL_CHECK_DONE
  else if s ≤ 63 then (List.range 4).any (fun r => b.evtHigh (R.RING_EVT (4 * (s - 60) + r)) (R.RING_IEN (4 * (s - 60) + r)))
  else if s ≤ 67 then (List.range 4).any (fun q => b.evtHigh (R.CQ_EVT (4 * (s - 64) + q)) (R.CQ_IEN (4 * (s - 64) + q)))
  else if s = 68 then b.evtHigh R.KV_EVT R.KV_IEN
  else if s = 69 then b.evtHigh R.ATU_EVT R.ATU_IEN
  else if s = 70 then b.evtHigh R.BRG_EVT R.BRG_IEN
  else if 80 ≤ s ∧ s ≤ 95 then b.fcuLine (s - 80)
  else false

/-- Is source `s` implemented (R490)? -/
def isWired (s : Nat) : Bool := 1 ≤ s && s ≤ 95 && !(71 ≤ s && s ≤ 79)

def Blk.aplOf (b : Blk) (d : Nat) : Apl := b.k.apl.get (fun _ => {}) d
def Blk.setApl (b : Blk) (d : Nat) (x : Apl) : Blk := { b with k := { b.k with apl := b.k.apl.set (fun _ => {}) d x } }

/-- sourcecfg of source `s` in domain `d`: 0 Inactive, 1 Detached, 6 Level1, 0x400 delegated. -/
def Blk.srcCfg (b : Blk) (d s : Nat) : Nat := (b.aplOf d).cfg.get (fun _ => 0) s

/-- Is the source active in the domain? -/
def Blk.aplActive (b : Blk) (d s : Nat) : Bool := b.srcCfg d s == 1 || b.srcCfg d s == 6

/-- The source's rectified input value in the domain. -/
def Blk.rectified (b : Blk) (d s : Nat) : Bool := b.srcCfg d s == 6 && b.lineHigh s

/-- A set of sources with `s` at `v`. -/
def bitTo (w s : Nat) (v : Bool) : Nat :=
  if w.testBit s = v then w else if v then w + 2 ^ s else w - 2 ^ s

/-- Rising inputs of domain `d` set pending bits; an input that is low clears that of a Level1 source. -/
def Blk.aplSense (b : Blk) (d : Nat) : Blk :=
  (List.range 96).foldl (fun x s =>
    if x.srcCfg d s == 6 then
      let y := x.aplOf d
      let r := x.rectified d s
      if r && !y.was.testBit s then x.setApl d { y with
          pend := bitTo y.pend s true
          was := bitTo y.was s true }
      else if r then x
      else x.setApl d { y with
          pend := bitTo y.pend s false
          was := bitTo y.was s false }
    else x) b

/-- The page of the file that a target of domain `d` names; hart index `h`, guest index `g`. -/
def aplPage (d h g : Nat) : Option Nat :=
  if d = 0 then (if isHart h then some (mFile h) else none)
  else if isApp h ∧ g ≤ 4 then some (0x44200 + 8 * h + g) else none

/-- A message of domain `d` for target word `t` (R490): hart index, guest index, identity. -/
def Blk.aplMsg (b : Blk) (d t : Nat) : Blk :=
  match aplPage d (t / 2 ^ 18) (t / 2 ^ 12 % 64) with
  | some p => b.fileDeliver p (t % 2048)
  | none => b

/-- The pending and enabled sources of domain `d` send their messages while its IE is 1. -/
def Blk.aplSend (b : Blk) (d : Nat) : Blk :=
  if (b.aplOf d).ie then
    (List.range 96).foldl (fun x s =>
      let y := x.aplOf d
      if y.pend.testBit s && y.en.testBit s && x.aplActive d s then
        (x.setApl d { y with
          pend := bitTo y.pend s false }).aplMsg d (y.tgt.get (fun _ => 0) s)
      else x) b
  else b

/-- The lines are looked at and messages leave. -/
def Blk.aplic (b : Blk) : Blk :=
  if b.kcRun ∧ b.k.apl ≠ [] then (((b.aplSense 0).aplSense 1).aplSend 0).aplSend 1 else b

/-! ## The registers -/

/-- sourcecfg of `s` becomes `c`; a source that is no longer active has no target, pending or enable bit, and one
that is no longer delegated leaves the supervisor-level domain. -/
def Blk.aplCfg (b : Blk) (d s c : Nat) : Blk :=
  let y := b.aplOf d
  let y1 := { y with cfg := y.cfg.set (fun _ => 0) s c }
  let gone (z : Apl) : Apl :=
    { z with
      tgt := z.tgt.set (fun _ => 0) s 0
      pend := bitTo z.pend s false
      en := bitTo z.en s false
      was := bitTo z.was s false }
  let b1 := b.setApl d (if c = 1 ∨ c = 6 then y1 else gone y1)
  if d = 0 ∧ c ≠ 0x400 then
    let z := b1.aplOf 1
    b1.setApl 1 (gone { z with cfg := z.cfg.set (fun _ => 0) s 0 })
  else b1

/-- A write of sourcecfg (R490). -/
def Blk.sourcecfg (b : Blk) (d s v : Nat) : Blk :=
  if !isWired s || (d == 1 && b.srcCfg 0 s != 0x400) then b
  else if v.testBit 10 then b.aplCfg d s (if d = 0 then 0x400 else 0)
  else b.aplCfg d s (if v % 8 = 1 ∨ v % 8 = 6 then v % 8 else 0)

/-- A write that sets the pending bit of `s`: a Level1 source needs a high input. -/
def Blk.setIp (b : Blk) (d s : Nat) : Blk :=
  if b.srcCfg d s == 1 || b.rectified d s then
    let y := b.aplOf d
    b.setApl d { y with pend := bitTo y.pend s true }
  else b

def Blk.clrIp (b : Blk) (d s : Nat) : Blk :=
  let y := b.aplOf d
  b.setApl d { y with pend := bitTo y.pend s false }

/-- A write that sets or clears the enable bit of `s`. -/
def Blk.aplEn (b : Blk) (d s : Nat) (v : Bool) : Blk :=
  if b.aplActive d s then
    let y := b.aplOf d
    b.setApl d { y with en := bitTo y.en s v }
  else b

/-- `f` for each source that word `k` of a bit array names in `v`. -/
def eachBit (k v : Nat) (f : Blk → Nat → Blk) (b : Blk) : Blk :=
  (List.range 32).foldl (fun x j => if v.testBit j && 32 * k + j < 96 then f x (32 * k + j) else x) b

/-- A write of target of `s`: identity, guest index in the supervisor-level domain, hart index. -/
def Blk.aplTarget (b : Blk) (d s v : Nat) : Blk :=
  if b.aplActive d s then
    let y := b.aplOf d
    let t := v / 2 ^ 18 * 2 ^ 18 + (if d = 1 then v / 2 ^ 12 % 64 * 2 ^ 12 else 0) + v % 2048
    b.setApl d { y with tgt := y.tgt.set (fun _ => 0) s t }
  else b

/-- What a write of `v` at offset `o` of domain `d` changes. -/
def Blk.aplSet (b : Blk) (d o v : Nat) : Blk :=
  if o = 0 then b.setApl d { b.aplOf d with ie := v.testBit 8 }
  else if o < 0x180 then b.sourcecfg d (o / 4) v
  else if 0x1c00 ≤ o ∧ o < 0x1c80 then eachBit ((o - 0x1c00) / 4) v (fun x s => x.setIp d s) b
  else if o = 0x1cdc ∨ o = 0x2000 then (if v < 96 then b.setIp d v else b)
  else if o = 0x2004 then (if swap32 v < 96 then b.setIp d (swap32 v) else b)
  else if 0x1d00 ≤ o ∧ o < 0x1d80 then eachBit ((o - 0x1d00) / 4) v (fun x s => x.clrIp d s) b
  else if o = 0x1ddc then (if v < 96 then b.clrIp d v else b)
  else if 0x1e00 ≤ o ∧ o < 0x1e80 then eachBit ((o - 0x1e00) / 4) v (fun x s => x.aplEn d s true) b
  else if o = 0x1edc then (if v < 96 then b.aplEn d v true else b)
  else if 0x1f00 ≤ o ∧ o < 0x1f80 then eachBit ((o - 0x1f00) / 4) v (fun x s => x.aplEn d s false) b
  else if o = 0x1fdc then (if v < 96 then b.aplEn d v false else b)
  else if o = 0x3000 then
    (let t := v / 2 ^ 18 * 2 ^ 18 + v % 2048
     (b.setApl d { b.aplOf d with gen := t }).aplMsg d t)
  else if 0x3000 < o ∧ o < 0x3180 then b.aplTarget d ((o - 0x3000) / 4) v
  else b

/-- A write of `v` at offset `o` of domain `d`: the lines are looked at before and after. -/
def Blk.aplWrite (b : Blk) (d o v : Nat) : Blk := (b.aplic.aplSet d o v).aplic

/-- Word `k` of a set of sources. -/
def setWord (w k : Nat) : Nat := w / 2 ^ (32 * k) % 2 ^ 32

/-- What a read at offset `o` of domain `d` returns. -/
def Blk.aplRead (b : Blk) (d o : Nat) : Nat :=
  let y := (b.aplSense d).aplOf d
  if o = 0 then 0x80000004 + (if y.ie then 0x100 else 0)
  else if o < 0x180 then y.cfg.get (fun _ => 0) (o / 4)
  else if o = 0x1bc4 ∧ d = 0 then 0x80000000
  else if 0x1c00 ≤ o ∧ o < 0x1c80 then setWord y.pend ((o - 0x1c00) / 4)
  else if 0x1d00 ≤ o ∧ o < 0x1d80 then setWord y.was ((o - 0x1d00) / 4)
  else if 0x1e00 ≤ o ∧ o < 0x1e80 then setWord y.en ((o - 0x1e00) / 4)
  else if o = 0x3000 then y.gen
  else if 0x3000 < o ∧ o < 0x3180 then y.tgt.get (fun _ => 0) ((o - 0x3000) / 4)
  else 0

end Sys2Proof.Machine
end

