-- ==== Sys2Proof/Machine/Gates.lean ====
section
/-!
DEFINITION. Machine/Gates.lean: the clock and power gates (R541 to R545, R548).
-/

namespace Sys2Proof.Machine

/-- Is gate `g` shared by both worlds (R543)? -/
def Blk.gateShared (b : Blk) (g : Nat) : Bool := b.fld (F.SYSCTL_GATE_WORLDS g) == 3

/-- Is the clock, or the power, of gate `g` to be off (R543)? -/
def Blk.wantClkOff (b : Blk) (g : Nat) : Bool :=
  b.on (F.SYSCTL_GATE_CLK_OFF g) && (!b.gateShared g || b.on (F.SYSCTL_GATE_REL_REL_CLK g))
def Blk.wantPwrOff (b : Blk) (g : Nat) : Bool :=
  b.on (F.SYSCTL_GATE_PWR_OFF g) && (!b.gateShared g || b.on (F.SYSCTL_GATE_REL_REL_PWR g))

/-- PEND_CLK and PEND_PWR (R543, R548). -/
def Blk.gateSync (b : Blk) (g : Nat) : Blk :=
  (b.putB (F.SYSCTL_GATE_PEND_CLK g) (b.on (F.SYSCTL_GATE_CLK_OFF g) && !b.wantClkOff g)).putB
    (F.SYSCTL_GATE_PEND_PWR g) (b.on (F.SYSCTL_GATE_PWR_OFF g) && !b.wantPwrOff g)

/-- The ticks of the write or release that decides a change of gate `g` are kept for the 1 ms of FS198. -/
def Blk.gateMark (b : Blk) (g : Nat) : Blk :=
  if b.wantPwrOff g && b.on (F.SYSCTL_GATE_PWR_ON g) then
    if b.k.gateAt.get (fun _ => 0) g = 0 then
      { b with k := { b.k with gateAt := b.k.gateAt.set (fun _ => 0) g (b.clk + 1) } }
    else b
  else { b with k := { b.k with gateAt := b.k.gateAt.set (fun _ => 0) g 0 } }

/-- A write of SYSCTL_GATE(g) (R542, R543, R548). -/
def Blk.gateWrite (b : Blk) (g : Nat) (v : W32) : Blk :=
  let b1 := b.writeReg (R.SYSCTL_GATE g) v
  let b2 := if gateHasPwr g then b1 else b1.put (F.SYSCTL_GATE_PWR_OFF g) 0
  (b2.gateSync g).gateMark g

/-- A write of SYSCTL_GATE_REL(g) (R543, R548). -/
def Blk.gateRel (b : Blk) (g : Nat) (v : W32) : Blk :=
  if b.gateShared g = false then b
  else
    let b1 := b.writeReg (R.SYSCTL_GATE_REL g) v
    let b2 := if gateHasPwr g then b1 else b1.put (F.SYSCTL_GATE_REL_REL_PWR g) 0
    (b2.gateSync g).gateMark g

/-- The switch core returns to its state after a KC reset (R322, R367). The frames in it are lost: none of a host
port's stays stalled, their descriptors are done with, and receptions in progress have no frame in the core any
more and nothing to learn. -/
def Blk.swcReset (b0 : Blk) : Blk :=
  let lost := b0.k.fab.frms
  let b := (List.range 26).foldl (fun x p =>
    let q := x.portOf p
    x.setPort p { q with rx := q.rx.map (fun r => { r with frm := none, learn := none }) }) b0
  let b1 := (lost.filterMap (·.host)).foldl (fun x h => x.put (F.QP_STAT_STALLED h.1) 0)
    (b.keepRegs (fun a => a < 0x41000000 || 0x42000000 ≤ a))
  { b1 with k := { b1.k with
    look := []
    fab := { hostDone := b0.k.fab.hostDone ++ lost.filterMap (·.host) ++
      (b0.k.look.flatMap (·.2)).filterMap (·.host) }
    mac := []
    macRes := none
    sweepAt := 0
    sgate := []
    meter := []
    srf := []
    csSeen := []
    qbv := []
    cbs := [] } }

/-- Engine CRY`k` returns to its state after a KC reset (R635). -/
def Blk.cryReset (b : Blk) (k : Nat) : Blk :=
  let lo := 0x40a01000 + 0x400 * k
  let b1 := (List.range 4).foldl (fun x j => x.bulkDrop (4 * k + j)) b
  let b2 := b1.keepRegs (fun a => a < lo || lo + 0x400 ≤ a)
  { b2 with k := { b2.k with
    cryTurn := b2.k.cryTurn.set (fun _ => 0) k 0
    cryWait := b2.k.cryWait.keep (fun q => q / 4 != k) } }

/-- The block behind gate `g` loses its state with its power (R544). -/
def Blk.gateLose (b : Blk) (g : Nat) : Blk :=
  if g < 26 then b.portReset g
  else if 0x40 ≤ g ∧ g ≤ 0x43 then b.cryReset (g - 0x40)
  else if g = 0x50 then b.swcReset
  else b

/-- Has the block behind gate `g` answered everything it had accepted (R544, R603)? -/
def Blk.gateIdle (b : Blk) (g : Nat) : Bool :=
  if 0x40 ≤ g ∧ g ≤ 0x43 then !(List.range 4).any (fun j => b.on (F.CQ_STAT_BUSY (4 * (g - 0x40) + j)))
  else if 0x48 ≤ g ∧ g ≤ 0x4b then !(List.range 4).any (fun j => b.on (F.RING_STAT_BUSY (4 * (g - 0x48) + j)))
  else true

/-- The change of gate `g` completes (R544). -/
def Blk.gateDone (b : Blk) (g : Nat) : Blk :=
  let po := b.wantPwrOff g
  let co := po || b.wantClkOff g
  let wasP := b.on (F.SYSCTL_GATE_PWR_ON g)
  if (po && wasP || co && b.on (F.SYSCTL_GATE_CLK_ON g)) && !b.gateIdle g then b
  else
    let b1 := ((b.putB (F.SYSCTL_GATE_PWR_ON g) (!po)).putB (F.SYSCTL_GATE_CLK_ON g) (!co)).gateMark g
    if po && wasP then b1.gateLose g else b1

/-- A power gate has not quiesced within 1 ms (R546). -/
def Blk.gateLate (b : Blk) (g : Nat) : Blk :=
  match b.k.gateAt.get (fun _ => 0) g with
  | 0 => b
  | t + 1 =>
    if t + tickMs ≤ b.clk ∧ b.on (F.SYSCTL_GATE_PWR_ON g) then
      { b.raise 198 g with k := { b.k with gateAt := b.k.gateAt.set (fun _ => 0) g (b.clk + 1) } }
    else b

/-! ## Meanings -/

/-- A write of SYSCTL_GATE(g) (R542). -/
def execGateRequest (i : Init) (g : Nat) (v : W32) (s : State) : Host.Outcome State Fault Refusal :=
  onBlk (gateExists g) s (fun b => b.onWrite i (R.SYSCTL_GATE g) v (fun b => b.gateWrite g v))

/-- A write of SYSCTL_GATE_REL(g) (R543). -/
def execGateRelease (i : Init) (g : Nat) (v : W32) (s : State) : Host.Outcome State Fault Refusal :=
  onBlk (gateExists g) s (fun b => b.onWrite i (R.SYSCTL_GATE_REL g) v (fun b => b.gateRel g v))

/-- The change of gate `g` completes (R544). -/
def execGateChangeComplete (g : Nat) (s : State) : Host.Outcome State Fault Refusal :=
  onBlk (gateExists g) s (fun b => if b.kcRun then b.gateDone g else b)

/-- A power gate does not quiesce within 1 ms (R546). -/
def execGateQuiesceTimeout (g : Nat) (s : State) : Host.Outcome State Fault Refusal :=
  onBlk (gateExists g) s (fun b => if b.kcRun then b.gateLate g else b)

end Sys2Proof.Machine
end

