-- ==== Sys2Proof/Machine/RegWrite.lean ====
section
/-!
DEFINITION. Machine/RegWrite.lean: what an accepted 32-bit write of any register does at its target. The
registers to which the rules give an effect besides the types of their fields have a branch here; every
other register follows R8 (`Blk.writeReg`).
-/

namespace Sys2Proof.Machine

/-- A write of BPL_CMD (R76): a check begins unless one runs. -/
def Blk.bplCmd (b : Blk) (v : W32) : Blk :=
  if F.BPL_CMD_CHECK.get v = 1 ∧ b.on F.BPL_CHECK_BUSY = false then b.put F.BPL_CHECK_BUSY 1 else b

/-- A write of SYSCTL_HART_CTL of hart `h` (R496). -/
def Blk.hartCtl (b : Blk) (h : Nat) (v : W32) : Blk :=
  if (F.SYSCTL_HART_CTL_KEY h).get v = 0xc3 then
    match (F.SYSCTL_HART_CTL_CMD h).get v with
    | 1 => b.hartRelease h
    | 2 => b.hartReset h
    | _ => b
  else b

/-- Blocks SYSCTL, SEC, ICU and RCX (R98, R496, R498, R547, R548). -/
def Blk.sysEffect (b : Blk) (r : RegSpec) (ix : List Nat) (a : Nat) (v : W32) : Blk :=
  let n := ix.headD 0
  if r.base = R.SYSCTL_PWR then b.pwrStore v
  else if r.base = R.SYSCTL_HART_CTL 0 then b.hartCtl (flat 16 ix) v
  else if r.base = R.SYSCTL_GATE 0 then b.gateWrite n v
  else if r.base = R.SYSCTL_GATE_REL 0 then b.gateRel n v
  else if r.base = R.MTIMECMP_LO 0 ∨ r.base = R.MTIMECMP_HI 0 then (b.writeReg a v).timerSync (flat 16 ix)
  else if r.base = R.APLIC_M 0 then b.aplWrite 0 (a - R.APLIC_M 0) v.toNat
  else if r.base = R.APLIC_S 0 then b.aplWrite 1 (a - R.APLIC_S 0) v.toNat
  else if r.base = R.SEC_POT_BASE_LO ∨ r.base = R.SEC_POT_BASE_HI then
    (if b.on F.SEC_POT_CTL_EN then b else b.writeReg a v)
  else if r.base = R.SEC_POT_INV then b.potInv (F.SEC_POT_INV_FIRST.get v)
  else if r.base = R.BPL_CMD then b.bplCmd v
  else b.writeReg a v

/-- Blocks WBG, DISP, TIME and TALLY (R261 to R267, R444 to R447). -/
def Blk.wbgEffect (b : Blk) (i : Init) (r : RegSpec) (ix : List Nat) (a : Nat) (v : W32) : Blk :=
  let n := ix.headD 0
  if r.base = R.WBG_SLOT_REQ 0 then
    b.slotReq i n ((F.WBG_SLOT_REQ_KIND n).get v) ((F.WBG_SLOT_REQ_STEP n).get v) ((F.WBG_SLOT_REQ_DP n).get v)
  else if r.base = R.WBG_SLOT_REL 0 then (if (F.WBG_SLOT_REL_REL n).get v = 1 then b.slotRel n else b)
  else if r.base = R.DISP_CTL 0 then b.dispCtl n v
  else if r.base = R.DISP_END 0 then (if (F.DISP_END_END n).get v = 1 then b.endTask n else b)
  else if r.base = R.DISP_RELEASE 0 then b.release n ((F.DISP_RELEASE_IDX n).get v)
  else if R.DISP_ENT 0 0 0 ≤ r.base ∧ r.base ≤ R.DISP_ENT 0 0 3 then
    b.tableWrite n (ix.getD 1 0) ((r.base - R.DISP_ENT 0 0 0) / 4) v
  else if r.base = R.TB_NOM 0 then (b.writeReg a v).tbSync n
  else if r.base = R.TB_OFFS 0 then b.offsWrite n v
  else if r.base = R.TB_STEP 0 then b.tbStep n v.toInt
  else if r.base = R.TB_CMD 0 then (if (F.TB_CMD_SET n).get v = 1 then b.tbSet n else b)
  else if r.base = R.TB_SERVO 0 then (b.writeReg a v).tbSync n
  else if r.base = R.PTS_POP 0 then (if (F.PTS_POP_POP n).get v = 1 then b.setPts n (b.ptsOf n).tail else b)
  else if r.base = R.PO_CTL 0 then b.poWrite n v
  else if r.base = R.PO_START 0 ∨ r.base = R.PO_PERIOD 0 ∨ r.base = R.PO_WIDTH 0 then
    (if b.on (F.PO_CTL_EN n) then b else b.writeReg a v)
  else if r.base = R.TALLY_CTL then b.tallyCtl v
  else b.writeReg a v

/-- Block FCU (R654). -/
def Blk.fcuEffect (b : Blk) (r : RegSpec) (ix : List Nat) (a : Nat) (v : W32) : Blk :=
  let n := ix.headD 0
  if r.base = R.FCU_SRC 0 then b.srcWrite n v
  else if r.base = R.FCU_TEST then b.fcuTest v
  else if r.base = R.FCU_LOG_POP then b.fcuPop v
  else if r.base = R.FCU_RST_PEND 0 then b.rstWrite n v
  else b.writeReg a v

/-- Blocks ATU, CVU, KV and CRY (R568, R569, R606, R634). -/
def Blk.devEffect (b : Blk) (r : RegSpec) (ix : List Nat) (a : Nat) (v : W32) : Blk :=
  let n := ix.headD 0
  if r.base = R.ATU_INV then b.atuInv (F.ATU_INV_ALL.get v == 1) (F.ATU_INV_RANGE.get v == 1) (F.ATU_INV_CTX.get v)
  else if r.base = R.ATU_CTX_CTL 0 then
    (let op := (F.ATU_CTX_CTL_OP n).get v
     if 1 ≤ op ∧ op ≤ 4 then b.ctxWrite n op else b)
  else if r.base = R.ATU_DIRTY_CTL 0 then
    (let b1 := b.writeReg a v
     if (F.ATU_DIRTY_CTL_SYNC n).get v = 1 then b1.put (F.ATU_DIRTY_CTL_BUSY n) 1 else b1)
  else if r.base = R.RING_CTL 0 then b.ringCtl n v
  else if r.base = R.RING_TAIL 0 then
    (let b1 := b.writeReg a v
     { b1 with k := { b1.k with cvuWait := b1.k.cvuWait.set (fun _ => false) n false } })
  else if r.base = R.CQ_CTL 0 then
    (let b1 := b.writeReg a v
     if b1.on (F.CQ_CTL_EN n) then b1 else b1.put (F.CQ_STAT_FETCH_ERR n) 0)
  else if r.base = R.CQ_TAIL 0 then
    (let b1 := b.writeReg a v
     { b1 with k := { b1.k with cryWait := b1.k.cryWait.set (fun _ => false) n false } })
  else if r.base = R.KV_CMD then
    b.kvStart (F.KV_CMD_OP.get v) (F.KV_CMD_SLOT.get v) (F.KV_CMD_SRC_DS.get v == 1) (F.KV_CMD_SRC.get v)
      (F.KV_CMD_ARG.get v)
  else if r.base = R.MBG_LOG_CTL 0 0 then
    (let b1 := b.writeReg a v
     if b1.on (F.MBG_LOG_CTL_EN n (ix.getD 1 0)) then b1 else b1.put (F.MBG_LOG_CTL_ERR n (ix.getD 1 0)) 0)
  else b.writeReg a v

/-- Block SWC: the fabric, the forwarding engine and the gateway (R300 to R366). -/
def Blk.swcEffect (b : Blk) (r : RegSpec) (ix : List Nat) (a : Nat) (v : W32) : Blk :=
  let n := ix.headD 0
  if r.base = R.SWC_FAB_CTL then b.fabCtl v
  else if r.base = R.SWC_BUF_CFG then (b.writeReg a v).globSync
  else if r.base = R.OQ_THR 0 then (b.writeReg a v).outSync n
  else if r.base = R.FWD_CTL then b.fwdCtl v
  else if r.base = R.MAC_CMD then b.macCmd (F.MAC_CMD_OP.get v) (F.MAC_CMD_INDEX.get v)
  else if r.base = R.SGATE 0 1 then b.sgateWrite n 1 v
  else if r.base = R.METER0 0 ∨ r.base = R.METER_EIR 0 ∨ r.base = R.METER_CBS 0 ∨ r.base = R.METER_EBS 0 then
    b.meterWrite n a v
  else if r.base = R.CS_CFG 0 then b.csWrite n v
  else if r.base = R.CBS_CFG 0 0 then (b.shape n (ix.getD 1 0)).writeReg a v
  else if r.base = R.QBV_CTL 0 then (if (F.QBV_CTL_CHANGE n).get v = 1 then b.qbvChange n else b)
  else b.writeReg a v

/-- Block ETH: the ports and the host ports (R390 to R393). -/
def Blk.ethEffect (b : Blk) (r : RegSpec) (ix : List Nat) (a : Nat) (v : W32) : Blk :=
  let n := ix.headD 0
  if r.base = R.ETH_CTL 0 then b.ethCtl n v
  else if r.base = R.ETH_CT 0 then b.ctWrite n v
  else if r.base = R.ETH_PLCA 0 then b.ethPlca n v
  else if r.base = R.ETH_TC10 0 then b.tc10Write n v
  else if r.base = R.ETH_PREEMPT 0 then b.ethPreempt n v
  else if r.base = R.QP_CTL 0 then b.qpCtl (flat 64 ix) v
  else b.writeReg a v

/-- Blocks CAN and LIN (R420 to R424). -/
def Blk.busEffect (b : Blk) (r : RegSpec) (ix : List Nat) (a : Nat) (v : W32) : Blk :=
  let n := ix.headD 0
  let q := ix.getD 1 0
  if r.base = R.CAN_CTL 0 then b.canCtl n v
  else if r.base = R.CAN_NBT 0 ∨ r.base = R.CAN_DBT 0 ∨ r.base = R.CAN_XBT 0 ∨ r.base = R.CAN_TDC 0 then
    b.canTimingWrite n a v
  else if r.base = R.CAN_FIFO_POP 0 then (if (F.CAN_FIFO_POP_POP n).get v = 1 then b.fifoPop n else b)
  else if r.base = R.MB_CS 0 0 then b.mbWrite n q v
  else if r.base = R.XB_CS 0 0 then b.mbWrite n (64 + q) v
  else if r.base = R.LIN_CTL 0 then b.linCtl n v
  else if r.base = R.LR_CFG 0 0 then b.lrCfg n q v
  else if r.base = R.LR_DATA_LO 0 0 then b.lrStage n q 0 v
  else if r.base = R.LR_DATA_HI 0 0 then b.lrStage n q 1 v
  else b.writeReg a v

/-- The effect on a register of KC, by its block's megabyte of control space (R24). -/
def Blk.kcEffect (b : Blk) (i : Init) (r : RegSpec) (ix : List Nat) (a : Nat) (v : W32) : Blk :=
  match a / 0x100000 with
  | 0x401 | 0x402 | 0x405 | 0x406 => b.wbgEffect i r ix a v
  | 0x404 => b.fcuEffect r ix a v
  | 0x408 | 0x409 | 0x40a | 0x40b => b.devEffect r ix a v
  | 0x410 | 0x411 | 0x412 | 0x413 => b.swcEffect r ix a v
  | 0x420 | 0x421 => b.ethEffect r ix a v
  | 0x430 => if r.base = R.MBG_LOG_CTL 0 0 then b.devEffect r ix a v else b.busEffect r ix a v
  | 0x431 => b.busEffect r ix a v
  | _ => b.sysEffect r ix a v

/-- The effect of a write of `v` that has reached the register at `a`; `i` made it. -/
def Blk.regEffect (b : Blk) (i : Init) (a : Nat) (v : W32) : Blk :=
  match locate a with
  | none => b
  | some (r, ix) =>
    if 0x51000000 ≤ a then b.dieEffect r ix a v
    else if 0x50000000 ≤ a then b.uhEffect r ix a v
    else b.kcEffect i r ix a v

end Sys2Proof.Machine
end

