-- ==== Sys2Proof/Machine/ReadReg.lean ====
section
/-!
DEFINITION. Machine/ReadReg.lean: what an accepted 32-bit read of a register returns. Most registers return
the word the block stores; those here are computed from other state, or the read has an effect (R100, R135,
R158, R175, R216, R344, R401, R434, R490, R655).
-/

namespace Sys2Proof.Machine

/-- The bits of a gathered register that context `ctx` may see (R216, R401): each unit's `width` bits. -/
def Blk.gatherMask (b : Blk) (ctx a width : Nat) : Nat :=
  let l := gathers a
  (List.range l.length).foldl (fun m k =>
    match l[k]? with
    | some u => if b.ownerAccepts (b.ownOf u.1 u.2) ctx then m + (2 ^ width - 1) * 2 ^ (width * k) else m
    | none => m) 0

/-- DI_LVL(k) for context `ctx` (R216): the owner of UH DI sees every input. -/
def Blk.diLvl (b : Blk) (ctx k a : Nat) : Nat :=
  let lv := (List.range (if k = 0 then 32 else 16)).foldl (fun m j =>
    m + b.fld (F.DI_STAT_LEVEL (32 * k + j)) * 2 ^ j) 0
  if b.ownerAccepts (b.ownOf 0x0b 3) ctx then lv else lv &&& b.gatherMask ctx a 1

/-- What a read of the register at `a` by context `ctx` returns. -/
def Blk.regView (b : Blk) (ctx a : Nat) : W32 :=
  match locate a with
  | none => 0
  | some (r, ix) =>
    let n := ix.headD 0
    let w := b.reg a
    if r.base = R.TB_NS 0 then BitVec.ofNat 32 (b.ext n)
    else if r.base = R.TB_WRAP 0 then BitVec.ofNat 32 (b.ext n / 2 ^ 32)
    else if r.base = R.CH_STAT 0 then b.chStat (flat 16 ix)
    else if r.base = R.CH_WM_THETA 0 then b.memberView (flat 16 ix) [F.CH_WM_THETA_THETA] w
    else if r.base = R.CH_PROT_STAT 0 then
      b.memberView (flat 16 ix)
        [F.CH_PROT_STAT_RETRY_CNT, F.CH_PROT_STAT_PEND, F.CH_PROT_STAT_OL_ON, F.CH_PROT_STAT_WM_ABOVE] w
    else if r.base = R.DI_LVL 0 then BitVec.ofNat 32 (b.diLvl ctx n a)
    else if r.base = R.CAN_MB_FULL 0 0 ∨ r.base = R.CAN_MB_DONE 0 0 then
      w &&& BitVec.ofNat 32 (b.gatherMask ctx a 8)
    else if r.base = R.CAN_STAT 0 ∧ n = 15 then (F.CAN_STAT_RESP_ACTIVE 15).ins w b.respActive.toNat
    else if r.base = R.RESP_STAT then F.RESP_STAT_ACTIVE.ins w b.respActive.toNat
    else if r.base = R.KEEP_PINS then F.KEEP_PINS_WHY.ins (F.KEEP_PINS_ALIVE_RUN.ins w b.pins.2.1.toNat) b.pins.2.2
    else if r.base = R.CBS_CREDIT 0 0 then (b.shape n (ix.getD 1 0)).reg a
    else if r.base = R.QBV_STAT 0 then (b.qbvSync n).reg a
    else if r.base = R.APLIC_M 0 then BitVec.ofNat 32 (b.aplRead 0 (a - R.APLIC_M 0))
    else if r.base = R.APLIC_S 0 then BitVec.ofNat 32 (b.aplRead 1 (a - R.APLIC_S 0))
    else w

/-- A read of the register at `a` by context `ctx` and its effect: AON_RTC_SEC latches the sub-second count,
TB_NS the wrap count (R100, R434). -/
def Blk.regRead (b : Blk) (ctx a : Nat) : Nat × Blk :=
  let v := (b.regView ctx a).toNat
  if a = R.AON_RTC_SEC then (v, b.put F.AON_RTC_SUB_SUB b.rtcSub)
  else if a = R.TB_NS 0 then (v, b.put (F.TB_WRAP_LAT_WRAP 0) (b.ext 0 / 2 ^ 32))
  else if a = R.TB_NS 1 then (v, b.put (F.TB_WRAP_LAT_WRAP 1) (b.ext 1 / 2 ^ 32))
  else (v, b)

/-- A write of the register at `a` where the writer's context limits it: CAN_MB_DONE clears only the bits of
the writer's groups (R401). -/
def Blk.writeMask (b : Blk) (ctx a : Nat) (v : W32) : W32 :=
  match locate a with
  | some (r, _) => if r.base = R.CAN_MB_DONE 0 0 then v &&& BitVec.ofNat 32 (b.gatherMask ctx a 8) else v
  | none => v

/-- The effect of an accepted write by initiator `i`. -/
def Blk.storeAt (b : Blk) (i : Init) (a : Nat) (v : W32) : Blk := b.regEffect i a (b.writeMask (b.ctxOf i) a v)

end Sys2Proof.Machine
end

