-- ==== Sys2Proof/Machine/Access.lean ====
section
/-!
DEFINITION. Machine/Access.lean: loads, stores and atomics of harts, the boot ROM and the debug block, on
memory and on registers (R6, R23, R481 to R483, R534, R580 to R582); the transactions of the field bridge at
their targets (R576, R577); and the commit of a Recut slice (R506, R507).
-/

namespace Sys2Proof.Machine

/-! ## Register accesses of 32 bits -/

/-- Is `a` one of the two registers of an interrupt file's page (R488, R489)? -/
def isFileReg (a : Nat) : Bool := isFile (a / 4096) && (a % 4096 == 0 || a % 4096 == 4)

/-- The verdict on an access of 32 bits in device space. -/
def Blk.devVerdict (b : Blk) (i : Init) (a : Nat) (wr : Bool) : Verdict :=
  if isFileReg a then
    match b.attr i with
    | none => .absent
    | some (sec, ctx) =>
      if b.hvStop i then .stopped
      else if !b.pmpOk i (if wr then .write else .read) a 4 then .barred
      else if wr = false ∨ icuAccepts a sec ctx = true then .accept
      else .refuse (some 9) (some 194)
  else b.judge i a wr

/-- An accepted write is sent to its target: the field bridge takes those of field space (R571). -/
def Blk.sendWord (b : Blk) (i : Init) (a v : Nat) : Blk :=
  if isFileReg a then
    { b.fileDeliver (a / 4096) (if a % 4096 = 4 then swap32 v else v % 2 ^ 32) with resp := .done }
  else if 0x50000000 ≤ a then b.fieldWrite i a (v % 2 ^ 32)
  else ({ b with resp := .done } : Blk).storeAt i a (BitVec.ofNat 32 v)

/-- A 32-bit store to device space. A core in Recut mode holds it (R506); DISP_END ends its slice (R247). -/
def Blk.storeWord (b : Blk) (i : Init) (a v : Nat) : Blk :=
  match b.devVerdict i a true with
  | .accept =>
    match b.recutInit i with
    | none => b.sendWord i a v
    | some h =>
      let b1 := b.hold h a 4 v
      if 0x40200000 ≤ a ∧ a < 0x40300000 ∧ (locate a).any (fun r => r.1.base == R.DISP_END 0) then b1.endSlice h
      else b1
  | e => b.devRefused i a true e

/-- The bytes of the value `v` of `n` bytes read at `a` that lie under held stores of hart `h`'s slice (R504). -/
def overlay (l : List Held) (a n v : Nat) : Nat :=
  leNat ((List.range n).map (fun k =>
    l.foldl (fun x w => if w.addr ≤ a + k ∧ a + k < w.addr + w.size then BitVec.ofNat 8 (byteOf w.val (a + k - w.addr))
      else x) (BitVec.ofNat 8 (byteOf v k))))

/-- A load's data `v` under the held stores of the slice of initiator `i`: pass one of a core in Recut mode stores
with its entry what the load returns (R504). -/
def Blk.returned (b : Blk) (i : Init) (a n v : Nat) : Blk :=
  match b.recutInit i with
  | none => { b with resp := .data v }
  | some h =>
    if (b.hartOf h).echo == [] then { b with resp := .data v }
    else
      let w := overlay (b.hartOf h).held a n v
      { b.echoRet h w with resp := .data w }

/-- A 32-bit load from device space; a core in Recut mode logs it as it starts (R504). -/
def Blk.loadWord (b : Blk) (i : Init) (a : Nat) : Blk :=
  match b.devVerdict i a false with
  | .accept =>
    let far := !isFileReg a && 0x50000000 ≤ a
    if far && 32 ≤ b.tags then { b with resp := .pending }
    else
      let b1 := match b.recutInit i with
        | none => b
        | some h => b.output h 0 15 a 0
      if isFileReg a then b1.returned i a 4 0
      else if far then b1.fieldRead i a
      else
        let r := b1.regRead (b1.ctxOf i) a
        r.2.returned i a 4 r.1
  | e => b.devRefused i a false e

/-! ## Accesses of other widths -/

/-- An access to device space of another width, or misaligned: a bus error with nothing done (R6, R481, R580), unless R526
stops it at the hart. -/
def Blk.badWidth (b : Blk) (i : Init) (a : Nat) (wr : Bool) : Blk :=
  let cause := if wr then 7 else 5
  if b.hvStop i then (b.raise 197).except i cause a .accessFault else b.except i cause a .busError

/-- A store of `n` bytes to device space (R6, R481, R580): 8 bytes are checked in both halves first. -/
def Blk.wordsStore (b : Blk) (i : Init) (a n v : Nat) : Blk :=
  match b.attr i with
  | none => { b with resp := .absent }
  | some _ =>
    if n = 4 ∧ a % 4 = 0 then b.storeWord i a v
    else if n = 8 ∧ a % 8 = 0 then
      match b.devVerdict i a true, b.devVerdict i (a + 4) true with
      | .accept, .accept =>
        if 0x50000000 ≤ a ∧ b.recutInit i = none ∧ b.roomForTwo a true = false then { b with resp := .pending }
        else (b.storeWord i a v).storeWord i (a + 4) (v / 2 ^ 32)
      | .accept, e => b.devRefused i (a + 4) true e
      | e, _ => b.devRefused i a true e
    else b.badWidth i a true

/-- A store to device space, in pass one of a core in Recut mode. -/
def Blk.busStore (b : Blk) (i : Init) (a n v : Nat) : Blk := b.recutDev i (fun b => b.wordsStore i a n v)

/-- The data of two halves of a load. -/
def joinResp : Resp → Resp → Resp
  | .data x, .data y => .data (x + y * 2 ^ 32)
  | .data _, r => r
  | r, _ => r

/-- A load of `n` bytes from device space. -/
def Blk.wordsLoad (b : Blk) (i : Init) (a n : Nat) : Blk :=
  match b.attr i with
  | none => { b with resp := .absent }
  | some _ =>
    if n = 4 ∧ a % 4 = 0 then b.loadWord i a
    else if n = 8 ∧ a % 8 = 0 then
      match b.devVerdict i a false, b.devVerdict i (a + 4) false with
      | .accept, .accept =>
        if 0x50000000 ≤ a ∧ b.roomForTwo a false = false then { b with resp := .pending } else
        let b1 := b.loadWord i a
        let b2 := b1.loadWord i (a + 4)
        { b2 with resp := joinResp b1.resp b2.resp }
      | .accept, e => b.devRefused i (a + 4) false e
      | e, _ => b.devRefused i a false e
    else b.badWidth i a false

/-- A load from device space. A core in Recut mode ends its slice before a load of a register that it holds a write of
(R501). -/
def Blk.busLoad (b : Blk) (i : Init) (a n : Nat) : Blk :=
  b.recutDev i (fun b =>
    match b.recutInit i with
    | some h => if b.heldAt h a n then { b.endBefore h with resp := .pending } else b.wordsLoad i a n
    | none => b.wordsLoad i a n)

/-! ## Atomics in field space -/

/-- Must a non-posted transaction to `a` wait: for an earlier one that reaches its target first (R577), or for a
tag (R576)? -/
def Blk.targetBusy (b : Blk) (a : Nat) : Bool :=
  32 ≤ b.tags || b.k.brg.tx.any (fun y => y.down && fieldTarget y.addr == fieldTarget a)

/-- Does the ownership copy of the target of `a` accept context `c` (R28)? -/
def Blk.targetAccepts (b : Blk) (mark : Bool) (c a : Nat) : Bool :=
  let ok (u : Nat × Nat) : Bool := copyAccepts (b.copyOf u.1 u.2) c
  mark || (dieOfAddr a).any b.halted || ok (unitOf a) || (gathers a).any ok

/-- An access of an atomic fails at the target's ownership copy (R581, R582, R586). -/
def Blk.atomicFail (b : Blk) (i : Init) (a : Nat) : Blk :=
  let c := b.ctxOf i
  let src := match dieOfAddr a with
    | some n => 256 + 10 * n
    | none => 240
  { (b.raiseF src (a / 256)).raise 173 (a / 256) (some c) with resp := .accessFault }

/-- LR.W of hart `h` (R581). -/
def Blk.fieldLr (b : Blk) (h a : Nat) : Blk :=
  let k := semOf a
  let mine := b.on (F.BRG_SEM_HELD k) && b.fld (F.BRG_SEM_HART k) == h
  if (b.on (F.BRG_SEM_HELD k) && !mine) || b.targetBusy a then { b with resp := .pending }
  else
    let b1 := ((((b.semRelease h).put (F.BRG_SEM_HELD k) 1).put (F.BRG_SEM_AMO k) 0).put (F.BRG_SEM_HART k) h).put
      (F.BRG_SEM_WORD k) (wordOf a)
    let b2 := (b1.setBrg (fun g => { g with semAt := g.semAt.set (fun _ => 0) k b.clk })).semSync
    if b2.targetAccepts false (b2.ctxOf (.hart h)) a then
      let r := b2.regRead (b2.ctxOf (.hart h)) a
      { r.2 with resp := .data r.1 }
    else b2.atomicFail (.hart h) a

/-- SC.W of hart `h` (R581). -/
def Blk.fieldSc (b : Blk) (h a v : Nat) : Blk :=
  let k := semOf a
  if b.on (F.BRG_SEM_HELD k) && b.fld (F.BRG_SEM_HART k) == h && b.fld (F.BRG_SEM_WORD k) == wordOf a then
    if b.targetBusy a then { b with resp := .pending }
    else
      let b1 := (b.put (F.BRG_SEM_HELD k) 0).semSync
      if b1.targetAccepts false (b1.ctxOf (.hart h)) a then
        { b1.storeAt (.hart h) a (BitVec.ofNat 32 v) with resp := .data 0 }
      else b1.atomicFail (.hart h) a
  else { b with resp := .data 1 }

/-- A 32-bit AMO of hart `h` (R582): the semaphore is free again when it ends. -/
def Blk.fieldAmo (b : Blk) (h op a v : Nat) : Blk :=
  if b.on (F.BRG_SEM_HELD (semOf a)) || b.targetBusy a then { b with resp := .pending }
  else if b.targetAccepts false (b.ctxOf (.hart h)) a then
    let r := b.regRead (b.ctxOf (.hart h)) a
    { r.2.storeAt (.hart h) a (BitVec.ofNat 32 (amo op 4 r.1 (v % 2 ^ 32))) with resp := .data r.1 }
  else b.atomicFail (.hart h) a

/-- An atomic of hart `h` in field space: operation 0 LR, 1 SC, else an AMO (R580 to R582). -/
def Blk.fieldAtomicNow (b : Blk) (h op a v : Nat) : Blk :=
  let b1 := b.semExpire (semOf a)
  match op with
  | 0 => b1.fieldLr h a
  | 1 => b1.fieldSc h a v
  | _ => b1.fieldAmo h op a v

/-- An atomic that a check refuses, or that fails, raises its exception: for a load the LR (R481). -/
def atomicCause (op : Nat) : Nat := if op = 0 then 5 else 7

/-- The atomic is judged on the KC side; on a core in Recut mode it is serialising (R502). A failed access of an AMO
raises that of its read (R582). -/
def Blk.atomicStart (b : Blk) (i : Init) (op a v : Nat) : Blk :=
  match b.attr i with
  | none => { b with resp := .absent }
  | some _ =>
    match i with
    | .hart h =>
      if b.hvStop i then (b.raise 197).except i (atomicCause op) a .accessFault
      else if a % 4 ≠ 0 ∨ a < 0x50000000 ∨ 0x54000000 ≤ a then b.except i (atomicCause op) a .busError
      else
        match b.devVerdict i a (op != 0) with
        | .accept =>
          if b.recut h then b.serialise h (.atomic a 4 v op) a v
          else
            let b1 := b.fieldAtomicNow h op a v
            if b1.resp = .accessFault then b1.except i (if op = 1 then 7 else 5) a .accessFault else b1
        | e => b.devRefused i a (op != 0) e
    | _ => { b with resp := .busError }

/-- An atomic in field space. -/
def Blk.fieldAtomic (b : Blk) (i : Init) (op a v : Nat) : Blk := b.recutDev i (fun b => b.atomicStart i op a v)

/-! ## Memory accesses of a core in Recut mode -/

/-- An accepted access of hart `h` in pass one (R502, R504, R506). -/
def Blk.recutPerform (b : Blk) (m : List Host.Cell) (h : Nat) (x : MemAcc) : Blk × List Host.Cell :=
  match x.kind with
  | .write | .devWrite => (b.hold h x.addr x.size x.val, m)
  | .atomic => (b.serialise h (.atomic x.addr x.size x.val x.op) x.addr x.val, m)
  | .fetch =>
    let r := b.perform m x
    (r.1.accEnd x, r.2)
  | _ =>
    let r := b.perform m x
    match r.1.resp with
    | .data v => ((r.1.output h 0 (byteMask x.addr x.size) x.addr 0).returned x.init x.addr x.size v, r.2)
    | _ => (r.1.accEnd x, r.2)

/-- A memory access in pass one of hart `h`: judged as any other; its table line is fetched within the access. -/
def Blk.recutAccess (b : Blk) (m : List Host.Cell) (h : Nat) (x : MemAcc) : Blk × List Host.Cell :=
  match b.attr x.init with
  | none => ({ b with resp := .absent }, m)
  | some (sec, ctx) =>
    if misaligned x then (({ b with resp := .misaligned } : Blk).accEnd x, m)
    else if !b.pmpOk x.init x.kind x.addr x.size || (x.kind == .fetch && fetchBarred x.init x.addr) then
      (({ b with resp := .accessFault } : Blk).accEnd x, m)
    else
      match b.judgeNow m sec ctx x.kind x.addr (initSc x.init) (cachesOf x.init x.kind) with
      | (.accept, b1) => b1.recutPerform m h x
      | (j, b1) =>
        let r := b1.endAcc m x j
        (r.1.accEnd x, r.2)

/-- An atomic to device space is emulated in field space (R482, R580); a fetch is refused (R475). -/
def Blk.devAccess (b : Blk) (x : MemAcc) : Blk :=
  match x.kind with
  | .write | .devWrite => b.busStore x.init x.addr x.size x.val
  | .atomic =>
    if x.size = 4 ∧ 0x50000000 ≤ x.addr then b.fieldAtomic x.init x.op x.addr x.val
    else b.recutDev x.init (fun b =>
      if (b.attr x.init).isNone then { b with resp := .absent } else b.except x.init (accCause x) x.addr .busError)
  | .fetch => b.recutDev x.init (fun b =>
      if (b.attr x.init).isNone then { b with resp := .absent } else b.except x.init 1 x.addr .accessFault)
  | _ => b.busLoad x.init x.addr x.size

/-- An access of a hart to a memory region or to device space. R526 stops one of any kind at the hart. -/
def Blk.access (b : Blk) (m : List Host.Cell) (x : MemAcc) : Blk × List Host.Cell :=
  if (b.attr x.init).isSome && b.hvStop x.init then
    ((b.raise 197).except x.init (accCause x) x.addr .accessFault, m)
  else if isDevice x.addr then (b.devAccess x, m)
  else
    match b.recutInit x.init with
    | some h =>
      let b1 := b.redoGo h
      if b1.passOne h && !b1.waits h then b1.recutAccess m h x else ({ b1 with resp := .pending }, m)
    | none =>
      let r := b.memAccess m x
      (r.1.accEnd x, r.2)

/-- The widths of an access in bytes. -/
def widthOk (n : Nat) : Bool := n == 1 || n == 2 || n == 4 || n == 8

/-! ## The bridge at its targets -/

/-- May the transaction at index `k` reach its target now (R577)? -/
def Blk.txReady (b : Blk) (k : Nat) (x : Tx) : Bool := !(b.k.brg.tx.take k).any (fun y => x.behind y)

/-- The target of the transaction `x` discards it under its ownership copy (R586). -/
def Blk.discards (b : Blk) (x : Tx) : Blk :=
  b.raiseF (match dieOfAddr x.addr with | some n => 256 + 10 * n | none => 240) (x.addr / 256)

/-- The write at index `k` reaches its target; `fail` is the reason of a failure on the way (R586). -/
def Blk.txReach (b : Blk) (k fail : Nat) : Blk :=
  match b.k.brg.tx[k]? with
  | none => b
  | some x =>
    if !x.write || !x.down || !b.txReady k x then b
    else if fail = 1 ∨ fail = 3 ∨ fail = 5 then b.txPut k { x with fail := fail, ended := b.clk + 1 }
    else if b.targetAccepts x.mark x.ctx x.addr then
      (b.txPut k { x with applied := true, ended := b.clk + 1 }).fieldEffect x.addr
        (b.writeMask x.ctx x.addr (BitVec.ofNat 32 x.val))
    else
      (b.discards x).txPut k { x with fail := 2, ended := b.clk + 1 }

/-- The non-posted transaction `x` has failed for reason `r`: a write of a commit is a late error (R507), another ends
its access (R575, R576). -/
def Blk.txFailed (b : Blk) (x : Tx) (r : Nat) : Blk :=
  if x.late then b.lateError x r else (b.failed x r).waitFault x.init (if x.write then 7 else 5) x.addr

/-- The completion of the non-posted transaction at index `k` returns, after those that were on their way up its link
before it (R575, R576, R578); at an index without one, a completion for a free tag. -/
def Blk.txComplete (b : Blk) (k fail : Nat) : Blk :=
  match b.k.brg.tx[k]? with
  | none => if b.kcRun then b.raise 175 else b
  | some x =>
    let lost := fail = 1 ∨ fail = 3 ∨ fail = 5
    if x.posted then b
    else if x.dead then (b.txDel k).raise 175 (x.addr / 256)
    else if b.upBefore x.link false (if x.write then x.ended else b.clk + 2) then b
    else if x.write then
      if x.applied then { b.txDel k with resp := .done }
      else if x.fail ≠ 0 then (b.txDel k).txFailed x x.fail
      else b
    else if !b.txReady k x then b
    else if lost then (b.txDel k).txFailed x fail
    else if b.targetAccepts x.mark x.ctx x.addr then
      let r := b.regRead x.ctx x.addr
      (r.2.txDel k).returned x.init x.addr 4 r.1
    else ((b.discards x).txDel k).txFailed x 2

/-! ## Commit -/

/-- A held write leaves the core (R506, R507): one that its target no longer accepts is a late error of the
core's context. -/
def Blk.leave (b : Blk) (m : List Host.Cell) (h : Nat) (w : Held) : Blk × List Host.Cell :=
  let i := Init.hart h
  let c := b.ctxOf i
  let late (x : Blk) : Blk :=
    x.lateError
      { init := i, write := true, posted := true, addr := w.addr, val := w.val, ctx := c, gen := x.genOf c,
        bseq := x.k.brg.seq, tick := x.clk, fail := 2 } 2
  if isDevice w.addr then
    match b.devVerdict i w.addr true with
    | .accept => (b.sendWord i w.addr w.val, m)
    | .refuse r s => (late (b.refused i w.addr true r s), m)
    | _ => (late b, m)
  else
    match b.attr i with
    | none => (b, m)
    | some (sec, ctx) =>
      match b.judgeNow m sec ctx .write w.addr (initSc i) with
      | (.accept, b1) => b1.perform m { init := i, kind := .write, addr := w.addr, size := w.size, val := w.val }
      | (.refuse r s, b1) => (late (b1.pageRefused sec ctx .write w.addr r s), m)
      | (_, b1) => (late b1, m)

/-- Has the bridge no room for the held write `w`: no tag, or a full KC side (R571, R576)? -/
def Blk.leaveBusy (b : Blk) (w : Held) : Bool :=
  isDevice w.addr && 0x50000000 ≤ w.addr && (if b.nonPosted w.addr then 32 ≤ b.tags else 64 ≤ b.kcSide)

/-- The held writes leave in order, each after the one before it has been performed (R506); the first that
must wait stops them. -/
def leaveAll (h : Nat) : List Held → Blk × List Host.Cell → Blk × List Host.Cell
  | [], r => r
  | w :: l, (b, m) =>
    if b.waits h || b.leaveBusy w then
      (b.setHart h
        { b.hartOf h with
          held := w :: l }, m)
    else
      let r := b.leave m h w
      leaveAll h l (r.1.setHart h
        { r.1.hartOf h with
          held := l }, r.2)

/-- A result of hart `h` that the commit answers is written to its rd (R502, R506). -/
def Blk.commitRd (b : Blk) (h : Nat) : Blk :=
  match b.resp with
  | .data v => b.writeRd h v
  | _ => b

/-- The address of the slice's last instruction, for a trap that it takes: pass one has gone past it, unless it has
trapped. -/
def Hart.epc (x : Hart) : Nat :=
  match x.prog.getLast? with
  | none | some (.trap _ _) => x.p1.pc.toNat
  | some o => (x.p1.pc - Config.opLen o).toNat

/-- An atomic takes effect at the commit (R482, R502, R581, R582): its result goes to rd, a failed one traps. An MRAM
write over the throttle waits (R232). -/
def Blk.commitAtomic (b : Blk) (m : List Host.Cell) (h a n v op : Nat) : Blk × List Host.Cell :=
  let r :=
    if isDevice a then (b.fieldAtomicNow h op a v, m)
    else if op ≠ 0 ∧ regionOf a = some .mram ∧ b.mramRoom (b.ctxOf (.hart h)) n = false then
      ({ b with resp := .pending }, m)
    else b.perform m { init := .hart h, kind := .atomic, addr := a, size := n, val := v, op := op }
  if r.1.resp = .accessFault then
    (r.1.trapAt h (b.hartOf h).epc (if op = 0 ∨ (2 ≤ op ∧ isDevice a) then 5 else 7) a, r.2)
  else (r.1.commitRd h, r.2)

/-- RECUT.MODE at the commit, to Recut mode or to Single mode (R513). -/
def Blk.commitMode (b : Blk) (h : Nat) (recut rerun : Bool) : Blk :=
  let n := h - 16
  let refused := !b.on (F.RCX_STAT_SWITCHABLE n)
  let b1 := if refused || recut then b else (b.put (F.RCX_STAT_MODE n) 0).put (F.RCX_STAT_PHASE n) 0
  ({ b1 with resp := .data (b1.recutStatus h refused false rerun) } : Blk).commitRd h

/-- What the slice's last instruction does at the commit (R502, R510, R513, R517); `pending` while it has to wait. -/
def Blk.commitAct (b : Blk) (m : List Host.Cell) (h : Nat) : Blk × List Host.Cell :=
  let x := b.hartOf h
  match x.act with
  | some .recutEnd =>
    let b1 := (b.put (F.RCX_STAT_GROUP (h - 16)) 0).setHart h
      { x with
        split := false }
    (({ b1 with resp := .data (b1.recutStatus h false x.split x.rerun) } : Blk).commitRd h, m)
  | some (.mode r) => (b.commitMode h r x.rerun, m)
  | some .fence => (b.fence h, m)
  | some .fenceI => (b.fenceI h, m)
  | some (.fenceField rd) => (if x.ffWait.isSome then b.ffCheck h else b.ffBegin h rd, m)
  | some (.gate pc rs1 pa err) => (b.gate m h pc rs1 pa err, m)
  | some (.gateRet wr) => (b.gateRetWith h wr, m)
  | some (.atomic a n v op) => b.commitAtomic m h a n v op
  | some (.sys o) => ((b.sysAct h x.epc o).commitRd h, m)
  | some (.trap cause tval) => (b.trapAt h x.epc cause tval, m)
  | none => (b, m)

/-- Does the last instruction of hart `h`'s slice still wait? -/
def Blk.actWaits (b : Blk) (h : Nat) : Bool := b.resp == .pending || (b.hartOf h).ffWait.isSome

/-- The instructions of a slice that minstret counts: those that trap do not retire. -/
def Hart.retired (x : Hart) : Nat :=
  (x.prog.filter (fun o => match o with
    | .trap _ _ => false
    | _ => true)).length - (if x.act = some (.sys .ecall) ∨ x.act = some (.sys .ebreak) then 1 else 0)

/-- The writes have left: the slice is counted, once (R506). -/
def Blk.commitCount (b : Blk) (h : Nat) : Blk :=
  let x := b.hartOf h
  if x.counted then b
  else (b.incWrap (F.RCX_SLICES_SLICES (h - 16))).setHart h
    { x with
      counted := true
      c := x.c.set 0xb02 ((x.c.get 0xb02 + x.retired) % 2 ^ 64) }

/-- The slice of hart `h` is over, and the core is in Single mode. -/
def Blk.sliceOver (b : Blk) (h : Nat) : Blk :=
  b.setHart h
    { b.hartOf h with
      dbgReq := false
      ending := false
      counted := false
      prog := []
      echo := []
      held := []
      act := none }

/-- The end of a commit (R506, R510, R514, R518): the core is reset or halts; or it takes its interrupt, and the next
slice begins. -/
def Blk.commitEnd (b : Blk) (h : Nat) : Blk :=
  let n := h - 16
  let x := b.hartOf h
  if x.rstAfter then b.hartStop h 0
  else if x.dbgReq then
    (((((b.put (F.RCX_STAT_MODE n) 0).put (F.RCX_STAT_PHASE n) 0).put (F.RCX_STAT_DBG_BROKEN n) 1).put
      (F.SYSCTL_HART_STAT_STATE h) 3).raise 10 n none (some n)).sliceOver h
  else
    let b1 := b.takeIrqAt h x.p1.pc.toNat
    if b1.on (F.RCX_STAT_MODE n) then b1.newSlice h else b1.sliceOver h

/-- The commit of hart `h` (R506). -/
def Blk.commit (b : Blk) (m : List Host.Cell) (h : Nat) : Blk × List Host.Cell :=
  if b.runs h && b.recut h && b.phase h == 5 then
    let r := leaveAll h (b.hartOf h).held (b, m)
    if (r.1.hartOf h).held != [] || r.1.waits h then ({ r.1 with resp := .pending }, r.2)
    else
      let q := ({ r.1.commitCount h with resp := .done } : Blk).commitAct r.2 h
      if q.1.actWaits h then q else (q.1.commitEnd h, q.2)
  else (b, m)

/-! ## Meanings -/

/-- A write of `width` bits to a register (R6, R8, R23, R529). -/
def execRegisterWrite (i : Init) (addr width value : Nat) (s : State) : Host.Outcome State Fault Refusal :=
  onBlk (widthOk (width / 8) && width % 8 == 0) s (fun b => b.busStore i addr (width / 8) value)

/-- A write of `id` to the seteipnum_le or seteipnum_be register of the interrupt file at page `p` (R489). -/
def execSeteipnumWrite (i : Init) (p : Nat) (be : Bool) (v : Nat) (s : State) : Host.Outcome State Fault Refusal :=
  onBlk (isFile p) s (fun b => b.busStore i (p * 4096 + if be then 4 else 0) 4 v)

/-- A load or an instruction fetch of `n` bytes (R534); `err` is a memory error that it meets. -/
def execMemoryLoad (i : Init) (fetch : Bool) (addr n : Nat) (err : Option (Nat × Bool)) (s : State) :
    Host.Outcome State Fault Refusal :=
  onMem (widthOk n) s (fun b m =>
    b.access m { init := i, kind := if fetch then .fetch else .read, addr := addr, size := n, err := err })

/-- A store of `n` bytes (R534). -/
def execMemoryStore (i : Init) (addr n v : Nat) (err : Option (Nat × Bool)) (s : State) :
    Host.Outcome State Fault Refusal :=
  onMem (widthOk n) s (fun b m =>
    b.access m { init := i, kind := .write, addr := addr, size := n, val := v, err := err })

/-- An LR (`op` 0), SC (1) or AMO of 4 or 8 bytes (R482). -/
def execMemoryAtomic (i : Init) (op addr n v : Nat) (err : Option (Nat × Bool)) (s : State) :
    Host.Outcome State Fault Refusal :=
  onMem (op < 11 && (n == 4 || n == 8)) s (fun b m =>
    b.access m { init := i, kind := .atomic, addr := addr, size := n, val := v, op := op, err := err })

/-- The write at index `k` of the bridge reaches its target (R577); `fail` 1, 3 or 5 is a failure on the way. -/
def execFieldWriteApply (k fail : Nat) (s : State) : Host.Outcome State Fault Refusal :=
  onBlk true s (fun b => b.txReach k fail)

/-- The completion of the non-posted transaction at index `k` returns (R576). -/
def execReadCompletion (k fail : Nat) (s : State) : Host.Outcome State Fault Refusal :=
  onBlk true s (fun b => b.txComplete k fail)

/-- LR.W to field space (R581). -/
def execFieldLr (h a : Nat) (s : State) : Host.Outcome State Fault Refusal :=
  onBlk (isHart h) s (fun b => b.fieldAtomic (.hart h) 0 a 0)

/-- SC.W to field space (R581). -/
def execFieldSc (h a v : Nat) (s : State) : Host.Outcome State Fault Refusal :=
  onBlk (isHart h) s (fun b => b.fieldAtomic (.hart h) 1 a v)

/-- A 32-bit AMO to field space (R582); `op` as in MEMORY_ATOMIC. -/
def execFieldAmo (h op a v : Nat) (s : State) : Host.Outcome State Fault Refusal :=
  onBlk (isHart h && 2 ≤ op && op < 11) s (fun b => b.fieldAtomic (.hart h) op a v)

/-- The commit of hart `h` (R506). -/
def execCommitComplete (h : Nat) (s : State) : Host.Outcome State Fault Refusal :=
  onMem (isSafety h) s (fun b m => b.commit m h)

end Sys2Proof.Machine
end

