-- ==== Sys2Proof/Machine/Plan.lean ====
section
/-!
DEFINITION. Machine/Plan.lean: the bench plan: the image format, its verification, the journal, the choice
between the copies (R39 to R59, R64, R65), and the check of a staged plan (R67, R77).
-/

namespace Sys2Proof.Machine

/-! ## The image -/

/-- Are all bytes zero? -/
def zeros (l : List Byte) : Bool := l.all (fun x => x == 0)

/-- `n` bytes of `l` from offset `o`. -/
def slice (l : List Byte) (o n : Nat) : List Byte := (l.drop o).take n

/-- `k` pieces of `n` bytes. -/
def chunks (n : Nat) : Nat → List Byte → List (List Byte)
  | 0, _ => []
  | k + 1, l => l.take n :: chunks n k (l.drop n)

/-- A payload as entries of `n` bytes. -/
def pieces (n : Nat) (l : List Byte) : List (List Byte) := chunks n (l.length / n) l

/-- No two elements clash. -/
def noClash {α : Type} (f : α → α → Bool) : List α → Bool
  | [] => true
  | x :: l => l.all (fun y => !f x y) && noClash f l

/-- Directory entry `k` (R42): TYPE, OFFSET, LENGTH, CRC. -/
def dirEntry (l : List Byte) (k : Nat) : Nat × Nat × Nat × Nat :=
  let o := 0x28 + 16 * k
  (fieldAt l o 4, fieldAt l (o + 4) 4, fieldAt l (o + 8) 4, fieldAt l (o + 12) 4)

/-- Section `k` of the image: 0 STRUCT, 1 TUNE, 2 SCHED, 3 SIG. -/
def planSec (l : List Byte) (k : Nat) : List Byte := slice l (dirEntry l k).2.1 (dirEntry l k).2.2.1

def planSeq (l : List Byte) : Nat := fieldAt l 0x10 4
def planRev (l : List Byte) : Nat := fieldAt l 0x14 1
def planSigner (l : List Byte) : Nat := fieldAt l 0x15 1
def planFlags (l : List Byte) : Nat := fieldAt l 0x17 1
def planRevoke (l : List Byte) : Nat := fieldAt l 0xf8 1
/-- STRUCT_DIGEST. -/
def planDigest (l : List Byte) : List Byte := slice l 0x68 48
/-- The signed message (R52). -/
def planMsg (l : List Byte) : List Byte := l.take (dirEntry l 3).2.1
/-- IMAGE_DIGEST (R55, R64). -/
def imageDigest (l : List Byte) : List Byte := Config.sha384 (planMsg l)

/-- A record (R43). -/
structure PRec where
  kind : Nat
  flags : Nat
  data : List Byte
deriving DecidableEq, Repr

/-- The records of a section, none if they do not fill it exactly or their padding is not zero (R43). -/
def planRecs : Nat → List Byte → Option (List PRec)
  | 0, l => if l = [] then some [] else none
  | k + 1, l =>
    if l = [] then some []
    else
      let n := fieldAt l 4 4
      let pad := (8 - n % 8) % 8
      if l.length < 8 + n + pad || !zeros (slice l (8 + n) pad) then none
      else (planRecs k (l.drop (8 + n + pad))).map (fun rs => ⟨fieldAt l 0 2, fieldAt l 2 2, slice l 8 n⟩ :: rs)

/-- A plan: its image and the records of its sections. -/
structure Plan where
  img : List Byte
  str : List PRec
  tune : List PRec
  sched : List PRec
deriving DecidableEq, Repr

/-- The plan of an image, none if its records do not parse. -/
def planOf (l : List Byte) : Option Plan :=
  let recs (k : Nat) : Option (List PRec) := planRecs ((planSec l k).length / 8) (planSec l k)
  (recs 0).bind (fun a => (recs 1).bind (fun b => (recs 2).map (fun c => ⟨l, a, b, c⟩)))

/-- The payload of the record of a kind, none if there is none. -/
def payload (k : Nat) (l : List PRec) : Option (List Byte) := (l.find? (fun r => r.kind == k)).map (·.data)

/-- The payload, empty if there is none. -/
def payloadOf (k : Nat) (l : List PRec) : List Byte := (payload k l).getD []

/-! ## What a plan says -/

/-- The entries of CTX_SET: CTX, WORLD, ROLE. -/
def planCtxSet (p : Plan) : List (Nat × Nat × Nat) :=
  (pieces 4 (payloadOf 0x0101 p.str)).map (fun e => (fieldAt e 0 1, fieldAt e 1 1, fieldAt e 2 1))

/-- The contexts that exist, with world and role (R47). -/
def planCtxs (p : Plan) : List (Nat × Nat × Nat) :=
  let l := planCtxSet p
  (if l.any (fun e => e.1 == 0) then [] else [(0, 1, 0)]) ++ (if l.any (fun e => e.1 == 1) then [] else [(1, 0, 1)]) ++ l

/-- The world of a context, none if it does not exist. -/
def planWorld (p : Plan) (c : Nat) : Option Nat := ((planCtxs p).find? (fun e => e.1 == c)).map (·.2.1)

/-- An entry of OWN. -/
structure OwnEnt where
  type : Nat
  ctx : Nat
  first : Nat
  count : Nat
  flags : Nat
deriving DecidableEq, Repr

def planOwns (p : Plan) : List OwnEnt :=
  (pieces 8 (payloadOf 0x0102 p.str)).map (fun e =>
    ⟨fieldAt e 0 1, fieldAt e 1 1, fieldAt e 2 2, fieldAt e 4 2, fieldAt e 6 2⟩)

/-- The owner of a resource: CTX000 where no entry names it (R47). -/
def planOwner (p : Plan) (ty ix : Nat) : Own :=
  match (planOwns p).find? (fun e => e.type == ty && e.first ≤ ix && ix < e.first + e.count) with
  | some e => ⟨e.ctx, e.flags.testBit 0⟩
  | none => {}

/-- The ownership copy of a resource (R28). -/
def ownCopyOf (p : Plan) (ty ix : Nat) : OwnCopy :=
  let o := planOwner p ty ix
  let w := (planWorld p o.ctx).getD 0
  ⟨o.ctx, w == 1, o.shared, 2 ≤ o.ctx && w == 0⟩

/-- The entries of GATE_OWN: GATE, WORLDS. -/
def planGates (p : Plan) : List (Nat × Nat) :=
  (pieces 4 (payloadOf 0x0103 p.str)).map (fun e => (fieldAt e 0 2, fieldAt e 2 1))

/-- WORLDS of gate `g`: the secure world where no entry names it (R47); of two entries, the later. -/
def planGate (p : Plan) (g : Nat) : Nat := (((planGates p).reverse.find? (fun e => e.1 == g)).map (·.2)).getD 2

/-- The entries of GANG: DIE, FIRST, SIZE. -/
def planGangs (p : Plan) : List (Nat × Nat × Nat) :=
  (pieces 4 (payloadOf 0x0104 p.str)).map (fun e => (fieldAt e 0 1, fieldAt e 1 1, fieldAt e 2 1))

/-- The group that holds channel `k`: lead and size. -/
def planGang (p : Plan) (k : Nat) : Nat × Nat :=
  match (planGangs p).find? (fun g => 16 * g.1 + g.2.1 ≤ k && k < 16 * g.1 + g.2.1 + g.2.2) with
  | some g => (16 * g.1 + g.2.1, g.2.2)
  | none => (k, 1)

/-- The LOSS_POLICY byte of channel `k`. -/
def planLoss (p : Plan) (k : Nat) : Nat := fieldAt (payloadOf 0x0105 p.str) k 1

/-- The RECUT_MODE byte of safety core `n` (R47: Single and SWITCHABLE where absent). -/
def planRecut (p : Plan) (n : Nat) : Nat :=
  match payload 0x0106 p.str with
  | some l => fieldAt l n 1
  | none => 2

/-- Does SEV_LOCK lock FS`k`? -/
def planSevLock (p : Plan) (k : Nat) : Bool := (fieldAt (payloadOf 0x0107 p.str) (k / 8) 1).testBit (k % 8)

/-- The class of context `c` (R47: BODY where absent). -/
def planClass (p : Plan) (c : Nat) : Nat :=
  match payload 0x0108 p.str with
  | some l => fieldAt l c 1
  | none => 1

/-- The REG_INIT records: LOCK, and the entries ADDRESS, MASK, VALUE. -/
def planInits (p : Plan) : List (Bool × List (Nat × W32 × W32)) :=
  (p.tune.filter (fun r => r.kind == 0x0202)).map (fun r => (r.flags.testBit 0, (pieces 12 r.data).map (fun e =>
    (fieldAt e 0 4, BitVec.ofNat 32 (fieldAt e 4 4), BitVec.ofNat 32 (fieldAt e 8 4)))))

/-- The SCHED records of a kind: TARGET and the bytes after the prefix. -/
def planSched (k : Nat) (p : Plan) : List (Nat × List Byte) :=
  (p.sched.filter (fun r => r.kind == k)).map (fun r => (fieldAt r.data 0 2, r.data.drop 8))

/-! ## Record checks (R43 to R53) -/

/-- Does R46 number a resource `ix` of type `ty` that OWN can name? -/
def resExists (ty ix : Nat) : Bool :=
  match ty with
  | 1 => (ix ≤ 0x0c && ix != 0x09) || ix == 0x10
  | 2 => ix < 29
  | 3 => ix < 16
  | 4 => ix < 12
  | 5 => ix < 128
  | 6 => ix < 128
  | 7 => ix < 192
  | 8 => ix < 64
  | 9 => ix < 16
  | 10 => ix < 16
  | 11 => ix < 8 || (0x10 ≤ ix && ix < 0x1c)
  | 12 => ix < 48
  | _ => false

/-- Kinds of one section, with LOCK only on REG_INIT, and those outside `multi` at most once (R44). -/
def kindsOk (kinds multi : List Nat) (l : List PRec) : Bool :=
  l.all (fun r => kinds.contains r.kind && (r.flags == 0 || (r.flags == 1 && r.kind == 0x0202))) &&
    noClash (fun r s => r.kind == s.kind && !multi.contains r.kind) l

/-- CTX_SET (R45, R47). -/
def ctxSetOk (l : List Byte) : Bool :=
  l.length % 4 == 0 &&
    (pieces 4 l).all (fun e =>
      let c := fieldAt e 0 1
      let w := fieldAt e 1 1
      let r := fieldAt e 2 1
      fieldAt e 3 1 == 0 && w ≤ 1 && (if c = 0 then w == 1 && r == 0 else if c = 1 then w == 0 && r == 1 else r == 2)) &&
    noClash (fun (x y : List Byte) => fieldAt x 0 1 == fieldAt y 0 1) (pieces 4 l)

/-- OWN (R45, R46). -/
def ownOk (p : Plan) : Bool :=
  (payloadOf 0x0102 p.str).length % 8 == 0 &&
    (planOwns p).all (fun e => (planWorld p e.ctx).isSome && e.flags ≤ 1 && 1 ≤ e.type && e.type ≤ 12 &&
      (List.range e.count).all (fun j => resExists e.type (e.first + j))) &&
    noClash (fun x y => x.type == y.type && 0 < x.count && 0 < y.count && x.first < y.first + y.count &&
      y.first < x.first + x.count) (planOwns p)

/-- GATE_OWN (R45, R541). -/
def gateOwnOk (l : List Byte) : Bool :=
  l.length % 4 == 0 && (pieces 4 l).all (fun e =>
    gateExists (fieldAt e 0 2) && 1 ≤ fieldAt e 2 1 && fieldAt e 2 1 ≤ 3 && fieldAt e 3 1 == 0)

/-- GANG (R45, R104). -/
def gangOk (p : Plan) : Bool :=
  (payloadOf 0x0104 p.str).length % 4 == 0 &&
    (pieces 4 (payloadOf 0x0104 p.str)).all (fun e => fieldAt e 3 1 == 0) &&
    (planGangs p).all (fun g =>
      let k := 16 * g.1 + g.2.1
      g.1 ≤ 11 && [2, 4, 8, 16].contains g.2.2 && g.2.1 % max 1 g.2.2 == 0 && g.2.1 + g.2.2 ≤ 16 &&
        (List.range g.2.2).all (fun j =>
          (planOwner p 7 (k + j)).ctx == (planOwner p 7 k).ctx && planLoss p (k + j) == planLoss p k)) &&
    noClash (fun x y => x.1 == y.1 && x.2.1 < y.2.1 + y.2.2 && y.2.1 < x.2.1 + x.2.2) (planGangs p)

/-- LOSS_POLICY (R45). -/
def lossOk (l : List Byte) : Bool :=
  l.length == 192 && l.all (fun x => x.toNat % 4 != 3 && x.toNat < 16) &&
    (l.filter (fun x => x.toNat.testBit 3)).length ≤ 8

/-- The STRUCT section. -/
def structOk (p : Plan) : Bool :=
  let opt (k : Nat) (f : List Byte → Bool) : Bool := (payload k p.str).all f
  kindsOk [0x0101, 0x0102, 0x0103, 0x0104, 0x0105, 0x0106, 0x0107, 0x0108] [] p.str &&
    ctxSetOk (payloadOf 0x0101 p.str) && ownOk p && gateOwnOk (payloadOf 0x0103 p.str) && gangOk p &&
    opt 0x0105 lossOk && opt 0x0106 (fun l => l.length == 8 && l.all (fun x => x.toNat < 4)) &&
    opt 0x0107 (fun l => l.length == 48) && opt 0x0108 (fun l => l.length == 256 && l.all (fun x => x.toNat < 3))

/-- The bits of a register's WO, W1C and W1S fields. -/
def actionMask (fs : List FieldSpec) : W32 :=
  fs.foldl (fun m f =>
    if f.ty = .wo ∨ f.ty = .w1c ∨ f.ty = .w1s then m ||| Fld.mask ⟨0, f.hi, f.lo⟩ else m) 0

def actionBits (a : Nat) : W32 := ((locate a).map (fun r => actionMask r.1.fields)).getD 0

/-- Is `a` a channel command, timed-command or adopt register? -/
def isCmdReg (a : Nat) : Bool :=
  (dieOfAddr a).isSome && (let o := a % 0x100000; 0x1000 ≤ o && o < 0x2000 && o % 0x100 < 0x10)

/-- May a REG_INIT entry target `a` with this MASK (R48, R50)? -/
def initOk (a : Nat) (mask : W32) : Bool :=
  a % 4 == 0 && isDevice a && assigned a && !([0x409, 0x40d, 0x407].contains (a / 0x100000)) &&
    !(0x44000000 ≤ a && a < 0x50000000) && !isCmdReg a && mask &&& actionBits a == 0

/-- SEV_DEFAULT (R48). -/
def sevDefaultOk (l : List Byte) : Bool :=
  l.length == 384 && l.all (fun x => x.toNat % 8 ≤ 4 && !x.toNat.testBit 3 && x.toNat / 16 < 3)

/-- SLEEP_POLICY (R48, R464). -/
def sleepPolicyOk (l : List Byte) : Bool :=
  16 ≤ l.length && l.length ≤ 4096 && fieldAt l 0 1 == 1 && fieldAt l 1 1 ≤ 16 && l.length == 16 + 32 * fieldAt l 1 1 &&
    fieldAt l 3 1 == 0 && zeros (slice l 12 4) &&
    (pieces 32 (l.drop 16)).all (fun e =>
      let bt := BitVec.ofNat 32 (fieldAt e 12 4)
      fieldAt e 0 1 ≤ 15 && fieldAt e 1 1 ≤ 3 && fieldAt e 2 1 ≤ 63 && fieldAt e 3 1 == 0 && fieldAt e 4 2 % 64 == 0 &&
        fieldAt e 4 2 ≤ 0x7c0 && fieldAt e 6 2 == 0 && zeros (e.drop 16) &&
        nominalOk ((F.NM_BT_BRP 0).get bt) ((F.NM_BT_TSEG1 0).get bt) ((F.NM_BT_TSEG2 0).get bt)) &&
    noClash (fun (x y : List Byte) => fieldAt x 0 1 == fieldAt y 0 1) (pieces 32 (l.drop 16))

/-- The TUNE section. -/
def tuneOk (p : Plan) : Bool :=
  let inits := p.tune.filter (fun r => r.kind == 0x0202)
  kindsOk [0x0201, 0x0202, 0x0203] [0x0202] p.tune && (payload 0x0201 p.tune).all sevDefaultOk &&
    (payload 0x0203 p.tune).all sleepPolicyOk && inits.length ≤ 16 && inits.all (fun r => r.data.length % 12 == 0) &&
    ((planInits p).map (fun r => r.2.length)).sum ≤ 65536 &&
    (planInits p).all (fun r => r.2.all (fun e => initOk e.1 e.2.1))

/-- An entry of a dispatcher table in a plan (R243, R527). -/
def dispEntryOk (p : Plan) (e : List Byte) : Bool :=
  let rel := fieldAt e 8 4
  let w := planWorld p (fieldAt e 12 1)
  (match regionOf (fieldAt e 0 4) with
    | some .sram => true
    | some (.tcm _ _) => true
    | _ => false) &&
    (if rel.testBit 31 then rel % 2 ^ 31 < 2048 else rel ≤ 10000000) && fieldAt e 15 1 < 16 &&
    (w == some 0 || (w == some 1 && planWorld p (planOwner p 1 2).ctx == some 1))

/-- A gate list in a plan for port `q` (R345). -/
def gateListOk (q : Nat) (l : List Byte) : Bool :=
  let c := fieldAt l 8 4
  fieldAt l 4 1 ≤ 1 && (isMgGb q || fieldAt l 6 1 == 0) && fieldAt l 7 1 ≤ 1 && 16 ≤ c && c ≤ 1000000000 && c % 2 == 0 &&
    zeros (slice l 16 8) &&
    (pieces 8 (l.drop 24)).all (fun e =>
      let t := fieldAt e 0 4
      16 ≤ t && t ≤ 1000000000 && t % 2 == 0 && fieldAt e 6 2 == 0 &&
        (fieldAt e 5 1 == 0 || (fieldAt e 5 1 ≤ 2 && isMgGb q)))

/-- The SCHED section (R51). -/
def schedOk (p : Plan) : Bool :=
  kindsOk [0x0301, 0x0302] [0x0301, 0x0302] p.sched &&
    p.sched.all (fun r =>
      let t := fieldAt r.data 0 2
      let n := fieldAt r.data 2 2
      8 ≤ r.data.length && zeros (slice r.data 4 4) && 1 ≤ n &&
        (if r.kind = 0x0301 then
          t ≤ 7 && n ≤ 1024 && r.data.length == 8 + 16 * n && (pieces 16 (r.data.drop 8)).all (dispEntryOk p)
        else t ≤ 28 && n ≤ 256 && r.data.length == 32 + 8 * n && gateListOk t (r.data.drop 8))) &&
    noClash (fun r s => r.kind == s.kind && fieldAt r.data 0 2 == fieldAt s.data 0 2) p.sched

/-! ## The journal (R64, R65) -/

def journalAt (k : Nat) : Nat := 0x10400000 + 128 * k
def slotBytes (m : List Host.Cell) (k : Nat) : List Byte := memBytes m (journalAt k) 128
def slotWritten (m : List Host.Cell) (k : Nat) : Bool := !zeros (slotBytes m k)

/-- The CRC of the bytes of entry `k`. -/
def slotCrc (k : Nat) (l : List Byte) : Nat := crc32c.of (l.take 0x78 ++ leBytes 4 k)
def slotValid (m : List Host.Cell) (k : Nat) : Bool :=
  slotWritten m k && fieldAt (slotBytes m k) 0x78 4 == slotCrc k (slotBytes m k)

def slotSeq (m : List Host.Cell) (k : Nat) : Nat := fieldAt (slotBytes m k) 0 4

/-- The index of J, none if there is no valid entry. -/
def newest (m : List Host.Cell) : Option Nat :=
  ((List.range 256).filter (slotValid m)).foldl (fun best k =>
    match best with
    | none => some k
    | some j => if slotSeq m j < slotSeq m k then some k else best) none

/-- The bytes of J. -/
def journal (m : List Host.Cell) : Option (List Byte) := (newest m).map (slotBytes m)

/-- Is FS202 to be raised? -/
def journalBad (m : List Host.Cell) : Bool :=
  let bad := (List.range 256).filter (fun k => slotWritten m k && !slotValid m k)
  match newest m with
  | none => !bad.isEmpty
  | some j => bad.contains ((slotSeq m j + 1) % 256)

/-- BPL_JOURNAL (R74). -/
def Blk.journalSync (b : Blk) (m : List Host.Cell) : Blk :=
  (b.put F.BPL_JOURNAL_COUNT ((List.range 256).filter (slotValid m)).length).put F.BPL_JOURNAL_NEWEST
    ((newest m).getD 0)

/-! ## Verification (R58) -/

/-- Offsets of the sections after STRUCT follow from what stands before, with zeros between (R42). -/
def dirOk (l : List Byte) : Bool :=
  let d (k : Nat) := dirEntry l k
  let fin (k : Nat) : Nat := (d k).2.1 + (d k).2.2.1
  let next (k : Nat) : Bool :=
    (d (k + 1)).2.1 == (fin k + 63) / 64 * 64 && zeros (slice l (fin k) ((d (k + 1)).2.1 - fin k))
  (d 0).1 == 1 && (d 1).1 == 2 && (d 2).1 == 3 && (d 3).1 == 0xf && (d 0).2.1 == 0x100 && (d 0).2.2.1 != 0 &&
    next 0 && next 1 && next 2 && (d 3).2.2.1 == 128 && (d 3).2.1 + 128 == fieldAt l 8 4

/-- SIGNER_PUBKEY, and r then s. -/
def planKey (l : List Byte) : List Byte := slice l 0x98 96
def planSig (l : List Byte) : List Byte := slice (planSec l 3) 0x20 96

/-- The signers that would be revoked. -/
def Blk.revokedBy (b : Blk) (l : List Byte) : Nat := b.fld F.BPL_FUSE_REVOKED ||| planRevoke l

/-- R55 with the journal's newest entry: the error code, whether a step is consumed, whether it has been taken
before. -/
def judgeRev (f : Nat) (j : Option (List Byte)) (l : List Byte) : Nat × Bool × Bool :=
  let rev := planRev l
  let up : Nat × Bool × Bool := if rev = f + 1 then (if f = 32 then (11, false, false) else (0, true, false)) else (9, false, false)
  match j with
  | some e =>
    let q := fieldAt e 8 4
    if planSeq l < q ∨ (planSeq l = q ∧ imageDigest l ≠ slice e 0x10 48) then (8, false, false)
    else if rev < f then (9, false, false)
    else if rev = f then
      (if planDigest l = slice e 0x40 48 then (0, false, false)
       else if fieldAt e 5 1 + 1 = f then (0, false, true)
       else (10, false, false))
    else up
  | none => if rev < f then (9, false, false) else if rev = f then (0, false, true) else up

/-- Every check of R58 on the bytes of a copy, in order: the error code, a step consumed, a step taken before, and
the plan if all pass. -/
def Blk.verify (b : Blk) (m : List Host.Cell) (copy : List Byte) : Nat × Bool × Bool × Option Plan :=
  let no (k : Nat) : Nat × Bool × Bool × Option Plan := (k, false, false, none)
  let len := fieldAt copy 8 4
  let l := copy.take len
  let sig := planSec l 3
  let fl := planFlags l
  if slice copy 0 4 ≠ [0x43, 0x5a, 0x42, 0x50] ∨ fieldAt copy 4 2 ≠ 1 ∨ fieldAt copy 6 2 ≠ 0x100 then no 1
  else if 0x200000 < len ∨ copy.length < len ∨ dirOk l = false then no 2
  else if planSeq l = 0 ∨ planRev l = 0 ∨ 32 < planRev l ∨ 3 < planSigner l ∨ 3 < fl ∨ 15 < planRevoke l ∨
      zeros (slice l 0xf9 7) = false ∨ (fl.testBit 0 = false ∧ zeros (slice l 0x18 16) = false) ∨
      fieldAt sig 0 4 ≠ 1 ∨ zeros (slice sig 4 28) = false then no 7
  else if fieldAt l 12 4 ≠ (b.reg R.SYSCTL_ID).toNat / 256 ∨ b.fld F.SYSCTL_ID_REV < fieldAt l 0x16 1 ∨
      (fl.testBit 0 = true ∧ slice l 0x18 16 ≠ Config.deviceUid) ∨ (b.on F.SYSCTL_ID_ES = true ∧ fl.testBit 1 = false)
    then no 3
  else if (List.range 3).any (fun k => crc32c.of (planSec l k) != (dirEntry l k).2.2.2) = true ∨
      crc32c.of (sig.take 32 ++ List.replicate 96 0) ≠ (dirEntry l 3).2.2.2 ∨
      planDigest l ≠ Config.sha384 (planSec l 0) then no 4
  else if b.signerOk (planSigner l) (planKey l) = false then no 5
  else if Config.ecdsaVerify (planKey l) (imageDigest l) (planSig l) = false then no 6
  else
    match planOf l with
    | none => no 7
    | some p =>
      if structOk p && tuneOk p && schedOk p && !(planRevoke l).testBit (planSigner l) && b.revokedBy l != 15 then
        let r := judgeRev (b.fld F.BPL_FUSE_F) (journal m) l
        (r.1, r.2.1, r.2.2, if r.1 = 0 then some p else none)
      else no 7

/-- The bytes of copy `k`: 0 A, 1 B (R39). -/
def copyBase (k : Nat) : Nat := 0x10000000 + 0x200000 * k
def copyImage (m : List Host.Cell) (k : Nat) : List Byte := memBytes m (copyBase k) 0x200000

/-- Some channel is not off (R59). -/
def Blk.anyOn (b : Blk) : Bool := (List.range 192).any (fun k => b.mode k != 0)

/-- A plan that R59 defers. -/
def Blk.defers (b : Blk) (p : Plan) : Bool := planDigest p.img != b.keeper.digest && b.anyOn

/-- Every check of R58 and R59 on the bytes of a copy. -/
def Blk.wouldApply (b : Blk) (m : List Host.Cell) (copy : List Byte) : Nat × Bool × Bool × Option Plan :=
  let r := b.verify m copy
  if (r.2.2.2).any b.defers then (12, r.2.1, r.2.2.1, none) else r

/-! ## The check of a staged plan -/

/-- A check ends (R67, R77). -/
def Blk.checkEnd (b : Blk) (m : List Host.Cell) : Blk :=
  if b.on F.BPL_CHECK_BUSY then
    let k := 1 - b.fld F.BPL_STATUS_ACTIVE
    let r := b.wouldApply m (copyImage m k)
    ((((b.put F.BPL_CHECK_RESULT r.1).putB F.BPL_CHECK_WOULD_STEP r.2.1).put F.BPL_CHECK_COPY k).put
      F.BPL_CHECK_DONE 1).put F.BPL_CHECK_BUSY 0
  else b

/-- BPL_CMD.CHECK (R67, R76). -/
def execPlanCheck (i : Init) (v : W32) (s : State) : Host.Outcome State Fault Refusal :=
  onBlk true s (fun b => b.onWrite i R.BPL_CMD v (fun b => b.bplCmd v))

/-- A running plan check ends (R77). -/
def execPlanCheckComplete (s : State) : Host.Outcome State Fault Refusal :=
  onMem true s (fun b m => (b.checkEnd m, m))

end Sys2Proof.Machine
end

