-- ==== Sys2Proof/Machine/React.lean ====
section
/-!
DEFINITION. Machine/React.lean: the safe state (R97, R645), the delivery of a raising to the FCU (R641), and the
commands of the fault collection unit, the fault pins and the quarantine recovery (R625, R643 to R648, R654).
-/

namespace Sys2Proof.Machine

/-! ## The safe state -/

/-- UH records the source of an SV4 reaction (R645, R655). -/
def Blk.recordSv4 (b : Blk) (src : Nat) : Blk :=
  let b1 := ((b.put F.KEEP_SV4_VALID 1).put F.KEEP_SV4_SRC src).put F.KEEP_SV4_SEC_SEC (b.fld F.AON_RTC_SEC_SEC)
  { b1 with keeper := { b1.keeper with sv4 := true } }.keepEvt 1

/-- Every core of KC is held in reset until a debug reset or VKEEP power-up (R645 with SV4_ACT 1).
DESIGN CHOICE: this is no KC stop for the bridge, R36 not naming it; its transactions stay waiting (log 56). -/
def Blk.holdKc (b : Blk) : Blk :=
  let b1 := (harts.foldl (fun x h => x.hartStop h 0) b.entryDrop).put F.AON_PSTATE_CAUSE 2
  { b1.put F.AON_PSTATE_STATE 7 with
    kc := .held
    mark := false
    keeper := { b1.keeper with sv4Late := some true }
    pwr := { b1.pwr with
      trans := none
      idle := [] } }

/-- The reaction of UH to an SV4 raising of source `src` (R645). -/
def Blk.safeState (b : Blk) (src : Nat) : Blk :=
  let act := b.on F.FCU_CFG_SV4_ACT
  let b1 := (b.keeperLoss).recordSv4 src
  if act then b1.holdKc else b1.kcReset 2

/-- What follows the FCU's own reactions: the safe state if they end at SV4, but for FS201 and FS204, at which the
boot ROM halts by itself (R645). -/
def react (r : Bool × Blk) (src : Nat) : Blk :=
  if r.1 && src != 201 && src != 204 then r.2.safeState src else r.2

/-- A raising reaches the FCU; before step 5 of R60 only SV4 sources react (R641, R645). -/
def Blk.deliverRaise (b : Blk) (r : Raise) (force : Bool) : Blk :=
  if b.kc = .down then b
  else react (if b.k.fcu.plan then b.fcuRaise r force else b.fcuEarly r) r.src

/-- The next of the raisings on their way reaches the FCU. They are of one clock, since no time passes while one is on
its way, and of the sources raised on one clock the lowest-numbered comes first (R653). -/
def Blk.raiseNext (b : Blk) : Blk :=
  match b.fcuIn with
  | [] => b
  | x :: l =>
    let r := l.foldl (fun r y => if y.src < r.src then y else r) x
    { b with fcuIn := b.fcuIn.erase r }.deliverRaise r false

/-! ## SLEEP entry with an SV4 reaction -/

/-- The first of the raisings that ends at SV4, with SV4_ACT. -/
def Blk.sv4Among (b : Blk) : List Raise → Option (Nat × Bool)
  | [] => none
  | r :: l =>
    let x := b.fcuRaise r false
    if x.1 && r.src != 201 && r.src != 204 then some (r.src, x.2.on F.FCU_CFG_SV4_ACT) else x.2.sv4Among l

/-- KC is quiescent (R456). An SV4 raising on its way at the point of no return is recorded; the entry completes,
and a wake follows at once, or the next wake holds KC in reset (R97).
DESIGN CHOICE: that wake is UH's own and no wake source's: it enters no record in the wake recorder and leaves
WK_STAT.LATE (log 56). -/
def Blk.kcQuiet (b : Blk) : Blk :=
  let b1 := b.quiescent
  match b.sv4Among b.fcuIn with
  | none => b1
  | some (src, act) =>
    if b1.asleep then
      let b2 := b1.recordSv4 src
      { b2 with
        keeper := { b2.keeper with sv4Late := some act }
        slp := { b2.slp with late := !act } }
    else b1

/-! ## Meanings -/

/-- KC is quiescent in SLEEP entry (R456). -/
def execKcQuiescent (s : State) : Host.Outcome State Fault Refusal :=
  onBlk true s (fun b => if b.kcRun then b.kcQuiet else b)

/-- A fault source is raised at the FCU (R641): `r` is a source whose event is no command of its own; none, the
next raising on its way. -/
def execFaultRaise (r : Option Raise) (s : State) : Host.Outcome State Fault Refusal :=
  onBlk (r.all (fun x => x.src < 384)) s (fun b =>
    match r with
    | none => b.raiseNext
    | some x => if b.kc = .down ∧ 240 ≤ x.src then b.raiseF x.src x.det else b.deliverRaise x false)

/-- The restart of context `c` is still pending after RST_TMO (R643). -/
def execRestartTimeout (c : Nat) (s : State) : Host.Outcome State Fault Refusal :=
  onBlk (c < 256) s (fun b =>
    if b.kcRun then
      match b.restartLate c with
      | (some r, b1) => b1.deliverRaise r true
      | (none, b1) => b1
    else b)

/-- The quiet period of source `k` passes (R646). -/
def execQuietPeriodExpiry (k : Nat) (s : State) : Host.Outcome State Fault Refusal :=
  onBlk (k < 384) s (fun b => b.quietEnd k)

/-- The acknowledge window of source `k` closes (R646): it is raised again, escalated. -/
def execAckWindowClose (k : Nat) (s : State) : Host.Outcome State Fault Refusal :=
  onBlk (k < 384) s (fun b =>
    if b.kcRun && b.windowClosed k then
      b.deliverRaise (b.k.fcu.last.get (fun k => ⟨k, none, none, 0⟩) k) true
    else b)

/-- A write of FCU_SRC with CLR (R646). -/
def execClr (i : Init) (k : Nat) (v : W32) (s : State) : Host.Outcome State Fault Refusal :=
  onBlk (k < 384) s (fun b => b.onWrite i (R.FCU_SRC k) ((F.FCU_SRC_CLR k).ins v 1) (fun b =>
    b.srcWrite k ((F.FCU_SRC_CLR k).ins v 1)))

/-- A write of FCU_SRC with ACK (R646). -/
def execAck (i : Init) (k : Nat) (v : W32) (s : State) : Host.Outcome State Fault Refusal :=
  onBlk (k < 384) s (fun b => b.onWrite i (R.FCU_SRC k) ((F.FCU_SRC_ACK k).ins v 1) (fun b =>
    b.srcWrite k ((F.FCU_SRC_ACK k).ins v 1)))

/-- A write of FCU_SRC with RCLR (R646). -/
def execRclr (i : Init) (k : Nat) (v : W32) (s : State) : Host.Outcome State Fault Refusal :=
  onBlk (k < 384) s (fun b => b.onWrite i (R.FCU_SRC k) ((F.FCU_SRC_RCLR k).ins v 1) (fun b =>
    b.srcWrite k ((F.FCU_SRC_RCLR k).ins v 1)))

/-- A write of FCU_TEST (R654). -/
def execFcuTest (i : Init) (v : W32) (s : State) : Host.Outcome State Fault Refusal :=
  onBlk true s (fun b => b.onWrite i R.FCU_TEST v (fun b => b.fcuTest v))

/-- A write of FCU_LOG_POP (R654). -/
def execFcuLogPop (i : Init) (s : State) : Host.Outcome State Fault Refusal :=
  onBlk true s (fun b => b.onWrite i R.FCU_LOG_POP 1 (fun b => b.fcuPop 1))

/-- The two copies of the FCU disagree (R647). -/
def execFcuSelfCheckFail (s : State) : Host.Outcome State Fault Refusal :=
  onBlk true s (fun b => if b.kcRun then b.deliverRaise ⟨15, none, none, 0⟩ false else b)

/-- The severity lines disagree for 1 µs (R647): UH raises FS254 and acts under R645. -/
def execSeverityLineDisagree (s : State) : Host.Outcome State Fault Refusal :=
  onBlk true s (fun b => if b.kcRun then b.deliverRaise ⟨254, none, none, 0⟩ false else b)

/-- UH reads the fault pins back at the levels given (R648). -/
def execPinReadback (faultN alive : Bool) (s : State) : Host.Outcome State Fault Refusal :=
  onBlk true s (fun b => b.pinRead faultN alive)

/-! ## Quarantine recovery -/

/-- The bytes that a recovery token signs (R625). -/
def Blk.tokenMsg (b : Blk) : List Byte :=
  [0x43, 0x5a, 0x52, 0x43] ++ Config.deviceUid ++ leBytes 1 (b.fld F.TAMPER_STAT_COUNT) ++
    leBytes 1 (b.fld F.TAMPER_STAT_ACK)

/-- Is a recovery token accepted (R625)? -/
def Blk.tokenOk (b : Blk) (t : List Byte) : Bool :=
  let key := slice t 1 96
  t.length == 193 && !b.dsOff && b.signerOk (fieldAt t 0 1) key && Config.ecdsaVerify key (Config.sha384 b.tokenMsg) (slice t 97 96)

/-- Quarantine OP 0x03 with a token (R625). -/
def Blk.recover625 (b : Blk) (t : List Byte) : Blk :=
  if b.tokenOk t then
    let b1 := ((b.put F.TAMPER_STAT_ACK (b.fld F.TAMPER_STAT_COUNT)).put F.TAMPER_STAT_PENDING 0).kcReset 6
    { b1 with k := { b1.k with quarOut := [quarSegment 3 0 1 [0]] } }
  else { b with k := { b.k with quarOut := [quarSegment 3 0 1 [1]] } }

def execQuarantineRecovery (t : List Byte) (s : State) : Host.Outcome State Fault Refusal :=
  onBlk true s (fun b => if b.kc = .quar then b.recover625 t else b)

end Sys2Proof.Machine
end

