-- ==== Sys2Proof/Machine/Boot.lean ====
section
/-!
DEFINITION. Machine/Boot.lean: a start of KC: the boot ROM's five stages (R84 to R93), the application of the
bench plan (R49, R60 to R65), the boot storage directory and the EARLY images (R85 to R89).
-/

namespace Sys2Proof.Machine

/-! ## Boot storage (R85, R86) -/

/-- Boot storage byte `o` is held at memory key 2^40 + `o`, complemented, so that a location never programmed
reads 0xFF. -/
def flashBytes (m : List Host.Cell) (o n : Nat) : List Byte := (memBytes m (2 ^ 40 + o) n).map (fun x => ~~~ x)

/-- The two places of the directory. -/
def dirBase (k : Nat) : Nat := 0x100000 * k
def dirCount (m : List Host.Cell) (k : Nat) : Nat := fieldAt (flashBytes m (dirBase k) 16) 6 1

/-- The signed bytes of a directory copy, and its SIG section. -/
def dirBody (m : List Host.Cell) (k : Nat) : List Byte := flashBytes m (dirBase k) (112 + 80 * dirCount m k)
def dirSig (m : List Host.Cell) (k : Nat) : List Byte := flashBytes m (dirBase k + 112 + 80 * dirCount m k) 128

def dirSeq (m : List Host.Cell) (k : Nat) : Nat := fieldAt (flashBytes m (dirBase k) 16) 8 4
def dirAbsent (m : List Host.Cell) (k : Nat) : Bool := (flashBytes m (dirBase k) 16).all (fun x => x == 0xff)

/-- The entries of a directory copy. -/
def dirEntries (m : List Host.Cell) (k : Nat) : List (List Byte) := chunks 80 (dirCount m k) ((dirBody m k).drop 16)

/-- Is directory copy `k` accepted (R86)? DEDUCED: reserved bits 7:1 of an entry's EFLAGS count as reserved bytes do (log
103). -/
def Blk.dirAccepted (b : Blk) (m : List Host.Cell) (k : Nat) : Bool :=
  let h := dirBody m k
  let n := dirCount m k
  let key := slice h (16 + 80 * n) 96
  let sig := dirSig m k
  slice h 0 4 == [0x43, 0x5a, 0x42, 0x44] && fieldAt h 4 2 == 1 && 1 ≤ n && n ≤ 32 && zeros (slice h 12 4) &&
    (dirEntries m k).all (fun e => fieldAt e 2 1 ≤ 1 && fieldAt e 3 1 == 0 && zeros (slice e 0x48 8)) &&
    b.signerOk (fieldAt h 7 1) key && fieldAt sig 0 4 == 1 && zeros (slice sig 4 28) &&
    Config.ecdsaVerify key (Config.sha384 h) (slice sig 0x20 96)

/-- FS205 for each copy that is present and fails. -/
def Blk.dirFaults (b : Blk) (m : List Host.Cell) : Blk :=
  [0, 1].foldl (fun x k => if dirAbsent m k || x.dirAccepted m k then x else x.raise 205 k) b

/-- The directory copy in use, none if neither is accepted. -/
def Blk.directory (b : Blk) (m : List Host.Cell) : Option Nat :=
  match b.dirAccepted m 0, b.dirAccepted m 1 with
  | false, false => none
  | true, false => some 0
  | false, true => some 1
  | true, true => some (if dirSeq m 0 < dirSeq m 1 then 1 else 0)

/-- Fields of a directory entry. -/
def entType (e : List Byte) : Nat := fieldAt e 0 1
def entTarget (e : List Byte) : Nat := fieldAt e 1 1
def entLen (e : List Byte) : Nat := fieldAt e 8 4
def entStart (e : List Byte) : Nat := fieldAt e 0x10 8 + fieldAt e 0x0c 4
def entImage (m : List Host.Cell) (e : List Byte) : List Byte := flashBytes m (fieldAt e 4 4) (entLen e)
def entGood (m : List Host.Cell) (e : List Byte) : Bool := Config.sha384 (entImage m e) == slice e 0x18 48

/-- The EARLY images of the directory (R87). -/
def earlyImages (l : List (List Byte)) : List (List Byte) := l.filter (fun e => entType e == 1 && !(fieldAt e 2 1).testBit 0)

/-- The hart that an EARLY image targets. -/
def entHart (e : List Byte) : Option Nat :=
  if entTarget e < 8 then some (16 + entTarget e) else if entTarget e = 0x10 then some 0 else none

/-- The limits and the digests of the EARLY images (R87). -/
def earlyOk (m : List Host.Cell) (l : List (List Byte)) : Bool :=
  (l.map entLen).sum ≤ 4 * 2 ^ 20 && noClash (fun x y => (entHart x).isSome && entTarget x == entTarget y) l &&
    l.all (entGood m)

/-- An EARLY image is loaded (R87) where its address lies in a TCM, the safety SRAM or DRAM. -/
def Blk.loadImage (b : Blk) (m : List Host.Cell) (a : Nat) : List Byte → Blk × List Host.Cell
  | [] => (b, m)
  | x :: l =>
    match regionOf a with
    | some .dram => ((b.clearBlock a).unpoison a 1).loadImage (memSet m a x) (a + 1) l
    | some .sram => (b.unpoison a 1).loadImage (memSet m a x) (a + 1) l
    | some (.tcm _ _) => (b.unpoison a 1).loadImage (memSet m a x) (a + 1) l
    | _ => b.loadImage m (a + 1) l

/-- The EARLY images are loaded in entry order, and MA3 is extended with each digest (R88). -/
def loadEarly (l : List (List Byte)) (r : Blk × List Host.Cell) : Blk × List Host.Cell :=
  l.foldl (fun x e => (x.1.extend 3 (slice e 0x18 48)).loadImage x.2 (fieldAt e 0x10 8) (entImage x.2 e)) r

/-! ## Application of a plan -/

/-- What goes wrong at a start. `set` and `reason` say how the attempts of steps 3 to 5 of R60 end, the first in
their lowest digits of 13 and 3 bits: the targets that an attempt does not reach (bits 0 to 11 the dies, 12 UH) and
the reason of R586 that the accesses to them end with. `cut`: 0 nothing; 1 + `n` + 32 × `w`: the rails fall in step
`n` of R60, after `w` of its writes (R57, R65): 0 before step 1, 8 after step 7; 10 + `n` the same of the recovery
plan, 10 while the recovery plan is written to its copy. -/
structure Mishap where
  set : Nat
  reason : Nat
  cut : Nat
deriving DecidableEq, Repr

/-- After how many writes of step `n` do the rails fall, if they fall there? -/
def Mishap.cutAt (x : Mishap) (n : Nat) : Option Nat :=
  if x.cut = 0 ∨ (x.cut - 1) % 32 ≠ n then none else some ((x.cut - 1) / 32)

/-- Does an attempt that does not reach the targets `miss` reach target `t`? -/
def reaches (miss t : Nat) : Bool := !miss.testBit t

/-- How a step of R60 ends: done, the rails have fallen, or it has failed twice (R61). -/
inductive Stage where
  | done (b : Blk) (x : Mishap)
  | cut (b : Blk)
  | fail (b : Blk) (x : Mishap)
deriving DecidableEq, Repr

/-- One attempt of a step, and what FENCE.FIELD says of it: the error raises its source (R61, R586). -/
def Blk.attempt (b : Blk) (x : Mishap) (f : Nat → Blk → Blk) (ts : List Nat) : Bool × Blk × Mishap :=
  let miss := x.set % 2 ^ 13
  let ok := ts.all (reaches miss)
  (ok, if ok then f miss b else (f miss b).raise (failSrc (x.reason % 8)), { x with
    set := x.set / 2 ^ 13
    reason := x.reason / 8 })

/-- Step `n` of R60, which writes to the targets `ts` as `f` says for the targets not reached and is made once
more if FENCE.FIELD returns an error (R61); `part w` is its first `w` writes. -/
def Blk.stage (b : Blk) (x : Mishap) (n : Nat) (f : Nat → Blk → Blk) (part : Nat → Blk → Blk) (ts : List Nat) : Stage :=
  match x.cutAt n with
  | some w => .cut (part w b).railFall
  | none =>
    let r := b.attempt x f ts
    if r.1 then .done r.2.1 r.2.2
    else
      let q := r.2.1.attempt r.2.2 f ts
      if q.1 then .done q.2.1 q.2.2 else .fail q.2.1 q.2.2

/-- Step 1 of R60: fuses, F first; the first `w` of the two. BPL_STATUS shows at once that this start has consumed
a step, so that it stands even if the application fails (R71). -/
def Blk.apply1 (b : Blk) (p : Plan) (step rec : Bool) (w : Nat) : Blk :=
  let b1 := (b.putB F.BPL_STATUS_STEP (b.on F.BPL_STATUS_STEP || step)).putB F.BPL_STATUS_STEP_RECOVERED
    (b.on F.BPL_STATUS_STEP_RECOVERED || rec)
  let b2 := if w = 0 then b1 else b1.put F.BPL_FUSE_F (b.fld F.BPL_FUSE_F + step.toNat)
  if w ≤ 1 then b2 else b2.put F.BPL_FUSE_REVOKED (b.revokedBy p.img)

/-- The ownership of the resources on KC. -/
def planOwnMap (p : Plan) : Sparse Own :=
  (planOwns p).foldl (fun m e => (List.range e.count).foldl (fun m j =>
    m.set (fun _ => {}) (resKey e.type (e.first + j)) ⟨e.ctx, e.flags.testBit 0⟩) m) []

/-- Step 2 of R60: the structure of KC; at its end KV loads the persistent store (R618). -/
def Blk.apply2 (b : Blk) (p : Plan) (m : List Host.Cell) : Blk :=
  let b1 := (List.range 256).foldl (fun x c =>
    match (planCtxs p).find? (fun e => e.1 == c) with
    | some e => ((x.put (F.SEC_CTX_EXISTS c) 1).put (F.SEC_CTX_WORLD c) e.2.1).put (F.SEC_CTX_ROLE c) e.2.2
    | none => x.setReg (R.SEC_CTX c) 0) b
  let b2 := ((List.range 0x51).filter gateExists).foldl (fun x g => x.put (F.SYSCTL_GATE_WORLDS g) (planGate p g)) b1
  let b3 := (List.range 8).foldl (fun x n =>
    (x.putB (F.RCX_STAT_START_RECUT n) ((planRecut p n).testBit 0)).putB (F.RCX_STAT_SWITCHABLE n)
      ((planRecut p n).testBit 1)) b2
  let lock := ((List.range 384).filter faultNamed).foldl (fun l k =>
    l.set (fun _ => 0) (R.FCU_SRC k) (if planSevLock p k then (F.FCU_SRC_SEV k).mask else 0)) b3.locks
  ({ b3 with
    own := planOwnMap p
    locks := lock
    k := { b3.k with cls := (List.range 256).foldl (fun c j => c.set (fun _ => 1) j (planClass p j)) [] } } : Blk).loadStore m

/-- The channel whose θ channel `k` takes (R160): a lead of a new group takes the highest of its members, a channel
that leaves a group its former lead's. -/
def Blk.thetaFrom (b : Blk) (p : Plan) (k : Nat) : Nat :=
  let g := planGang p k
  if g = (b.leadOf k, b.gangSize k) then k
  else if g.1 = k then
    (List.range g.2).foldl (fun best j =>
      if (b.chanOf best).theta < (b.chanOf (b.leadOf (k + j))).theta then b.leadOf (k + j) else best) (b.leadOf k)
  else b.leadOf k

/-- Step 3 of R60 on channel `k`; `old` is the block before the step. -/
def Blk.applyChan (b old : Blk) (p : Plan) (k : Nat) : Blk :=
  let g := planGang p k
  let l := planLoss p k
  let j := old.thetaFrom p k
  let b1 := (((((b.put (F.CH_STAT_GANG k) (Nat.log2 g.2)).putB (F.CH_STAT_LEAD k) (g.1 == k)).put
    (F.CH_STAT_POLICY k) (l % 4)).putB (F.CH_STAT_LIMP_ALLOWED k) (l.testBit 2)).putB (F.CH_STAT_SLEEP_HOLD k)
    (l.testBit 3)).setReg (R.CH_WM_THETA k) (old.reg (R.CH_WM_THETA j))
  { b1 with ownF := b1.ownF.set (fun _ => {}) (resKey 7 k) (ownCopyOf p 7 k) }.setChan k { b1.chanOf k with
    theta := (old.chanOf j).theta
    thetaE := (old.chanOf j).thetaE }

/-- Ownership copies of the resources `l` of type `ty`. -/
def Blk.applyCopies (b : Blk) (p : Plan) (ty : Nat) (l : List Nat) : Blk :=
  { b with ownF := l.foldl (fun m j => m.set (fun _ => {}) (resKey ty j) (ownCopyOf p ty j)) b.ownF }

/-- HOT and WM_ABOVE of die `n` follow its groups (R156, R160). -/
def Blk.liveSync (b : Blk) (n : Nat) : Blk := (b.leads n).foldl (fun x k => (x.hotSync k).wmSync k) b

/-- Step 3 of R60: dies and UH; a halted die ends HALT (R166). -/
def Blk.apply3 (b : Blk) (p : Plan) (miss : Nat) : Blk :=
  let b1 := ((List.range 12).filter (reaches miss)).foldl (fun y n =>
    (((List.range 16).foldl (fun z c => z.applyChan b p (16 * n + c)) (y.applyCopies p 11 [0x10 + n])).put
      (F.DIE_PSTAT_HALT n) 0).liveSync n) b
  if reaches miss 12 then (b1.applyCopies p 11 (List.range 8)).applyCopies p 12 (List.range 48) else b1

/-- Step 4 of R60: STRUCT_DIGEST to UH KEEP. -/
def Blk.apply4 (b : Blk) (p : Plan) (miss : Nat) : Blk :=
  if reaches miss 12 then { b with keeper := { b.keeper with digest := planDigest p.img } } else b

/-- The target that holds the register at `a`: a die, UH, or none for KC. -/
def fieldUnit (a : Nat) : Option Nat := if a < 0x50000000 then none else some ((dieOfAddr a).getD 12)

/-- EN of a port or a CAN or LIN controller is 0 while the plan is applied (R92, R394, R425): the mask of EN in the
register at `a`. DEDUCED: an entry that names EN leaves it 0 (log 102). -/
def heldOff (a : Nat) : W32 :=
  match locate a with
  | some (r, _) =>
    if r.base = R.ETH_CTL 0 ∨ r.base = R.CAN_CTL 0 ∨ r.base = R.LIN_CTL 0 then 0x80000000 else 0
  | none => 0

/-- An entry of a REG_INIT record (R49). No message is sent at a KC start for events that are already set (R585). -/
def Blk.initEntry (b : Blk) (miss : Nat) (e : Nat × W32 × W32) : Blk :=
  if (fieldUnit e.1).all (reaches miss) then
    let r := b.regRead 0 e.1
    let old := BitVec.ofNat 32 r.1 &&& ~~~ (actionBits e.1)
    { r.2.regEffect .boot e.1 (((old &&& ~~~ e.2.1) ||| (e.2.2 &&& e.2.1)) &&& ~~~ (heldOff e.1)) with msgOut := b.msgOut }
  else b

/-- SEV_DEFAULT (R638): FS015 and FS254 stay at SV4. -/
def Blk.sevDefaults (b : Blk) (p : Plan) : Blk :=
  match payload 0x0201 p.tune with
  | none => b
  | some l => ((List.range 384).filter faultNamed).foldl (fun x k =>
      let v := fieldAt l k 1
      (x.put (F.FCU_SRC_SEV k) (if k = 15 ∨ k = 254 then 4 else v % 8)).put (F.FCU_SRC_MODE k) (v / 16 % 4)) b

/-- SLEEP_POLICY (R464), into UH NM. -/
def Blk.sleepPolicy (b : Blk) (p : Plan) (miss : Nat) : Blk :=
  match payload 0x0203 p.tune with
  | none => b
  | some l =>
    if reaches miss 12 = false then b
    else
      let w (y : Blk) (a v : Nat) : Blk := y.regEffect .boot a (BitVec.ofNat 32 v)
      let b1 := w (w (w b R.NM_GCFG (fieldAt l 2 1)) R.NM_SB_BUS (fieldAt l 4 4)) R.NM_SB_ETH (fieldAt l 8 4)
      (pieces 32 (l.drop 16)).foldl (fun y e =>
        let n := fieldAt e 0 1
        let f := fieldAt e 1 1
        w (w (w y (R.NM_TIME n) (fieldAt e 8 4)) (R.NM_BT n) (fieldAt e 12 4)) (R.NM_CFG n)
          (f % 2 * 2 ^ 31 + f / 2 % 2 * 2 ^ 30 + fieldAt e 2 1 * 2 ^ 16 + fieldAt e 4 2)) b1

/-- The RWL bits that an entry of a LOCK record locks: whole fields that lie under MASK (R49). -/
def lockMask (a : Nat) (mask : W32) : W32 :=
  match locate a with
  | none => 0
  | some (r, _) => r.fields.foldl (fun m f =>
      let fm := Fld.mask ⟨0, f.hi, f.lo⟩
      if f.ty = .rwl ∧ fm &&& mask ≠ 0 then m ||| fm else m) 0

/-- The locks of R49. -/
def Blk.setLocks (b : Blk) (p : Plan) : Blk :=
  let es := ((planInits p).filter (fun r => r.1)).flatMap (fun r => r.2)
  es.foldl (fun y e =>
    { y with locks := y.locks.set (fun _ => 0) e.1 (y.lockOf e.1 ||| lockMask e.1 e.2.1) }) b

/-- Locks on UH and the field dies are released at the start of step 5 (R49). -/
def Blk.freeLocks (b : Blk) (miss : Nat) : Blk :=
  { b with locks := b.locks.keep (fun a => a < 0x50000000 || !(fieldUnit a).all (reaches miss)) }

/-- Step 5 of R60 up to entry `w` of the REG_INIT records. -/
def Blk.apply5Init (b : Blk) (p : Plan) (miss w : Nat) : Blk :=
  (((planInits p).flatMap (fun r => r.2)).take w).foldl (fun z e => z.initEntry miss e) ((b.freeLocks miss).sevDefaults p)

/-- The writes of step 5 of R60. -/
def Blk.apply5 (b : Blk) (p : Plan) (miss : Nat) : Blk := (b.apply5Init p miss 65536).sleepPolicy p miss

/-- Each raising of a list once by source, the first of each. -/
def onceEach (l : List Raise) : List Raise := l.foldl (fun acc r => if acc.any (fun y => y.src == r.src) then acc else acc ++ [r]) []

/-- Presentation at step 5 (R645): sources raised on KC count at each raising and are presented once; those held by
UH and the dies count once. Also the first source whose reaction ends at SV4. -/
def Blk.presentAll (b : Blk) : Option Nat × Blk :=
  let mine := b.fcuIn
  let b1 := mine.foldl (fun x r => (x.fcuEarly r).2) { b with
    fcuIn := []
    held := [] }
  let b2 := b1.setFcu (fun f => { f with plan := true })
  let kc := (onceEach mine).map (fun r => (r, false))
  let uh := ((onceEach b.held).filter (fun r => !mine.any (fun y => y.src == r.src))).map (fun r => (r, true))
  (kc ++ uh).foldl (fun x r =>
    let y := x.2.fcuPresent r.1 r.2
    (x.1.or (if y.1 then some r.1.src else none), y.2)) (none, b2)

/-- The weighbridge starts after step 5 (R269): UH no longer grants in its place (R31). -/
def Blk.wbgStart (b : Blk) : Blk := { b.put F.WBG_STAT_STARTED 1 with uhStart := false }

/-- Words of 4 bytes into registers. -/
def Blk.setWordsAt (b : Blk) (at' : Nat → Nat) (l : List Byte) : Blk :=
  (List.range (l.length / 4)).foldl (fun x w => x.setReg (at' w) (BitVec.ofNat 32 (fieldAt l (4 * w) 4))) b

/-- Step 6 of R60: dispatcher tables and gate lists. -/
def Blk.apply6 (b : Blk) (p : Plan) : Blk :=
  let b1 := (planSched 0x0301 p).foldl (fun x t =>
    x.setWordsAt (fun w => R.DISP_ENT t.1 (w / 4) (w % 4)) t.2) b
  (planSched 0x0302 p).foldl (fun x t =>
    ((x.setWordsAt (fun w => R.QBV_OPR t.1 w) (t.2.take 24)).setWordsAt (fun w => R.QBV_OPR_E t.1 w) (t.2.drop 24)).qbvRun
      t.1) b1

/-- Step 7 of R60: the journal entry, if R65 calls for one: its first `w` words of 8 bytes, the one with the CRC
last. `kind` is COPY of R64. -/
def Blk.apply7 (b : Blk) (m : List Host.Cell) (p : Plan) (kind : Nat) (step rec : Bool) (w : Nat) : List Host.Cell :=
  let j := journal m
  if j.any (fun e => slice e 0x10 48 == imageDigest p.img) then m
  else
    let seq := match j with
      | some e => fieldAt e 0 4 + 1
      | none => 1
    let k := seq % 256
    let l := leBytes 4 seq ++ leBytes 1 kind ++ leBytes 1 (planRev p.img) ++ leBytes 1 (step.toNat + 2 * rec.toNat) ++
      leBytes 1 (planSigner p.img) ++ leBytes 4 (planSeq p.img) ++ leBytes 4 (b.fld F.AON_RTC_SEC_SEC) ++
      imageDigest p.img ++ planDigest p.img ++ leBytes 8 0
    memWrite m (journalAt k) ((l ++ leBytes 4 (slotCrc k l) ++ leBytes 4 0).take (8 * w))

/-! ## The boot ROM -/

/-- How a stage ends: the boot ROM goes on, has halted or the safe state has been entered. -/
inductive BootEnd where
  | go (b : Blk) (m : List Host.Cell) (p : Plan)
  | stop (b : Blk) (m : List Host.Cell)
deriving DecidableEq, Repr

/-- The boot ROM halts (R62). -/
def Blk.bootHalt (b : Blk) : Blk :=
  { b.raise 201 with
    kc := .halted
    mark := false
    keeper := { b.keeper with bootHalt := true } }

/-- A copy's error code (R71). -/
def Blk.copyErr (b : Blk) (k err : Nat) : Blk := if k = 0 then b.put F.BPL_STATUS_A_ERR err else b.put F.BPL_STATUS_B_ERR err

/-- How an application ends: applied, KC no longer runs it, or failed (R61). -/
inductive Applied where
  | done (b : Blk) (m : List Host.Cell) (x : Mishap)
  | stop (b : Blk) (m : List Host.Cell)
  | fail (b : Blk) (x : Mishap)
deriving DecidableEq, Repr

/-- Steps 6 to 8 of R60, once the sources held for step 5 have been presented. -/
def Blk.applyEnd (b : Blk) (m : List Host.Cell) (p : Plan) (k : Nat) (step rec recov : Bool) (x : Mishap) : Applied :=
  let at' (n : Nat) : Option Nat := x.cutAt (n + 10 * recov.toNat)
  let b6 := b.wbgStart.apply6 p
  let log (w : Nat) : List Host.Cell := b6.apply7 m p (k + 2 * recov.toNat) step rec w
  let b8 := (((((b6.put F.BPL_STATUS_RESULT 0).put F.BPL_STATUS_ACTIVE k).putB F.BPL_STATUS_RECOVERY recov).put
    F.BPL_STATUS_APPLIED 1).put F.BPL_PLAN_SEQ_SEQ (planSeq p.img)).extend 1 (imageDigest p.img)
  let b9 := (b8.journalSync (log 16)).keepalive
  if (at' 6).isSome then .stop b.railFall m
  else
    match at' 7 with
    | some w => .stop b6.railFall (log w)
    | none => if (at' 8).isSome then .stop b9.railFall (log 16) else .done b9 (log 16) x

/-- Application of the plan in copy `k` (R60, R61); `recov` says that it is the recovery plan. A failed step
leaves error code 13. -/
def Blk.applyPlan (b : Blk) (m : List Host.Cell) (p : Plan) (k : Nat) (step rec recov : Bool) (x : Mishap) : Applied :=
  let no (n : Nat) : Nat := n + 10 * recov.toNat
  let field := 12 :: List.range 12
  let b2 := ((b.apply1 p step rec 2).apply2 p m)
  match x.cutAt (no 1), x.cutAt (no 2) with
  | some w, _ => .stop (b.apply1 p step rec w).railFall m
  | none, some _ => .stop b2.railFall m
  | none, none =>
    match b2.stage x (no 3) (fun s y => y.apply3 p s) (fun w y => y.apply3 p (2 ^ 13 - 2 ^ min w 13)) field with
    | .cut y => .stop y m
    | .fail y z => .fail (y.copyErr k 13) z
    | .done b3 x3 =>
      match b3.stage x3 (no 4) (fun s y => y.apply4 p s) (fun w y => if w = 0 then y else y.apply4 p 0) [12] with
      | .cut y => .stop y m
      | .fail y z => .fail (y.copyErr k 13) z
      | .done b4 x4 =>
        match b4.stage x4 (no 5) (fun s y => y.apply5 p s) (fun w y => y.apply5Init p 0 w) field with
        | .cut y => .stop y m
        | .fail y z => .fail (y.copyErr k 13) z
        | .done b5 x5 =>
          let r := (b5.setLocks p).presentAll
          match r.1 with
          | some src => .stop (r.2.safeState src) m
          | none => r.2.applyEnd m p k step rec recov x5

/-- The recovery plan of the directory (R86): none if there is none; FS204 where its digest is wrong. -/
def Blk.recoveryOf (b : Blk) (m : List Host.Cell) : Option (List Byte) × Blk :=
  match b.directory m with
  | none => (none, b)
  | some d =>
    match ((dirEntries m d).filter (fun e => entType e == 2)).reverse with
    | [] => (none, b)
    | e :: _ => if entGood m e then (some (entImage m e), b) else (none, b.raise 204)

/-- No copy can be applied (R62): the recovery plan, or the boot ROM halts with the RESULT of R71. `fail` says that an
application failed under R61. DEDUCED: whether copy A holds the plan that UH KEEP's digest names is judged by the
STRUCT_DIGEST in its header, whatever else of it fails (log 103). -/
def Blk.recoverPlan (b : Blk) (m : List Host.Cell) (fail : Bool) (x : Mishap) : BootEnd :=
  let a := b.fld F.BPL_STATUS_A_ERR
  let res := if fail then 13 else if a ≠ 0 then a else b.fld F.BPL_STATUS_B_ERR
  let r := (b.dirFaults m).recoveryOf m
  match r.1 with
  | none => .stop (r.2.put F.BPL_STATUS_RESULT res).bootHalt m
  | some l =>
    let v := r.2.wouldApply m (l.take 0x200000)
    match v.2.2.2 with
    | none => .stop (r.2.put F.BPL_STATUS_RESULT v.1).bootHalt m
    | some p =>
      let k := if planDigest (copyImage m 0) = b.keeper.digest ∧ zeros b.keeper.digest = false then 1 else 0
      let copy (w : Nat) : List Host.Cell := memWrite m (copyBase k) (l.take (min w 0x200000))
      match x.cutAt 10 with
      | some w => .stop r.2.railFall (copy w)
      | none =>
        match r.2.applyPlan (copy 0x200000) p k v.2.1 v.2.2.1 true x with
        | .done y m1 _ => .go y m1 p
        | .stop y m1 => .stop y m1
        | .fail y _ => .stop (y.put F.BPL_STATUS_RESULT 13).bootHalt (copy 0x200000)

/-- Stages 2 and 3 (R58 to R62). -/
def Blk.bootPlan (b : Blk) (m : List Host.Cell) (x : Mishap) : BootEnd :=
  let b0 := (if journalBad m then b.raise 202 else b).journalSync m
  let v (k : Nat) := b0.verify m (copyImage m k)
  let ra := v 0
  let rb := v 1
  let b1 := (b0.put F.BPL_STATUS_A_ERR ra.1).put F.BPL_STATUS_B_ERR rb.1
  let b2 := if ra.1 = 0 then b1 else b1.raise 200 0
  let b3 := if rb.1 = 0 then b2 else b2.raise 200 1
  let try' (y : Blk) (k : Nat) (p : Plan) (r : Nat × Bool × Bool × Option Plan) : BootEnd :=
    match y.applyPlan m p k r.2.1 r.2.2.1 false x with
    | .done z m1 _ => .go z m1 p
    | .stop z m1 => .stop z m1
    | .fail z x1 => z.recoverPlan m true x1
  let choose (k : Nat) (p : Plan) (r o : Nat × Bool × Bool × Option Plan) : BootEnd :=
    if b3.defers p then
      let b4 := (b3.copyErr k 12).put F.BPL_STATUS_DEFERRED 1
      match o.2.2.2 with
      | some q => if planDigest q.img = b3.keeper.digest then try' b4 (1 - k) q o else b4.recoverPlan m false x
      | none => b4.recoverPlan m false x
    else try' b3 k p r
  match ra.2.2.2, rb.2.2.2 with
  | none, none => b3.recoverPlan m false x
  | some p, none => choose 0 p ra rb
  | none, some q => choose 1 q rb ra
  | some p, some q => if planSeq p.img < planSeq q.img then choose 1 q rb ra else choose 0 p ra rb

/-- Stage 4 (R85 to R88): the block and memory with the EARLY images in place and their entries, or the halt. DESIGN
CHOICE: where an EARLY image fails, no image is loaded, and MA2 and MA3 are not extended (log 103). -/
def Blk.bootImages (b : Blk) (m : List Host.Cell) : Option (List (List Byte)) × Blk × List Host.Cell :=
  let b0 := if b.on F.BPL_STATUS_RECOVERY then b else b.dirFaults m
  match b0.directory m with
  | none => (none, (b0.raise 204).bootHalt, m)
  | some d =>
    let l := earlyImages (dirEntries m d)
    if earlyOk m l then
      (some l, loadEarly l (b0.extend 2 (Config.sha384 (dirBody m d ++ dirSig m d)), m))
    else (none, (b0.raise 204).bootHalt, m)

/-- The entry address of the EARLY image that targets hart `h`. -/
def earlyEntry (l : List (List Byte)) (h : Nat) : Option Nat := (l.find? (fun e => entHart e == some h)).map entStart

/-- Stage 5 on safety core `n` (R89). -/
def Blk.startCore (b : Blk) (p : Plan) (l : List (List Byte)) (n : Nat) : Blk :=
  let h := 16 + n
  if (planSched 0x0301 p).any (fun t => t.1 == n) then
    (b.hartStart h 0).dispCtl n ((F.DISP_CTL_EN n).ins (b.reg (R.DISP_CTL n)) 1)
  else
    match earlyEntry l h with
    | some pc => b.hartStart h pc
    | none => b.hartStop h 0

/-- Stage 5 (R89): the cores are released and the module is in RUN. -/
def Blk.bootRelease (b : Blk) (p : Plan) (l : List (List Byte)) : Blk :=
  let b1 := (List.range 8).foldl (fun x n => x.startCore p l n) b
  let pc := (earlyEntry l 0).getD 0 % 2 ^ 40
  let b2 := (b1.put (F.SYSCTL_HART_ENTRY_LO_ADDR 0) (pc / 2 % 2 ^ 31)).put (F.SYSCTL_HART_ENTRY_HI_ADDR 0) (pc / 2 ^ 32)
  let b3 := if (earlyEntry l 0).isSome then b2.hartStart 0 pc else b2
  let b4 := if b3.slp.sbCan = 0 ∧ b3.slp.sbLin = 0 ∧ b3.slp.sbEth = 0 then b3 else b3.standbyLeave
  { b4.setPState 0 with mark := false }

/-- KC leaves reset (R37, R82, R93, R99, R116, R480): the count and the cause of the start, the broadcast, the memories. -/
def Blk.kcUp (b : Blk) : Blk :=
  let cause := if b.keeper.sv4Late = some false then 2 else b.fld F.AON_PSTATE_CAUSE
  let b0 := { b with
    kc := .run
    mark := true
    k := {}
    pwr := { b.pwr with
      linkKc := true
      uhTb := some (b.tb0, b.clk) }
    keeper := { b.keeper with
      noKeep := true
      bootHalt := false
      sv4Late := none } }
  let b1 := ((b0.incSat F.AON_PSTATE_START_COUNT).put F.AON_PSTATE_CAUSE cause).put F.AON_PSTATE_STATE 7
  let b2 := ((b1.event ⟨R.AON_EVT, 1, 0⟩ F.AON_IEN_IEN 1 0x105).consentWrite 0).uhTakesOver.startBroadcast
  (List.range 13).foldl (fun x l => x.put (F.BRG_LINK_UP l) 1) (b2.put F.SYSCTL_SCRUB_DRAM_CLR 1)

/-- The end of stage 1: AK and SK (R614), MA0 (R88). -/
def Blk.bootKeys (b : Blk) : Blk :=
  let b1 := if b.dsOff then b else { b with k := { b.k with
    ak := some akKey
    sk := some skKey } }
  let w (a : Nat) : List Byte := leBytes 4 (b.reg a).toNat
  (b1.extend 0 (Config.sha384 (w R.SYSCTL_ID ++ w R.BPL_FUSE ++ leBytes 4 Config.romVersion.toNat))).kvSync

/-- The start of KC (R84). -/
def Blk.kcStart (b : Blk) (m : List Host.Cell) (x : Mishap) : Blk × List Host.Cell :=
  let r := b.mend (memKeep m)
  let m0 := r.2
  let b1 := r.1.kcUp
  if b1.on F.TAMPER_STAT_PENDING then (b1.kvSync.quarEnter, m0)
  else if (x.cutAt 0).isSome then (b1.railFall, m0)
  else
    match b1.bootKeys.bootPlan m0 x with
    | .stop b2 m2 => (b2, m2)
    | .go b2 m2 p =>
      match b2.bootImages m2 with
      | (none, b3, m3) => (b3, m3)
      | (some l, b3, m3) => (b3.bootRelease p l, m3)

/-- May KC leave reset: the rails have been good for 0.5 ms (R81, R82)? -/
def Blk.kcMayStart (b : Blk) : Bool :=
  b.pwr.vkeep && b.pwr.ready && b.pwr.railGood && b.kc == .down && !b.asleep && b.pwr.goodAt + tickUs * 500 ≤ b.clk

/-! ## Meaning -/

/-- KC leaves reset (R84). `set`, `step` and `reason` say what goes wrong while the boot ROM applies a plan (R57, R61,
R65), coded as in `Mishap`. -/
def execKcStart (set step reason : Nat) (s : State) : Host.Outcome State Fault Refusal :=
  onMem true s (fun b m =>
    if b.kcMayStart then
      (if b.keeper.sv4Late = some true then (b.holdKc, m) else b.kcStart m ⟨set, reason, step⟩)
    else (b, m))

end Sys2Proof.Machine
end

