-- ==== Sys2Proof/Machine/Dispatch.lean ====
section
/-!
DEFINITION. Machine/Dispatch.lean: the meaning of each command, one arm per row of the table.
-/

namespace Sys2Proof.Machine

/-- What a command does to everything but the queue. -/
def exec (i : Instr) (s : State) : Host.Outcome State Fault Refusal :=
  match i with
  | .registerWrite ini addr width value => Sys2Proof.Machine.execRegisterWrite ini addr width value s
  | .vkeepPowerUp => Sys2Proof.Machine.execVkeepPowerUp s
  | .uhReady => Sys2Proof.Machine.execUhReady s
  | .railGoodRise => Sys2Proof.Machine.execRailGoodRise s
  | .kcStart set step reason => Sys2Proof.Machine.execKcStart set step reason s
  | .railLoss => Sys2Proof.Machine.execRailLoss s
  | .vkeepLoss => Sys2Proof.Machine.execVkeepLoss s
  | .fieldLinkClockLoss => Sys2Proof.Machine.execFieldLinkClockLoss s
  | .alignmentPulse => Sys2Proof.Machine.execAlignmentPulse s
  | .crystalStop => Sys2Proof.Machine.execCrystalStop s
  | .pwrReqRun ini => Sys2Proof.Machine.execPwrReqRun ini s
  | .pwrReqIdle ini => Sys2Proof.Machine.execPwrReqIdle ini s
  | .pwrReqStandby ini wfi => Sys2Proof.Machine.execPwrReqStandby ini wfi s
  | .pwrReqSleep ini => Sys2Proof.Machine.execPwrReqSleep ini s
  | .pwrReqKcReset ini => Sys2Proof.Machine.execPwrReqKcReset ini s
  | .pwrReqInvalid ini req => Sys2Proof.Machine.execPwrReqInvalid ini req s
  | .powerTransitionComplete => Sys2Proof.Machine.execPowerTransitionComplete s
  | .idleWakeInterrupt => Sys2Proof.Machine.execIdleWakeInterrupt s
  | .rtcSecRead ini => Sys2Proof.Machine.execRtcSecRead ini s
  | .rtcSecWrite ini v => Sys2Proof.Machine.execRtcSecWrite ini v s
  | .rtcAlarmFire => Sys2Proof.Machine.execRtcAlarmFire s
  | .alarmEnable ini v => Sys2Proof.Machine.execAlarmEnable ini v s
  | .nop ini ch => Sys2Proof.Machine.execNop ini ch s
  | .off ini ch => Sys2Proof.Machine.execOff ini ch s
  | .on ini ch => Sys2Proof.Machine.execOn ini ch s
  | .pwm ini ch duty => Sys2Proof.Machine.execPwm ini ch duty s
  | .cap ini ch => Sys2Proof.Machine.execCap ini ch s
  | .duty ini ch duty => Sys2Proof.Machine.execDuty ini ch duty s
  | .cancel ini ch => Sys2Proof.Machine.execCancel ini ch s
  | .cmdReservedOpcode ini ch op duty => Sys2Proof.Machine.execCmdReservedOpcode ini ch op duty s
  | .chTcmdTimeWrite ini ch time => Sys2Proof.Machine.execChTcmdTimeWrite ini ch time s
  | .timedOff ini ch ep => Sys2Proof.Machine.execTimedOff ini ch ep s
  | .timedOn ini ch ep => Sys2Proof.Machine.execTimedOn ini ch ep s
  | .timedPwm ini ch duty ep => Sys2Proof.Machine.execTimedPwm ini ch duty ep s
  | .timedCap ini ch ep => Sys2Proof.Machine.execTimedCap ini ch ep s
  | .timedDuty ini ch duty ep => Sys2Proof.Machine.execTimedDuty ini ch duty ep s
  | .timedReservedOpcode ini ch op ep => Sys2Proof.Machine.execTimedReservedOpcode ini ch op ep s
  | .timedCommandDue n => Sys2Proof.Machine.execTimedCommandDue n s
  | .leaveRequestSend n => Sys2Proof.Machine.execLeaveRequestSend n s
  | .leaveGrantArrival ch => Sys2Proof.Machine.execLeaveGrantArrival ch s
  | .leaveRefusalArrival ch => Sys2Proof.Machine.execLeaveRefusalArrival ch s
  | .uhLeaveRequest => Sys2Proof.Machine.execUhLeaveRequest s
  | .inrushPhaseEnd ch => Sys2Proof.Machine.execInrushPhaseEnd ch s
  | .channelAdopt ini ch tag mode => Sys2Proof.Machine.execChannelAdopt ini ch tag mode s
  | .pwmPeriodBoundary n g => Sys2Proof.Machine.execPwmPeriodBoundary n g s
  | .pwmRisingEdge ch => Sys2Proof.Machine.execPwmRisingEdge ch s
  | .pwmFallingEdge ch => Sys2Proof.Machine.execPwmFallingEdge ch s
  | .pgPeriodWrite ini n g v => Sys2Proof.Machine.execPgPeriodWrite ini n g v s
  | .pgAnchorWrite ini n g v => Sys2Proof.Machine.execPgAnchorWrite ini n g v s
  | .chPhaseWrite ini ch v => Sys2Proof.Machine.execChPhaseWrite ini ch v s
  | .chargeLevelReached ch => Sys2Proof.Machine.execChargeLevelReached ch s
  | .chargeComplete ch => Sys2Proof.Machine.execChargeComplete ch s
  | .chargeTimeout ch => Sys2Proof.Machine.execChargeTimeout ch s
  | .shortCircuitDetect ch => Sys2Proof.Machine.execShortCircuitDetect ch s
  | .overTemperatureDetect ch t => Sys2Proof.Machine.execOverTemperatureDetect ch t s
  | .autoRestart ch => Sys2Proof.Machine.execAutoRestart ch s
  | .wireModelUpdate n => Sys2Proof.Machine.execWireModelUpdate n s
  | .bankLowSet n => Sys2Proof.Machine.execBankLowSet n s
  | .bankLowClear n => Sys2Proof.Machine.execBankLowClear n s
  | .bankResume n => Sys2Proof.Machine.execBankResume n s
  | .latchClear ini ch => Sys2Proof.Machine.execLatchClear ini ch s
  | .retryClear ini ch => Sys2Proof.Machine.execRetryClear ini ch s
  | .retryQuietExpiry ch => Sys2Proof.Machine.execRetryQuietExpiry ch s
  | .onStateOpenLoad ch => Sys2Proof.Machine.execOnStateOpenLoad ch s
  | .offStateTestStart ch => Sys2Proof.Machine.execOffStateTestStart ch s
  | .offStateOpenLoad ch => Sys2Proof.Machine.execOffStateOpenLoad ch s
  | .offStateOpenLoadEnd ch => Sys2Proof.Machine.execOffStateOpenLoadEnd ch s
  | .ambWrite ini n v => Sys2Proof.Machine.execAmbWrite ini n v s
  | .ambStale n => Sys2Proof.Machine.execAmbStale n s
  | .keepAlive ini key => Sys2Proof.Machine.execKeepAlive ini key s
  | .keeperTimeout => Sys2Proof.Machine.execKeeperTimeout s
  | .sequencerStall n calBad => Sys2Proof.Machine.execSequencerStall n calBad s
  | .configCrcCheck n mismatch calBad => Sys2Proof.Machine.execConfigCrcCheck n mismatch calBad s
  | .currentSample n vbank xs => Sys2Proof.Machine.execCurrentSample n vbank xs s
  | .windowClose ch => Sys2Proof.Machine.execWindowClose ch s
  | .wcfgWrite ini ch v => Sys2Proof.Machine.execWcfgWrite ini ch v s
  | .dieMeasPhaseWrite ini n v => Sys2Proof.Machine.execDieMeasPhaseWrite ini n v s
  | .energyClear ini ch => Sys2Proof.Machine.execEnergyClear ini ch s
  | .dissipationReport => Sys2Proof.Machine.execDissipationReport s
  | .inputRawEdge n mv => Sys2Proof.Machine.execInputRawEdge n mv s
  | .debounceExpiry n => Sys2Proof.Machine.execDebounceExpiry n s
  | .chatterWindowEnd n => Sys2Proof.Machine.execChatterWindowEnd n s
  | .stuckDetect n => Sys2Proof.Machine.execStuckDetect n s
  | .stormPeriodExpiry n => Sys2Proof.Machine.execStormPeriodExpiry n s
  | .wakeAcknowledge ini n v => Sys2Proof.Machine.execWakeAcknowledge ini n v s
  | .analogInputUpdate n mv => Sys2Proof.Machine.execAnalogInputUpdate n mv s
  | .interruptEnableWrite ini src v => Sys2Proof.Machine.execInterruptEnableWrite ini src v s
  | .evaluationRound => Sys2Proof.Machine.execEvaluationRound s
  | .kcPowerMeasurement p => Sys2Proof.Machine.execKcPowerMeasurement p s
  | .revocationAction => Sys2Proof.Machine.execRevocationAction s
  | .thermalModelUpdate kc uh bf lid => Sys2Proof.Machine.execThermalModelUpdate kc uh bf lid s
  | .budgetReport uh fl => Sys2Proof.Machine.execBudgetReport uh fl s
  | .frequencyStepRequest ini k step => Sys2Proof.Machine.execFrequencyStepRequest ini k step s
  | .mramBulkWriteRequest ini k dp => Sys2Proof.Machine.execMramBulkWriteRequest ini k dp s
  | .slotRequestInvalid ini k kind => Sys2Proof.Machine.execSlotRequestInvalid ini k kind s
  | .slotRelease ini k => Sys2Proof.Machine.execSlotRelease ini k s
  | .periodicRelease n ini => Sys2Proof.Machine.execPeriodicRelease n ini s
  | .eventRelease n id => Sys2Proof.Machine.execEventRelease n id s
  | .dispRelease ini n idx => Sys2Proof.Machine.execDispRelease ini n idx s
  | .dispatch n => Sys2Proof.Machine.execDispatch n s
  | .deferralBoundDispatch n => Sys2Proof.Machine.execDeferralBoundDispatch n s
  | .dispEnd ini n => Sys2Proof.Machine.execDispEnd ini n s
  | .dispTableWrite ini n idx w v => Sys2Proof.Machine.execDispTableWrite ini n idx w v s
  | .fabricEnableWrite ini v => Sys2Proof.Machine.execFabricEnableWrite ini v s
  | .fabricSlot badA badB => Sys2Proof.Machine.execFabricSlot badA badB s
  | .resequenceTimeout o p => Sys2Proof.Machine.execResequenceTimeout o p s
  | .frameTransmitStart p ecc => Sys2Proof.Machine.execFrameTransmitStart p ecc s
  | .linkDownReport p => Sys2Proof.Machine.execLinkDownReport p s
  | .linkUpReport p => Sys2Proof.Machine.execLinkUpReport p s
  | .graceExpiry o tc => Sys2Proof.Machine.execGraceExpiry o tc s
  | .spoilAuditStart => Sys2Proof.Machine.execSpoilAuditStart s
  | .spoilAuditComplete n fix dbl => Sys2Proof.Machine.execSpoilAuditComplete n fix dbl s
  | .frameLookup p head l dur => Sys2Proof.Machine.execFrameLookup p head l dur s
  | .agingSweep => Sys2Proof.Machine.execAgingSweep s
  | .recoveryFunctionReset n => Sys2Proof.Machine.execRecoveryFunctionReset n s
  | .macReadEntry ini ix => Sys2Proof.Machine.execMacReadEntry ini ix s
  | .macWriteEntry ini ix => Sys2Proof.Machine.execMacWriteEntry ini ix s
  | .macSearch ini ix => Sys2Proof.Machine.execMacSearch ini ix s
  | .macInsert ini ix => Sys2Proof.Machine.execMacInsert ini ix s
  | .macDelete ini ix => Sys2Proof.Machine.execMacDelete ini ix s
  | .macFlushPort ini ix => Sys2Proof.Machine.execMacFlushPort ini ix s
  | .macCmdInvalid ini ix => Sys2Proof.Machine.execMacCmdInvalid ini ix s
  | .macCmdComplete => Sys2Proof.Machine.execMacCmdComplete s
  | .seedWrite ini v => Sys2Proof.Machine.execSeedWrite ini v s
  | .gateEntryBoundary p => Sys2Proof.Machine.execGateEntryBoundary p s
  | .qbvChange ini p => Sys2Proof.Machine.execQbvChange ini p s
  | .gateListSwitch p => Sys2Proof.Machine.execGateListSwitch p s
  | .cgFrameReceive => Sys2Proof.Machine.execCgFrameReceive s
  | .phyLinkChange p up => Sys2Proof.Machine.execPhyLinkChange p up s
  | .linkTrainingDone p ok => Sys2Proof.Machine.execLinkTrainingDone p ok s
  | .trainingRetry p => Sys2Proof.Machine.execTrainingRetry p s
  | .frameReceiveEnd p l fcs dur => Sys2Proof.Machine.execFrameReceiveEnd p l fcs dur s
  | .pauseExpiry p tc => Sys2Proof.Machine.execPauseExpiry p tc s
  | .pauseTransmit p => Sys2Proof.Machine.execPauseTransmit p s
  | .pauseRefresh p => Sys2Proof.Machine.execPauseRefresh p s
  | .launchTimeReached p ecc => Sys2Proof.Machine.execLaunchTimeReached p ecc s
  | .transmitUnderrun p => Sys2Proof.Machine.execTransmitUnderrun p s
  | .ctDecay p => Sys2Proof.Machine.execCtDecay p s
  | .ctReset ini p v => Sys2Proof.Machine.execCtReset ini p v s
  | .preemptionVerify p ok => Sys2Proof.Machine.execPreemptionVerify p ok s
  | .tc10SleepRequest ini p v => Sys2Proof.Machine.execTc10SleepRequest ini p v s
  | .tc10SleepAccepted p => Sys2Proof.Machine.execTc10SleepAccepted p s
  | .tc10SleepTimeout p => Sys2Proof.Machine.execTc10SleepTimeout p s
  | .tc10PartnerSleep p => Sys2Proof.Machine.execTc10PartnerSleep p s
  | .tc10WakePulse p => Sys2Proof.Machine.execTc10WakePulse p s
  | .tc10WakeRequest ini p v => Sys2Proof.Machine.execTc10WakeRequest ini p v s
  | .qpTxTailWrite ini q v => Sys2Proof.Machine.execQpTxTailWrite ini q v s
  | .hostTxFrame hp => Sys2Proof.Machine.execHostTxFrame hp s
  | .hostLaunchPass hp => Sys2Proof.Machine.execHostLaunchPass hp s
  | .hostRxFrame hp => Sys2Proof.Machine.execHostRxFrame hp s
  | .qpEnableWrite ini q v => Sys2Proof.Machine.execQpEnableWrite ini q v s
  | .qpCoalesceTimeout q => Sys2Proof.Machine.execQpCoalesceTimeout q s
  | .canEnable ini n v => Sys2Proof.Machine.execCanEnable ini n v s
  | .canDisable ini n v => Sys2Proof.Machine.execCanDisable ini n v s
  | .canIntegrationDone n => Sys2Proof.Machine.execCanIntegrationDone n s
  | .canRecover ini n v => Sys2Proof.Machine.execCanRecover ini n v s
  | .canRecoveryDone n k => Sys2Proof.Machine.execCanRecoveryDone n k s
  | .txReq ini n q v => Sys2Proof.Machine.execTxReq ini n q v s
  | .abort ini n q v => Sys2Proof.Machine.execAbort ini n q v s
  | .mbCodeWrite ini n q v => Sys2Proof.Machine.execMbCodeWrite ini n q v s
  | .mbLockWrite ini n q v => Sys2Proof.Machine.execMbLockWrite ini n q v s
  | .canFrameStart n => Sys2Proof.Machine.execCanFrameStart n s
  | .canTxComplete n ns => Sys2Proof.Machine.execCanTxComplete n ns s
  | .canArbitrationLost n => Sys2Proof.Machine.execCanArbitrationLost n s
  | .canFrameReceive n f => Sys2Proof.Machine.execCanFrameReceive n f s
  | .canBusError n kind add => Sys2Proof.Machine.execCanBusError n kind add s
  | .canFifoPop ini n => Sys2Proof.Machine.execCanFifoPop ini n s
  | .txdDominantTimeout lin n => Sys2Proof.Machine.execTxdDominantTimeout lin n s
  | .transceiverWake n h => Sys2Proof.Machine.execTransceiverWake n h s
  | .linSlotStart n => Sys2Proof.Machine.execLinSlotStart n s
  | .linHeaderReceive n id meas heard => Sys2Proof.Machine.execLinHeaderReceive n id meas heard s
  | .linResponseComplete n data sum badBit badStop => Sys2Proof.Machine.execLinResponseComplete n data sum badBit badStop s
  | .linResponseTimeout n => Sys2Proof.Machine.execLinResponseTimeout n s
  | .linResponseUpdate ini n id v => Sys2Proof.Machine.execLinResponseUpdate ini n id v s
  | .sleepCmd ini n v => Sys2Proof.Machine.execSleepCmd ini n v s
  | .linIdleTimeout n => Sys2Proof.Machine.execLinIdleTimeout n s
  | .linWakePulse n => Sys2Proof.Machine.execLinWakePulse n s
  | .wakeReq ini n v => Sys2Proof.Machine.execWakeReq ini n v s
  | .linBusDominant n on => Sys2Proof.Machine.execLinBusDominant n on s
  | .timeBaseWrap x => Sys2Proof.Machine.execTimeBaseWrap x s
  | .tbOffsWrite ini x v => Sys2Proof.Machine.execTbOffsWrite ini x v s
  | .tbStepWrite ini x v => Sys2Proof.Machine.execTbStepWrite ini x v s
  | .set ini x => Sys2Proof.Machine.execSet ini x s
  | .clampTimeout x => Sys2Proof.Machine.execClampTimeout x s
  | .tbNsRead ini x => Sys2Proof.Machine.execTbNsRead ini x s
  | .timeCapture src rise => Sys2Proof.Machine.execTimeCapture src rise s
  | .ptsPop ini p => Sys2Proof.Machine.execPtsPop ini p s
  | .pulseEnable ini p v => Sys2Proof.Machine.execPulseEnable ini p v s
  | .pulseRise p => Sys2Proof.Machine.execPulseRise p s
  | .pulseFall p => Sys2Proof.Machine.execPulseFall p s
  | .arm ini v => Sys2Proof.Machine.execArm ini v s
  | .armStop ini v => Sys2Proof.Machine.execArmStop ini v s
  | .tallyStrobe => Sys2Proof.Machine.execTallyStrobe s
  | .timerInterrupt h kind cmp => Sys2Proof.Machine.execTimerInterrupt h kind cmp s
  | .ringEnable ini n v => Sys2Proof.Machine.execRingEnable ini n v s
  | .ringFrameReceive n f => Sys2Proof.Machine.execRingFrameReceive n f s
  | .ringTypTimer n => Sys2Proof.Machine.execRingTypTimer n s
  | .ringMaxTimeout n => Sys2Proof.Machine.execRingMaxTimeout n s
  | .ringWbsExpiry n => Sys2Proof.Machine.execRingWbsExpiry n s
  | .ringEngineBusOff n => Sys2Proof.Machine.execRingEngineBusOff n s
  | .ringEngineRecovery n => Sys2Proof.Machine.execRingEngineRecovery n s
  | .consentWrite ini v => Sys2Proof.Machine.execConsentWrite ini v s
  | .ledgerClear ini => Sys2Proof.Machine.execLedgerClear ini s
  | .kcQuiescent => Sys2Proof.Machine.execKcQuiescent s
  | .wakeEvent => Sys2Proof.Machine.execWakeEvent s
  | .lateWakeRestart => Sys2Proof.Machine.execLateWakeRestart s
  | .failSafeSleep => Sys2Proof.Machine.execFailSafeSleep s
  | .pop ini => Sys2Proof.Machine.execPop ini s
  | .release ini h key => Sys2Proof.Machine.execRelease ini h key s
  | .reset ini h key => Sys2Proof.Machine.execReset ini h key s
  | .hartCmdNone ini h => Sys2Proof.Machine.execHartCmdNone ini h s
  | .memoryLoad ini fetch addr n err => Sys2Proof.Machine.execMemoryLoad ini fetch addr n err s
  | .memoryStore ini addr n v err => Sys2Proof.Machine.execMemoryStore ini addr n v err s
  | .memoryAtomic ini op addr n v err => Sys2Proof.Machine.execMemoryAtomic ini op addr n v err s
  | .potFetch => Sys2Proof.Machine.execPotFetch s
  | .dramClearComplete => Sys2Proof.Machine.execDramClearComplete s
  | .fence h => Sys2Proof.Machine.execFence h s
  | .fenceI h => Sys2Proof.Machine.execFenceI h s
  | .fenceField h rd => Sys2Proof.Machine.execFenceField h rd s
  | .fenceFieldComplete h => Sys2Proof.Machine.execFenceFieldComplete h s
  | .scrubPass k ce ue => Sys2Proof.Machine.execScrubPass k ce ue s
  | .seteipnumWrite ini p be v => Sys2Proof.Machine.execSeteipnumWrite ini p be v s
  | .msiDelivery q => Sys2Proof.Machine.execMsiDelivery q s
  | .debugReset => Sys2Proof.Machine.execDebugReset s
  | .debugHaltRequest h => Sys2Proof.Machine.execDebugHaltRequest h s
  | .recutBegin h => Sys2Proof.Machine.execRecutBegin h s
  | .recutEnd h => Sys2Proof.Machine.execRecutEnd h s
  | .recutMode h v => Sys2Proof.Machine.execRecutMode h v s
  | .passOneEnd h ok => Sys2Proof.Machine.execPassOneEnd h ok s
  | .passOneCycleLimit h => Sys2Proof.Machine.execPassOneCycleLimit h s
  | .echoLogFull h => Sys2Proof.Machine.execEchoLogFull h s
  | .passTwoComplete h => Sys2Proof.Machine.execPassTwoComplete h s
  | .sliceMismatch h raw sig timing log entry kind addr => Sys2Proof.Machine.execSliceMismatch h raw sig timing log entry kind addr s
  | .commitComplete h => Sys2Proof.Machine.execCommitComplete h s
  | .gate h pc rs1 pa err => Sys2Proof.Machine.execGate h pc rs1 pa err s
  | .gateRet h wr => Sys2Proof.Machine.execGateRet h wr s
  | .keystone h => Sys2Proof.Machine.execKeystone h s
  | .hvctxWrite h v => Sys2Proof.Machine.execHvctxWrite h v s
  | .potEnable ini v => Sys2Proof.Machine.execPotEnable ini v s
  | .potInvalidate ini first => Sys2Proof.Machine.execPotInvalidate ini first s
  | .potInvalidateDone => Sys2Proof.Machine.execPotInvalidateDone s
  | .gateRequest ini g v => Sys2Proof.Machine.execGateRequest ini g v s
  | .gateRelease ini g v => Sys2Proof.Machine.execGateRelease ini g v s
  | .gateChangeComplete g => Sys2Proof.Machine.execGateChangeComplete g s
  | .gateQuiesceTimeout g => Sys2Proof.Machine.execGateQuiesceTimeout g s
  | .deviceDmaRequest src u gen va write data n => Sys2Proof.Machine.execDeviceDmaRequest src u gen va write data n s
  | .pageWalkComplete => Sys2Proof.Machine.execPageWalkComplete s
  | .dmaCompletion => Sys2Proof.Machine.execDmaCompletion s
  | .atuInvalidate ini all range c => Sys2Proof.Machine.execAtuInvalidate ini all range c s
  | .atuInvalidateDone => Sys2Proof.Machine.execAtuInvalidateDone s
  | .stop ini c => Sys2Proof.Machine.execStop ini c s
  | .start ini c => Sys2Proof.Machine.execStart ini c s
  | .bump ini c => Sys2Proof.Machine.execBump ini c s
  | .remove ini c => Sys2Proof.Machine.execRemove ini c s
  | .ctxOpIgnored ini c => Sys2Proof.Machine.execCtxOpIgnored ini c s
  | .ctxOpDone c => Sys2Proof.Machine.execCtxOpDone c s
  | .drainTimeout c => Sys2Proof.Machine.execDrainTimeout c s
  | .sync ini c v => Sys2Proof.Machine.execSync ini c v s
  | .syncDone c => Sys2Proof.Machine.execSyncDone c s
  | .fieldWriteApply k fail => Sys2Proof.Machine.execFieldWriteApply k fail s
  | .applyNotice k => Sys2Proof.Machine.execApplyNotice k s
  | .readCompletion k fail => Sys2Proof.Machine.execReadCompletion k fail s
  | .completionTimeout k => Sys2Proof.Machine.execCompletionTimeout k s
  | .linkFrameResend l last => Sys2Proof.Machine.execLinkFrameResend l last s
  | .fieldLr h a => Sys2Proof.Machine.execFieldLr h a s
  | .fieldSc h a v => Sys2Proof.Machine.execFieldSc h a v s
  | .fieldAmo h op a v => Sys2Proof.Machine.execFieldAmo h op a v s
  | .reservationTimeout k => Sys2Proof.Machine.execReservationTimeout k s
  | .fieldInterruptMessage n => Sys2Proof.Machine.execFieldInterruptMessage n s
  | .cvuRingTailWrite ini r v => Sys2Proof.Machine.execCvuRingTailWrite ini r v s
  | .gen k => Sys2Proof.Machine.execGen k s
  | .append k => Sys2Proof.Machine.execAppend k s
  | .check k => Sys2Proof.Machine.execCheck k s
  | .strip k => Sys2Proof.Machine.execStrip k s
  | .cvuBadArgument k => Sys2Proof.Machine.execCvuBadArgument k s
  | .ringDisable ini r v => Sys2Proof.Machine.execRingDisable ini r v s
  | .gcmEnc k => Sys2Proof.Machine.execGcmEnc k s
  | .gcmDec k => Sys2Proof.Machine.execGcmDec k s
  | .cmacGen k => Sys2Proof.Machine.execCmacGen k s
  | .cmacVer k => Sys2Proof.Machine.execCmacVer k s
  | .sha384 k => Sys2Proof.Machine.execSha384 k s
  | .sign k => Sys2Proof.Machine.execSign k s
  | .verify k => Sys2Proof.Machine.execVerify k s
  | .cryBadOpcode k => Sys2Proof.Machine.execCryBadOpcode k s
  | .cryptoBulkPause k => Sys2Proof.Machine.execCryptoBulkPause k s
  | .clear ini slot => Sys2Proof.Machine.execClear ini slot s
  | .load ini slot => Sys2Proof.Machine.execLoad ini slot s
  | .derive ini slot ds src => Sys2Proof.Machine.execDerive ini slot ds src s
  | .store ini slot => Sys2Proof.Machine.execStore ini slot s
  | .unstore ini slot => Sys2Proof.Machine.execUnstore ini slot s
  | .hkLoad ini slot => Sys2Proof.Machine.execHkLoad ini slot s
  | .pubkey ini slot => Sys2Proof.Machine.execPubkey ini slot s
  | .extend ini arg => Sys2Proof.Machine.execExtend ini arg s
  | .attest ini => Sys2Proof.Machine.execAttest ini s
  | .dbgChal ini => Sys2Proof.Machine.execDbgChal ini s
  | .dbgResp ini level => Sys2Proof.Machine.execDbgResp ini level s
  | .kvCmdInvalid ini => Sys2Proof.Machine.execKvCmdInvalid ini s
  | .kvCommandComplete => Sys2Proof.Machine.execKvCommandComplete s
  | .tamperAlarm c live stuck => Sys2Proof.Machine.execTamperAlarm c live stuck s
  | .dsOffBlow => Sys2Proof.Machine.execDsOffBlow s
  | .quarantineStatus => Sys2Proof.Machine.execQuarantineStatus s
  | .quarantineAttest nonce => Sys2Proof.Machine.execQuarantineAttest nonce s
  | .quarantineRecovery t => Sys2Proof.Machine.execQuarantineRecovery t s
  | .faultRaise r => Sys2Proof.Machine.execFaultRaise r s
  | .restartTimeout c => Sys2Proof.Machine.execRestartTimeout c s
  | .quietPeriodExpiry k => Sys2Proof.Machine.execQuietPeriodExpiry k s
  | .ackWindowClose k => Sys2Proof.Machine.execAckWindowClose k s
  | .clr ini k v => Sys2Proof.Machine.execClr ini k v s
  | .ack ini k v => Sys2Proof.Machine.execAck ini k v s
  | .rclr ini k v => Sys2Proof.Machine.execRclr ini k v s
  | .fcuTest ini v => Sys2Proof.Machine.execFcuTest ini v s
  | .fcuLogPop ini => Sys2Proof.Machine.execFcuLogPop ini s
  | .fcuSelfCheckFail => Sys2Proof.Machine.execFcuSelfCheckFail s
  | .severityLineDisagree => Sys2Proof.Machine.execSeverityLineDisagree s
  | .pinReadback faultN alive => Sys2Proof.Machine.execPinReadback faultN alive s
  | .status ch arg fresh mac => Sys2Proof.Machine.execStatus ch arg fresh mac s
  | .limpOff ch arg fresh mac => Sys2Proof.Machine.execLimpOff ch arg fresh mac s
  | .limpOn ch arg fresh mac => Sys2Proof.Machine.execLimpOn ch arg fresh mac s
  | .limpClear ch arg fresh mac => Sys2Proof.Machine.execLimpClear ch arg fresh mac s
  | .allOff ch arg fresh mac => Sys2Proof.Machine.execAllOff ch arg fresh mac s
  | .limpBadOpcode op ch arg fresh mac => Sys2Proof.Machine.execLimpBadOpcode op ch arg fresh mac s
  | .responderBlockExpiry => Sys2Proof.Machine.execResponderBlockExpiry s
  | .respFreshWrite ini v => Sys2Proof.Machine.execRespFreshWrite ini v s
  | .planCheck ini v => Sys2Proof.Machine.execPlanCheck ini v s
  | .planCheckComplete => Sys2Proof.Machine.execPlanCheckComplete s
  | .frameTransmitEnd p => Sys2Proof.Machine.execFrameTransmitEnd p s
  | .chatterLevelSample n => Sys2Proof.Machine.execChatterLevelSample n s
  | .transceiverOverTemperature n hot => Sys2Proof.Machine.execTransceiverOverTemperature n hot s
  | .duplicateNodeId p => Sys2Proof.Machine.execDuplicateNodeId p s

end Sys2Proof.Machine
end

