-- ==== Sys2Proof/Machine/Tick.lean ====
section
/-!
DEFINITION. Machine/Tick.lean: what the block does by itself when no command waits (assumption 1): it delivers
what is on its way, one thing at a time, and otherwise lets one tick of 2 ns pass.
-/

namespace Sys2Proof.Machine

/-- One tick passes: conditions are noted, lines are looked at, the clocks count, ALIVE toggles, the timer interrupts
follow time, preemptions that waited for a fragment are made, the cores and their debugger run, and held MRAM writes
proceed (R232, R378, R426, R470, R490, R500, R646, R648). -/
def Blk.passTick (b : Blk) (m : List Host.Cell) : Blk × List Host.Cell :=
  let r := b.condMark.aplic.tick.aliveTick.timers.preemptAll.coresTick.drainStall m
  r.1.drainDma r.2

/-- The block with no command waiting. -/
def Blk.idle (b : Blk) (m : List Host.Cell) : Blk × List Host.Cell :=
  if b.fcuIn ≠ [] then (b.raiseNext, m)
  else if b.wakeDue ≠ [] then (b.wakeNext, m)
  else b.passTick m

end Sys2Proof.Machine
end

