-- ==== Sys2Proof/Machine/Step.lean ====
section
/-!
DEFINITION. Machine/Step.lean: one step takes the command at the front of the queue; on an empty queue the block
delivers what is on its way or lets one tick pass (assumption 1).
-/

namespace Sys2Proof.Machine

/-- One step of the block. -/
def step (s : State) : Host.Outcome State Fault Refusal :=
  match s.pending with
  | [] =>
    let r := s.blk.idle s.mem
    .next { blk := r.1, mem := r.2, pending := [] }
  | c :: rest => exec c { blk := s.blk, mem := s.mem, pending := rest }

/-- The state with command `c` at the front of its queue. -/
def State.withCommand (s : State) (c : Instr) : State :=
  { blk := s.blk, mem := s.mem, pending := c :: s.pending }

/-- The state with the command that a word spells at the front of its queue. -/
def State.withFetchWord (s : State) (nbits w : Nat) : State :=
  match Sys2Proof.decodeTableWord nbits w with
  | some c => s.withCommand c
  | none => s

end Sys2Proof.Machine
end

