-- ==== Sys2Proof/WellFormed.lean ====
section
/-!
DEFINITION. WellFormed.lean: which commands the hardware has. A command is well formed when every unit it
names exists and its size is one the hardware has; a command that is not well formed cannot be sent.
-/

namespace Sys2Proof

/-- Harts 0 to 7 are the application cores, 16 to 23 the safety cores SC0 to SC7 (R469). -/
def appHart (h : Nat) : Bool := h < 8
def safetyHart (h : Nat) : Bool := 16 ≤ h && h < 24
def hartNo (h : Nat) : Bool := appHart h || safetyHart h

/-- Does gate number `g` exist (R541)? -/
def gateNo (g : Nat) : Bool :=
  g ≤ 28 || (0x20 ≤ g && g ≤ 0x2f) || (0x30 ≤ g && g ≤ 0x3b) || (0x40 ≤ g && g ≤ 0x43) ||
    (0x48 ≤ g && g ≤ 0x4b) || g == 0x50

/-- Buffer `q` of controller `n`: 64 classic buffers each, 8 XL buffers on CAN0 to CAN3 (R397, R398). -/
def bufferNo (n q : Nat) : Bool := n < 16 && (q < 64 || (q < 72 && n < 4))

/-- Unit `u` of device kind `src`: host queue pairs (1 and 2), CVU rings and CRY queues (3 and 4). -/
def deviceNo (src u : Nat) : Bool := ((src == 1 || src == 2) && u < 128) || ((src == 3 || src == 4) && u < 16)

/-- Page `p` holds an interrupt file (R488). -/
def filePage (p : Nat) : Bool :=
  if 0x44100 ≤ p ∧ p < 0x44200 then hartNo (p - 0x44100)
  else 0x44200 ≤ p && p < 0x44240 && (p - 0x44200) % 8 ≤ 4

/-- Message source `src` of the field has an enable register (R583). -/
def messageNo (src : Nat) : Bool := src < 0xf0 || src == 0x101 || src == 0x102 || src == 0x104 || src == 0x105

/-- The sizes of an access in bytes (R481). -/
def sizeNo (n : Nat) : Bool := n == 1 || n == 2 || n == 4 || n == 8

/-- Does the hardware have the command? -/
def wellFormed : Instr → Bool
  | .registerWrite _ _ width _ => sizeNo (width / 8) && width % 8 == 0
  | .vkeepPowerUp => true
  | .uhReady => true
  | .railGoodRise => true
  | .kcStart _ _ _ => true
  | .railLoss => true
  | .vkeepLoss => true
  | .fieldLinkClockLoss => true
  | .alignmentPulse => true
  | .crystalStop => true
  | .pwrReqRun _ => true
  | .pwrReqIdle _ => true
  | .pwrReqStandby _ _ => true
  | .pwrReqSleep _ => true
  | .pwrReqKcReset _ => true
  | .pwrReqInvalid _ _ => true
  | .powerTransitionComplete => true
  | .idleWakeInterrupt => true
  | .rtcSecRead _ => true
  | .rtcSecWrite _ _ => true
  | .rtcAlarmFire => true
  | .alarmEnable _ _ => true
  | .nop _ ch => ch < 192
  | .off _ ch => ch < 192
  | .on _ ch => ch < 192
  | .pwm _ ch _ => ch < 192
  | .cap _ ch => ch < 192
  | .duty _ ch _ => ch < 192
  | .cancel _ ch => ch < 192
  | .cmdReservedOpcode _ ch _ _ => ch < 192
  | .chTcmdTimeWrite _ ch _ => ch < 192
  | .timedOff _ ch _ => ch < 192
  | .timedOn _ ch _ => ch < 192
  | .timedPwm _ ch _ _ => ch < 192
  | .timedCap _ ch _ => ch < 192
  | .timedDuty _ ch _ _ => ch < 192
  | .timedReservedOpcode _ ch _ _ => ch < 192
  | .timedCommandDue n => n < 12
  | .leaveRequestSend n => n < 12
  | .leaveGrantArrival ch => ch < 192
  | .leaveRefusalArrival ch => ch < 192
  | .uhLeaveRequest => true
  | .inrushPhaseEnd ch => ch < 192
  | .channelAdopt _ ch _ _ => ch < 192
  | .pwmPeriodBoundary n g => n < 12 && g < 4
  | .pwmRisingEdge ch => ch < 192
  | .pwmFallingEdge ch => ch < 192
  | .pgPeriodWrite _ n g _ => n < 12 && g < 4
  | .pgAnchorWrite _ n g _ => n < 12 && g < 4
  | .chPhaseWrite _ ch _ => ch < 192
  | .chargeLevelReached ch => ch < 192
  | .chargeComplete ch => ch < 192
  | .chargeTimeout ch => ch < 192
  | .shortCircuitDetect ch => ch < 192
  | .overTemperatureDetect ch _ => ch < 192
  | .autoRestart ch => ch < 192
  | .wireModelUpdate n => n < 12
  | .bankLowSet n => n < 12
  | .bankLowClear n => n < 12
  | .bankResume n => n < 12
  | .latchClear _ ch => ch < 192
  | .retryClear _ ch => ch < 192
  | .retryQuietExpiry ch => ch < 192
  | .onStateOpenLoad ch => ch < 192
  | .offStateTestStart ch => ch < 192
  | .offStateOpenLoad ch => ch < 192
  | .offStateOpenLoadEnd ch => ch < 192
  | .ambWrite _ n _ => n < 12
  | .ambStale n => n < 12
  | .keepAlive _ _ => true
  | .keeperTimeout => true
  | .sequencerStall n _ => n < 12
  | .configCrcCheck n _ _ => n < 12
  | .currentSample n _ _ => n < 12
  | .windowClose ch => ch < 192
  | .wcfgWrite _ ch _ => ch < 192
  | .dieMeasPhaseWrite _ n _ => n < 12
  | .energyClear _ ch => ch < 192
  | .dissipationReport => true
  | .inputRawEdge n _ => n < 48
  | .debounceExpiry n => n < 48
  | .chatterWindowEnd n => n < 48
  | .stuckDetect n => n < 48
  | .stormPeriodExpiry n => n < 48
  | .wakeAcknowledge _ n _ => n < 48
  | .analogInputUpdate n _ => n < 48
  | .interruptEnableWrite _ src _ => messageNo src
  | .evaluationRound => true
  | .kcPowerMeasurement _ => true
  | .revocationAction => true
  | .thermalModelUpdate _ _ _ _ => true
  | .budgetReport _ _ => true
  | .frequencyStepRequest _ k _ => k < 16
  | .mramBulkWriteRequest _ k _ => k < 16
  | .slotRequestInvalid _ k _ => k < 16
  | .slotRelease _ k => k < 16
  | .periodicRelease n i => n < 8 && i < 1024
  | .eventRelease n _ => n < 8
  | .dispRelease _ n _ => n < 8
  | .dispatch n => n < 8
  | .deferralBoundDispatch n => n < 8
  | .dispEnd _ n => n < 8
  | .dispTableWrite _ n idx w _ => n < 8 && idx < 1024 && w < 4
  | .fabricEnableWrite _ _ => true
  | .fabricSlot _ _ => true
  | .resequenceTimeout o p => o < 29 && p < 29
  | .frameTransmitStart p _ => p < 29
  | .linkDownReport p => p < 29
  | .linkUpReport p => p < 29
  | .graceExpiry o tc => o < 29 && tc < 8
  | .spoilAuditStart => true
  | .spoilAuditComplete _ _ _ => true
  | .frameLookup p _ _ _ => p < 29
  | .agingSweep => true
  | .recoveryFunctionReset n => n < 512
  | .macReadEntry _ ix => ix < 32768
  | .macWriteEntry _ ix => ix < 32768
  | .macSearch _ ix => ix < 32768
  | .macInsert _ ix => ix < 32768
  | .macDelete _ ix => ix < 32768
  | .macFlushPort _ ix => ix < 32768
  | .macCmdInvalid _ ix => ix < 32768
  | .macCmdComplete => true
  | .seedWrite _ _ => true
  | .gateEntryBoundary p => p < 29
  | .qbvChange _ p => p < 29
  | .gateListSwitch p => p < 29
  | .cgFrameReceive => true
  | .phyLinkChange p _ => p < 26
  | .linkTrainingDone p _ => p < 4
  | .trainingRetry p => p < 4
  | .frameReceiveEnd p _ _ _ => p < 26
  | .pauseExpiry p tc => p < 26 && tc < 8
  | .pauseTransmit p => p < 26
  | .pauseRefresh p => p < 26
  | .launchTimeReached p _ => p < 29
  | .transmitUnderrun p => p < 26
  | .ctDecay p => p < 26
  | .ctReset _ p _ => p < 26
  | .preemptionVerify p _ => p < 12
  | .tc10SleepRequest _ p _ => p < 20
  | .tc10SleepAccepted p => p < 20
  | .tc10SleepTimeout p => p < 20
  | .tc10PartnerSleep p => p < 20
  | .tc10WakePulse p => p < 20
  | .tc10WakeRequest _ p _ => p < 20
  | .qpTxTailWrite _ q _ => q < 128
  | .hostTxFrame hp => hp < 2
  | .hostLaunchPass hp => hp < 2
  | .hostRxFrame hp => hp < 2
  | .qpEnableWrite _ q _ => q < 128
  | .qpCoalesceTimeout q => q < 128
  | .canEnable _ n _ => n < 16
  | .canDisable _ n _ => n < 16
  | .canIntegrationDone n => n < 16
  | .canRecover _ n _ => n < 16
  | .canRecoveryDone n _ => n < 16
  | .txReq _ n q _ => bufferNo n q
  | .abort _ n q _ => bufferNo n q
  | .mbCodeWrite _ n q _ => bufferNo n q
  | .mbLockWrite _ n q _ => bufferNo n q
  | .canFrameStart n => n < 16
  | .canTxComplete n _ => n < 16
  | .canArbitrationLost n => n < 16
  | .canFrameReceive n _ => n < 16
  | .canBusError n _ _ => n < 16
  | .canFifoPop _ n => n < 16
  | .txdDominantTimeout lin n => if lin then n < 12 else n < 16
  | .transceiverWake n _ => n < 16
  | .linSlotStart n => n < 12
  | .linHeaderReceive n _ _ _ => n < 12
  | .linResponseComplete n _ _ _ _ => n < 12
  | .linResponseTimeout n => n < 12
  | .linResponseUpdate _ n id _ => n < 12 && id < 64
  | .sleepCmd _ n _ => n < 12
  | .linIdleTimeout n => n < 12
  | .linWakePulse n => n < 12
  | .wakeReq _ n _ => n < 12
  | .linBusDominant n _ => n < 12
  | .timeBaseWrap x => x < 2
  | .tbOffsWrite _ x _ => x < 2
  | .tbStepWrite _ x _ => x < 2
  | .set _ x => x < 2
  | .clampTimeout x => x < 2
  | .tbNsRead _ x => x < 2
  | .timeCapture _ _ => true
  | .ptsPop _ p => p < 26
  | .pulseEnable _ p _ => p < 2
  | .pulseRise p => p < 2
  | .pulseFall p => p < 2
  | .arm _ _ => true
  | .armStop _ _ => true
  | .tallyStrobe => true
  | .timerInterrupt h kind _ => hartNo h && kind < 3 && (kind == 0 || appHart h)
  | .ringEnable _ n _ => n < 16
  | .ringFrameReceive n _ => n < 16
  | .ringTypTimer n => n < 16
  | .ringMaxTimeout n => n < 16
  | .ringWbsExpiry n => n < 16
  | .ringEngineBusOff n => n < 16
  | .ringEngineRecovery n => n < 16
  | .consentWrite _ _ => true
  | .ledgerClear _ => true
  | .kcQuiescent => true
  | .wakeEvent => true
  | .lateWakeRestart => true
  | .failSafeSleep => true
  | .pop _ => true
  | .release _ h _ => hartNo h
  | .reset _ h _ => hartNo h
  | .hartCmdNone _ h => hartNo h
  | .memoryLoad _ _ _ n _ => sizeNo n
  | .memoryStore _ _ n _ _ => sizeNo n
  | .memoryAtomic _ op _ n _ _ => op < 11 && (n == 4 || n == 8)
  | .potFetch => true
  | .dramClearComplete => true
  | .fence h => hartNo h
  | .fenceI h => hartNo h
  | .fenceField h rd => hartNo h && rd < 32
  | .fenceFieldComplete h => hartNo h
  | .scrubPass k _ _ => k == 3 || k == 5
  | .seteipnumWrite _ p _ _ => filePage p
  | .msiDelivery q => q < 128
  | .debugReset => true
  | .debugHaltRequest h => hartNo h
  | .recutBegin h => hartNo h
  | .recutEnd h => hartNo h
  | .recutMode h _ => hartNo h
  | .passOneEnd h _ => safetyHart h
  | .passOneCycleLimit h => safetyHart h
  | .echoLogFull h => safetyHart h
  | .passTwoComplete h => safetyHart h
  | .sliceMismatch h _ _ _ _ _ _ _ => safetyHart h
  | .commitComplete h => safetyHart h
  | .gate h _ _ _ _ => hartNo h
  | .gateRet h _ => hartNo h
  | .keystone h => hartNo h
  | .hvctxWrite h _ => hartNo h
  | .potEnable _ _ => true
  | .potInvalidate _ _ => true
  | .potInvalidateDone => true
  | .gateRequest _ g _ => gateNo g
  | .gateRelease _ g _ => gateNo g
  | .gateChangeComplete g => gateNo g
  | .gateQuiesceTimeout g => gateNo g
  | .deviceDmaRequest src u _ _ _ _ _ => deviceNo src u
  | .pageWalkComplete => true
  | .dmaCompletion => true
  | .atuInvalidate _ _ _ _ => true
  | .atuInvalidateDone => true
  | .stop _ c => c < 256
  | .start _ c => c < 256
  | .bump _ c => c < 256
  | .remove _ c => c < 256
  | .ctxOpIgnored _ c => c < 256
  | .ctxOpDone c => c < 256
  | .drainTimeout c => c < 256
  | .sync _ c _ => c < 256
  | .syncDone c => c < 256
  | .fieldWriteApply _ _ => true
  | .applyNotice _ => true
  | .readCompletion _ _ => true
  | .completionTimeout _ => true
  | .linkFrameResend l _ => l < 13
  | .fieldLr h _ => hartNo h
  | .fieldSc h _ _ => hartNo h
  | .fieldAmo h op _ _ => hartNo h && 2 ≤ op && op < 11
  | .reservationTimeout k => k < 16
  | .fieldInterruptMessage _ => true
  | .cvuRingTailWrite _ r _ => r < 16
  | .gen k => k < 4
  | .append k => k < 4
  | .check k => k < 4
  | .strip k => k < 4
  | .cvuBadArgument k => k < 4
  | .ringDisable _ r _ => r < 16
  | .gcmEnc k => k < 4
  | .gcmDec k => k < 4
  | .cmacGen k => k < 4
  | .cmacVer k => k < 4
  | .sha384 k => k < 4
  | .sign k => k < 4
  | .verify k => k < 4
  | .cryBadOpcode k => k < 4
  | .cryptoBulkPause k => k < 4
  | .clear _ _ => true
  | .load _ _ => true
  | .derive _ _ _ _ => true
  | .store _ _ => true
  | .unstore _ _ => true
  | .hkLoad _ _ => true
  | .pubkey _ _ => true
  | .extend _ _ => true
  | .attest _ => true
  | .dbgChal _ => true
  | .dbgResp _ _ => true
  | .kvCmdInvalid _ => true
  | .kvCommandComplete => true
  | .tamperAlarm c _ _ => c < 8
  | .dsOffBlow => true
  | .quarantineStatus => true
  | .quarantineAttest _ => true
  | .quarantineRecovery _ => true
  | .faultRaise r => r.all (fun x => x.src < 384)
  | .restartTimeout c => c < 256
  | .quietPeriodExpiry k => k < 384
  | .ackWindowClose k => k < 384
  | .clr _ k _ => k < 384
  | .ack _ k _ => k < 384
  | .rclr _ k _ => k < 384
  | .fcuTest _ _ => true
  | .fcuLogPop _ => true
  | .fcuSelfCheckFail => true
  | .severityLineDisagree => true
  | .pinReadback _ _ => true
  | .status _ _ _ _ => true
  | .limpOff _ _ _ _ => true
  | .limpOn _ _ _ _ => true
  | .limpClear _ _ _ _ => true
  | .allOff _ _ _ _ => true
  | .limpBadOpcode _ _ _ _ _ => true
  | .responderBlockExpiry => true
  | .respFreshWrite _ _ => true
  | .planCheck _ _ => true
  | .planCheckComplete => true
  | .frameTransmitEnd p => p < 29
  | .chatterLevelSample n => n < 48
  | .transceiverOverTemperature n _ => n < 16
  | .duplicateNodeId p => 20 ≤ p && p < 24

end Sys2Proof
end

