-- ==== Sys2Proof/Safety.lean ====
section
/-!
DEFINITION. Safety.lean: what a safe run is, in the terms the statements use.
-/

namespace Sys2Proof.Machine

/-- The state with block `b`: memory and the queue are as before. -/
def State.withBlk (s : State) (b : Blk) : State := { blk := b, mem := s.mem, pending := s.pending }

/-- The state with a block and a memory: the queue is as before. -/
def State.withMem (s : State) (r : Blk × List Host.Cell) : State := { blk := r.1, mem := r.2, pending := s.pending }

/-- The block after an access has been accepted. -/
def Blk.acked (b : Blk) : Blk := { b with resp := .done }

/-- Is a read by `i` of the register at `a` accepted everywhere on its way, and performed at once? -/
def Blk.readable (b : Blk) (i : Init) (a : Nat) : Bool :=
  b.judge i a false == .accept && b.copyJudge i a && (b.recutInit i).isNone

/-- Every register outside `l` holds in `c` what it holds in `b`. -/
def RegsSame (b c : Blk) (l : List Nat) : Prop := ∀ a, a ∉ l → c.reg a = b.reg a

/-- The command completes, and registers outside `l`, memory and the rest of the queue are as before. -/
def ChangesOnly (c : Instr) (s : State) (l : List Nat) : Prop :=
  ∃ t, exec c s = .next t ∧ RegsSame s.blk t.blk l ∧ t.mem = s.mem ∧ t.pending = s.pending

/-- Every byte of memory outside the `n` bytes from `a` on is in `m'` as in `m`. -/
def BytesSame (m m' : List Host.Cell) (a n : Nat) : Prop :=
  ∀ x, x < a ∨ a + n ≤ x → memByte m' x = memByte m x

/-- The invariant that every step keeps: memory is in its canonical form (assumption 5). -/
def State.Inv (s : State) : Prop := Memory.wf s.mem

/-- Every waiting command is one that the hardware has. -/
def State.QueueOk (s : State) : Prop := ∀ c ∈ s.pending, wellFormed c = true

/-- The conditions under which an access to memory is performed at once: its initiator may make it (R469), the region
accepts it (R475, R534), it is aligned (R481), no older access to its bytes waits (R483) and the core is not in Recut
mode. -/
def Blk.Accepts (b : Blk) (i : Init) (k : Acc) (addr n : Nat) : Prop :=
  (n = 1 ∨ n = 2 ∨ n = 4 ∨ n = 8) ∧ addr % (if k = .fetch then 2 else n) = 0 ∧ isDevice addr = false ∧
  b.recutInit i = none ∧ b.hvStop i = false ∧ b.pmpOk i k addr n = true ∧
  b.accBehind { init := i, kind := k, addr := addr, size := n } = false ∧
  (k = .fetch → fetchBarred i addr = false) ∧
  ∃ sec ctx, b.attr i = some (sec, ctx) ∧ b.judgeFixed sec ctx k addr (initSc i) = .accept

/-- Does pass one of hart `h` take an instruction now: it has not ended, the read before it has returned, and the slice
is not a re-run (R500, R508)? -/
abbrev Blk.atInstr (b : Blk) (h : Nat) : Prop :=
  b.passOne h = true ∧ b.phase h = 2 ∧ b.waits h = false ∧ (b.hartOf h).redo = []

/-- Hart state `x` when pass one of a new slice has run the instructions `l`, whose outputs returned `rets`. -/
def Hart.ranSlice (x : Hart) (rets : Sparse Nat) (l : List RegOp) : Hart :=
  let p := l.foldl (Pass.served (fun k => BitVec.ofNat 32 (rets.get (fun _ => 0) k))) ⟨x.p1, []⟩
  let es := p.outs.reverse
  { x.startSlice with
    p1 := p.r
    prog := l
    echo := es
    rets := rets
    sigs := (List.range es.length).foldl (fun m k =>
      m.set (fun _ => 0) k ((es[k]?).getD ⟨0, 0, 0, 0⟩).sig) [] }

/-- The commands that can change memory: accesses of harts and devices, commits, what boot loads, and the supply. -/
def mayWriteMemory : Instr → Bool
  | .vkeepPowerUp | .vkeepLoss | .kcStart _ _ _ | .memoryStore _ _ _ _ _ | .memoryAtomic _ _ _ _ _ _ | .potFetch => true
  | .commitComplete _ | .deviceDmaRequest _ _ _ _ _ _ _ | .pageWalkComplete | .ctxOpDone _ => true
  | .hostTxFrame _ | .hostRxFrame _ | .frameTransmitEnd _ | .canTxComplete _ _ | .canFrameReceive _ _ => true
  | .gen _ | .append _ | .check _ | .strip _ | .cvuBadArgument _ => true
  | .gcmEnc _ | .gcmDec _ | .cmacGen _ | .cmacVer _ | .sha384 _ | .sign _ | .verify _ | .cryBadOpcode _ => true
  | .kvCommandComplete | .tamperAlarm _ _ _ => true
  | _ => false

end Sys2Proof.Machine
end

