-- ==== Sys2Proof/Certificates/Slice0/Obligations.lean ====
section
/-!
DEFINITION. Certificates/Slice0/Obligations.lean: the statements for the provers. First the rules of the machine as a
whole and of single registers; then, family by family, what every command of the opcode table does: the next
state it ends in, with every field of the block not named in it, memory and the queue as before.
-/

open Sys2Proof Sys2Proof.Machine

/-! ## Rules -/

/-- A step takes the command at the front of the queue: it is `exec` of that
command with the rest of the queue. -/
def Obligations.StepRunsFrontCommand : Prop :=
  ∀ (c : Instr) (s : State), step (s.withCommand c) = exec c s

/-- The model's choice (assumption 1): with no command waiting a step delivers the next raising on its way, else the
next wake, else lets one tick pass. -/
def Obligations.IdleStep : Prop :=
  ∀ s : State, s.pending = [] →
    (s.blk.fcuIn ≠ [] → step s = .next (s.withBlk s.blk.raiseNext)) ∧
    (s.blk.fcuIn = [] → s.blk.wakeDue ≠ [] → step s = .next (s.withBlk s.blk.wakeNext)) ∧
    (s.blk.fcuIn = [] → s.blk.wakeDue = [] → step s = .next (s.withMem (s.blk.passTick s.mem)))

/-- Every command that the hardware has completes, and leaves the rest of the queue alone. -/
def Obligations.WellFormedCommandsComplete : Prop :=
  ∀ (c : Instr) (s : State), wellFormed c = true → ∃ t, exec c s = .next t ∧ t.pending = s.pending

/-- A command that names a unit the hardware does not have stops the model with the fault of that name. -/
def Obligations.IllFormedCommandsStop : Prop :=
  ∀ (c : Instr) (s : State), wellFormed c = false → exec c s = .fault .noSuchUnit

/-- No run stops while its queue holds only commands that the hardware has: `n` steps take the first `n` of them. -/
def Obligations.RunsTakeTheQueueInOrder : Prop :=
  ∀ (n : Nat) (s : State), s.QueueOk → ∃ t, Host.Core.run Sys2Proof.core n s = .next t ∧ t.pending = s.pending.drop n

/-- Every step keeps memory in its canonical form, from every state that has it. -/
def Obligations.MemoryStaysCanonical : Prop :=
  ∀ s t : State, s.Inv → step s = .next t → t.Inv

/-- Memory is in its canonical form after reset, and no command waits. -/
def Obligations.ResetIsCanonical : Prop := State.reset.Inv ∧ State.reset.QueueOk

/-- Only the commands of `mayWriteMemory` change memory. -/
def Obligations.OnlyMemoryCommandsWriteMemory : Prop :=
  ∀ (c : Instr) (s t : State), mayWriteMemory c = false → exec c s = .next t → t.mem = s.mem

/-- A store or an atomic changes no byte outside its own bytes, and a load or a fetch changes no byte. -/
def Obligations.AccessesChangeOnlyTheirBytes : Prop :=
  ∀ (i : Init) (addr n v op : Nat) (fetch : Bool) (err : Option (Nat × Bool)) (s t : State),
    (exec (.memoryStore i addr n v err) s = .next t → BytesSame s.mem t.mem addr n) ∧
    (exec (.memoryAtomic i op addr n v err) s = .next t → BytesSame s.mem t.mem addr n) ∧
    (exec (.memoryLoad i fetch addr n err) s = .next t → t.mem = s.mem)

/-- An accepted store outside MRAM writes its bytes, lowest address least significant; an accepted load without a
memory error reads them; a fetch likewise. An accepted atomic outside MRAM without a memory error (R482): LR answers the
bytes and reserves their 64-byte block; SC stores and answers 0 where the reservation of the block stands, else answers
1, and leaves none; an AMO answers the old bytes and stores its result. No register changes. -/
def Obligations.AcceptedAccess : Prop :=
  ∀ (i : Init) (addr n v : Nat) (s : State),
    (s.blk.Accepts i .write addr n → regionOf addr ≠ some .mram →
      ∃ t, exec (.memoryStore i addr n v none) s = .next t ∧ t.mem = memWrite s.mem addr (leBytes n v) ∧
        memLe t.mem addr n = v % 2 ^ (8 * n) ∧ t.blk.resp = .done ∧ t.blk.regs = s.blk.regs ∧
        t.pending = s.pending) ∧
    (s.blk.Accepts i .read addr n → s.blk.poisoned addr n = false →
      exec (.memoryLoad i false addr n none) s =
        .next (s.withBlk { s.blk with resp := .data (memLe s.mem addr n) })) ∧
    (s.blk.Accepts i .fetch addr n → s.blk.poisoned addr n = false →
      exec (.memoryLoad i true addr n none) s =
        .next (s.withBlk { s.blk with resp := .data (memLe s.mem addr n) })) ∧
    (∀ op, s.blk.Accepts i .atomic addr n → n = 4 ∨ n = 8 → op < 11 → s.blk.poisoned addr n = false →
      regionOf addr ≠ some .mram →
      ∃ t, exec (.memoryAtomic i op addr n v none) s = .next t ∧ t.blk.regs = s.blk.regs ∧ t.pending = s.pending ∧
        (op = 0 → t.blk.resp = .data (memLe s.mem addr n) ∧ t.mem = s.mem ∧
          ∀ h, i = .hart h → (t.blk.hartOf h).resv = some (addr / 64)) ∧
        (op = 1 → s.blk.resvOf i = some (addr / 64) →
          t.blk.resp = .data 0 ∧ t.mem = memWrite s.mem addr (leBytes n (v % 2 ^ (8 * n)))) ∧
        (op = 1 → s.blk.resvOf i ≠ some (addr / 64) → t.blk.resp = .data 1 ∧ t.mem = s.mem) ∧
        (op = 1 → t.blk.resvOf i = none) ∧
        (2 ≤ op → t.blk.resp = .data (memLe s.mem addr n) ∧
          t.mem = memWrite s.mem addr (leBytes n (amo op n (memLe s.mem addr n) (v % 2 ^ (8 * n))))))

/-- R23: an aligned 32-bit access to an address that no table assigns is answered with a bus error and has no
effect, for every initiator and context that its PMP lets make it; a hart takes the bus error as an exception (R481), a
core in Recut mode as a trap of pass one (R507, R510). -/
def Obligations.UnassignedAddressIsABusError : Prop :=
  ∀ (i : Init) (addr v : Nat) (s : State), isDevice addr = true → addr % 4 = 0 → isFileReg addr = false →
    assigned addr = false → s.blk.attr i ≠ none → s.blk.hvStop i = false →
    (∀ h, s.blk.recutInit i = some h → s.blk.atInstr h ∧ s.blk.heldAt h addr 4 = false) →
    (s.blk.pmpOk i .write addr 4 = true →
      exec (.registerWrite i addr 32 v) s =
        .next (s.withBlk (({ s.blk with resp := .busError } : Blk).except i 7 addr .busError))) ∧
    (s.blk.pmpOk i .read addr 4 = true →
      exec (.memoryLoad i false addr 4 none) s =
        .next (s.withBlk (({ s.blk with resp := .busError } : Blk).except i 5 addr .busError)))

/-- R6: an access narrower than 32 bits, or one that is not aligned, is answered with a bus error and has no effect.
A hart takes the store access-fault exception (R481): a safety core in Single mode goes on at its handler in M-mode,
with the cause, the address and its interrupt enable saved, and one in Recut mode takes it as a trap of pass one (R507,
R510). The pc saved is a free value (assumption 106). -/
def Obligations.NarrowAccessIsABusError : Prop :=
  ∀ (i : Init) (addr v w : Nat) (s : State), s.blk.attr i ≠ none → s.blk.hvStop i = false →
    w = 8 ∨ w = 16 ∨ (w = 32 ∧ addr % 4 ≠ 0) →
    (∀ h, s.blk.recutInit i = some h → s.blk.atInstr h) →
    exec (.registerWrite i addr w v) s = .next (s.withBlk (s.blk.except i 7 addr .busError)) ∧
    (∀ h, i = .hart h → isSafety h = true → s.blk.runs h = true → s.blk.recut h = false →
      (s.blk.except i 7 addr .busError).regs = s.blk.regs ∧ (s.blk.except i 7 addr .busError).resp = .busError ∧
      (let x := s.blk.hartOf h
       let y := (s.blk.except i 7 addr .busError).hartOf h
       y.c.get 0x342 = 7 ∧ y.c.get 0x343 = addr % 2 ^ 32 ∧ y.c.mpp = x.prv ∧ y.c.mpie = x.mie ∧ y.mie = false ∧
       y.prv = 3 ∧ y.pc = x.c.get 0x305 / 4 * 4 ∧ y.w = x.w ∧ y.ctx = x.ctx))

/-- R8: what a write leaves in bit `k` of a register, by the type of the bit's field; the bits of no field and every
other register keep their values, and the write itself makes no bus error. -/
def Obligations.TypedWrite : Prop :=
  ∀ (b : Blk) (a : Nat) (v : W32) (r : RegSpec) (ix : List Nat), locate a = some (r, ix) →
    (∀ f ∈ r.fields, ∀ k, f.lo ≤ k → k ≤ f.hi →
      ((b.writeReg a v).reg a).getLsbD k =
        match f.ty with
        | .rw => v.getLsbD k
        | .ro => (b.reg a).getLsbD k
        | .wo => (b.reg a).getLsbD k
        | .w1c => (b.reg a).getLsbD k && !v.getLsbD k
        | .w1s => (b.reg a).getLsbD k || v.getLsbD k
        | .rwl => if (b.lockOf a).getLsbD k then (b.reg a).getLsbD k else v.getLsbD k) ∧
    (∀ k, (∀ f ∈ r.fields, ¬(f.lo ≤ k ∧ k ≤ f.hi)) →
      ((b.writeReg a v).reg a).getLsbD k = (b.reg a).getLsbD k) ∧
    RegsSame b (b.writeReg a v) [a] ∧ (b.writeReg a v).resp = b.resp ∧ (b.writeReg a v).fcuIn = b.fcuIn

/-- A register write that its target accepts is the typed write of R8: three registers to which no rule gives
another effect. -/
def Obligations.RegisterWriteReachesItsTarget : Prop :=
  ∀ (i : Init) (v : Nat) (s : State), s.blk.recutInit i = none →
    ∀ a ∈ [R.SYSCTL_SCRUB, R.ICU_MSI_TGT 5, R.SWC_SA_CFG], s.blk.writable i a = true →
      exec (.registerWrite i a 32 v) s = .next (s.withBlk (s.blk.acked.writeReg a (BitVec.ofNat 32 v)))

/-- R529: a write that the owner rule refuses is answered with a bus error, entered in SEC_REF with reason 9, counted,
and raises FS194; nothing else changes. -/
def Obligations.OwnerRefusal : Prop :=
  ∀ (i : Init) (addr v : Nat) (sec : Bool) (ctx : Nat) (s : State), 0x40000000 ≤ addr → addr < 0x44000000 →
    addr % 4 = 0 → s.blk.attr i = some (sec, ctx) → s.blk.judge i addr true = .refuse (some 9) (some 194) →
    (∀ h, s.blk.recutInit i = some h → s.blk.atInstr h) →
    ∃ t, exec (.registerWrite i addr 32 v) s = .next t ∧ t.blk.resp = .busError ∧
      t.blk.fld F.SEC_REF_HI_REASON = 9 ∧ t.blk.fld F.SEC_REF_HI_CTX = ctx % 256 ∧
      t.blk.fld F.SEC_REF_LO_ADDR = addr ∧
      t.blk.fld F.SEC_REF_CNT_COUNT = (s.blk.fld F.SEC_REF_CNT_COUNT + 1) % 2 ^ F.SEC_REF_CNT_COUNT.width ∧
      t.blk.fcuIn = s.blk.fcuIn ++ [⟨194, some ctx, none, addr / 256⟩] ∧
      RegsSame s.blk t.blk [R.SEC_REF_LO, R.SEC_REF_HI, R.SEC_REF_CNT] ∧ t.mem = s.mem ∧ t.pending = s.pending

/-- R574: while no plan is applied, or NP_ALL is 1, every field-space write that the bridge takes is non-posted,
whatever the descriptors say: it enters the bridge as the last transaction, awaits its completion, and its initiator
waits. -/
def Obligations.FieldWriteNonPosted : Prop :=
  ∀ (i : Init) (addr v c : Nat) (sec : Bool) (s : State), 0x50000000 ≤ addr → addr < 0x54000000 → addr % 4 = 0 →
    s.blk.attr i = some (sec, c) → s.blk.recutInit i = none → s.blk.judge i addr true = .accept →
    s.blk.fld F.BPL_STATUS_APPLIED = 0 ∨ s.blk.fld F.BRG_CTL_NP_ALL = 1 → s.blk.tags < 32 →
    ∃ t x, exec (.registerWrite i addr 32 v) s = .next t ∧ t.blk.k.brg.tx = s.blk.k.brg.tx ++ [x] ∧
      x.posted = false ∧ x.write = true ∧ x.addr = addr ∧ x.val = v % 2 ^ 32 ∧ x.ctx = c ∧
      t.blk.resp = .pending ∧ t.mem = s.mem ∧ t.pending = s.pending

/-- R198: STUCK becomes 1 when the accepted level has been active continuously for STUCK_T, with DI_EVT.STUCK and
FS244; it returns to 0 when the accepted level becomes inactive, by debounce or, in CHATTER, by its sampling. -/
def Obligations.StuckInput : Prop :=
  ∀ (n : Nat) (s : State), n < 48 → s.blk.fld (F.DI_CFG_MODE n) = 1 →
    (s.blk.fld F.DI_GCFG_STUCK_T ≠ 0 → s.blk.fld (F.DI_STAT_LEVEL n) = 1 → s.blk.fld (F.DI_STAT_STUCK n) = 0 →
      (s.blk.inputOf n).actAt + s.blk.fld F.DI_GCFG_STUCK_T * tickSec ≤ s.blk.clk →
      ∃ t, exec (.stuckDetect n) s = .next t ∧ t.blk.fld (F.DI_STAT_STUCK n) = 1 ∧
        (t.blk.fld ⟨R.DI_EVT n, 6, 0⟩).testBit 3 = true ∧
        (∃ r ∈ t.blk.fcuIn ++ t.blk.held, r.src = 244) ∧
        RegsSame s.blk t.blk [R.DI_STAT n, R.DI_EVT n] ∧ t.mem = s.mem ∧ t.pending = s.pending) ∧
    (s.blk.fld (F.DI_STAT_LEVEL n) = 1 → s.blk.fld (F.DI_STAT_CHATTER n) = 0 → (s.blk.inputOf n).raw = false →
      (s.blk.inputOf n).rawAt + s.blk.diDeb n ≤ s.blk.clk →
      ∃ t, exec (.debounceExpiry n) s = .next t ∧ t.blk.fld (F.DI_STAT_STUCK n) = 0 ∧
        t.blk.fld (F.DI_STAT_LEVEL n) = 0 ∧ t.mem = s.mem ∧ t.pending = s.pending) ∧
    (s.blk.fld (F.DI_STAT_LEVEL n) = 1 → s.blk.fld (F.DI_STAT_CHATTER n) = 1 → (s.blk.inputOf n).raw = false →
      (s.blk.inputOf n).sampAt + 10 * tickMs ≤ s.blk.clk →
      ∃ t, exec (.chatterLevelSample n) s = .next t ∧ t.blk.fld (F.DI_STAT_STUCK n) = 0 ∧
        t.blk.fld (F.DI_STAT_LEVEL n) = 0 ∧ RegsSame s.blk t.blk [R.DI_STAT n] ∧ t.mem = s.mem ∧ t.pending = s.pending)

/-- R248: a write of a table entry that is ready or running is ignored and sets WR_IGN; but the write of the word at
0x0C that sets EN (bit 27) to 0 is made and removes the task from the ready set. Any other entry takes the write. -/
def Obligations.TableWriteAtRunTime : Prop :=
  ∀ (i : Init) (n idx w : Nat) (v : W32) (s : State), n < 8 → idx < 1024 → w < 4 →
    s.blk.writable i (R.DISP_ENT n idx w) = true → s.blk.ctxSecure (s.blk.ownOf 0x01 2).ctx = true →
    (let busy := idx ∈ (s.blk.dispOf n).ready ∨
       (s.blk.fld (F.DISP_STAT_RUNNING n) ≠ 0 ∧ s.blk.fld (F.DISP_STAT_RUN_IDX n) = idx)
     (busy → ¬(w = 3 ∧ v.getLsbD 27 = false) →
        exec (.dispTableWrite i n idx w v) s = .next (s.withBlk (s.blk.acked.put (F.DISP_STAT_WR_IGN n) 1))) ∧
     (busy → w = 3 → v.getLsbD 27 = false →
        ∃ t, exec (.dispTableWrite i n idx w v) s = .next t ∧
          (t.blk.dispOf n).ready = (s.blk.dispOf n).ready.erase idx ∧
          t.blk.reg (R.DISP_ENT n idx w) = (s.blk.writeReg (R.DISP_ENT n idx w) v).reg (R.DISP_ENT n idx w) ∧
          t.mem = s.mem ∧ t.pending = s.pending) ∧
     (¬busy →
        exec (.dispTableWrite i n idx w v) s =
          .next (s.withBlk (s.blk.acked.writeReg (R.DISP_ENT n idx w) (releaseWord w v)))))

/-- R95, R97: the requests of SYSCTL_PWR from RUN with no transition in progress: IDLE begins its transition; a
reserved code, and any request but NONE during a transition, changes nothing and sets REFUSED. -/
def Obligations.PowerRequests : Prop :=
  ∀ (i : Init) (s : State), s.blk.writable i R.SYSCTL_PWR = true →
    (s.blk.fld F.SYSCTL_PWR_BUSY = 0 → s.blk.fld F.SYSCTL_PWR_STATE = 0 →
      ∃ t, exec (.pwrReqIdle i) s = .next t ∧ t.blk.fld F.SYSCTL_PWR_BUSY = 1 ∧
        t.blk.fld F.SYSCTL_PWR_STATE = 0 ∧ t.blk.pwr.trans = some (1, s.blk.clk) ∧
        RegsSame s.blk t.blk [R.SYSCTL_PWR] ∧ t.mem = s.mem ∧ t.pending = s.pending) ∧
    (s.blk.fld F.SYSCTL_PWR_BUSY = 0 →
      ∃ t, exec (.pwrReqInvalid i 5) s = .next t ∧ t.blk.fld F.SYSCTL_PWR_REFUSED = 1 ∧
        t.blk.fld F.SYSCTL_PWR_BUSY = 0 ∧ t.blk.pwr = s.blk.pwr ∧
        RegsSame s.blk t.blk [R.SYSCTL_PWR] ∧ t.mem = s.mem ∧ t.pending = s.pending) ∧
    (s.blk.fld F.SYSCTL_PWR_BUSY = 1 →
      ∀ c ∈ [Instr.pwrReqRun i, .pwrReqIdle i, .pwrReqStandby i 0, .pwrReqSleep i, .pwrReqKcReset i,
          .pwrReqInvalid i 6],
        ∃ t, exec c s = .next t ∧ t.blk.fld F.SYSCTL_PWR_REFUSED = 1 ∧ t.blk.fld F.SYSCTL_PWR_BUSY = 1 ∧
          t.blk.fld F.SYSCTL_PWR_STATE = s.blk.fld F.SYSCTL_PWR_STATE ∧ t.blk.pwr = s.blk.pwr ∧
          t.blk.kc = s.blk.kc ∧ RegsSame s.blk t.blk [R.SYSCTL_PWR] ∧ t.mem = s.mem ∧ t.pending = s.pending)

/-- R82: when RAIL_GOOD falls while KC runs, KC is reset at once with cause 3; its own registers return to their reset
values but for the fuses, the dies and UH go on, and KC does not start before RAIL_GOOD has risen again. -/
def Obligations.RailLossResetsKc : Prop :=
  ∀ s : State, s.blk.pwr.railGood = true → s.blk.kcRun = true → s.blk.k.brg.tx = [] → s.blk.slp.armed = false →
    ∃ t, exec .railLoss s = .next t ∧ t.blk.kc = .down ∧ t.blk.fld F.AON_PSTATE_CAUSE = 3 ∧
      t.blk.kcMayStart = false ∧
      (∀ a, a < 0x50000000 → a ≠ R.BPL_FUSE → a ≠ R.BPL_DBG_UNLOCK → t.blk.reg a = regReset a) ∧
      (∀ a, 0x50000000 ≤ a → a ≠ R.AON_PSTATE → t.blk.reg a = s.blk.reg a) ∧
      t.blk.chan = s.blk.chan ∧ t.blk.die = s.blk.die ∧ t.mem = s.mem ∧ t.pending = s.pending

/-- R95 and R22: VKEEP power-up keeps the MRAM and the boot storage and clears every other byte. -/
def Obligations.PowerUpKeepsMram : Prop :=
  ∀ s : State, s.blk.pwr.ready = false →
    ∃ t, exec .vkeepPowerUp s = .next t ∧ t.pending = s.pending ∧
      ∀ a, memByte t.mem a = if inMram a || decide (2 ^ 40 ≤ a) then memByte s.mem a else 0

/-- R100, R434: a read of AON_RTC_SEC returns the seconds and copies the sub-second count into AON_RTC_SUB; a write
sets the seconds, and on the next always-on tick the sub-second count becomes 0; a read of TB_NS returns the low word of the extended time and leaves
its high word in TB_WRAP_LAT. -/
def Obligations.ClockReadsAndWrites : Prop :=
  ∀ (i : Init) (v : W32) (x : Nat) (s : State),
    (s.blk.readable i R.AON_RTC_SEC = true →
      ∃ t, exec (.rtcSecRead i) s = .next t ∧ t.blk.resp = .data (s.blk.fld F.AON_RTC_SEC_SEC) ∧
        t.blk.fld F.AON_RTC_SUB_SUB = s.blk.rtcSub % 2 ^ 15 ∧ RegsSame s.blk t.blk [R.AON_RTC_SUB] ∧
        t.mem = s.mem ∧ t.pending = s.pending) ∧
    (s.blk.writable i R.AON_RTC_SEC = true →
      ∃ t, exec (.rtcSecWrite i v) s = .next t ∧ t.blk.fld F.AON_RTC_SEC_SEC = v.toNat ∧
        (500000000 ≤ t.blk.rtcFrac + 32768 → t.blk.rtcTick.rtcSub = 0 ∧ t.blk.rtcTick.fld F.AON_RTC_SEC_SEC = v.toNat) ∧
        RegsSame s.blk t.blk [R.AON_RTC_SEC] ∧ t.mem = s.mem ∧ t.pending = s.pending) ∧
    (x < 2 → s.blk.readable i (R.TB_NS x) = true →
      ∃ t lo, exec (.tbNsRead i x) s = .next t ∧ t.blk.resp = .data lo ∧
        lo + 2 ^ 32 * t.blk.fld (F.TB_WRAP_LAT_WRAP x) = s.blk.ext x ∧
        RegsSame s.blk t.blk [R.TB_WRAP_LAT x] ∧ t.mem = s.mem ∧ t.pending = s.pending)

/-- R406, R446, R467, R654: a write of a pop register removes the oldest entry of its FIFO and no other. -/
def Obligations.PopsRemoveTheOldest : Prop :=
  ∀ (i : Init) (n p : Nat) (s : State),
    (s.blk.writable i R.WK_POP = true →
      ∃ t, exec (.pop i) s = .next t ∧ t.blk.wkFifo = s.blk.wkFifo.tail ∧
        t.blk.fld F.WK_STAT_COUNT = s.blk.wkFifo.tail.length % 64 ∧ t.mem = s.mem ∧ t.pending = s.pending) ∧
    (p < 26 → s.blk.writable i (R.PTS_POP p) = true →
      ∃ t, exec (.ptsPop i p) s = .next t ∧ t.blk.ptsOf p = (s.blk.ptsOf p).tail ∧
        t.mem = s.mem ∧ t.pending = s.pending) ∧
    (n < 16 → s.blk.writable i (R.CAN_FIFO_POP n) = true →
      ∃ t, exec (.canFifoPop i n) s = .next t ∧ (t.blk.canOf n).fifo = (s.blk.canOf n).fifo.tail ∧
        t.mem = s.mem ∧ t.pending = s.pending) ∧
    (s.blk.writable i R.FCU_LOG_POP = true →
      ∃ t, exec (.fcuLogPop i) s = .next t ∧ t.blk.k.fcu.log = s.blk.k.fcu.log.tail ∧
        t.mem = s.mem ∧ t.pending = s.pending)

/-- R652: a write of RESP_FRESH never makes it smaller, and the staged value is taken if it is not smaller and the
responder is not active. -/
def Obligations.FreshOnlyIncreases : Prop :=
  ∀ (i : Init) (v : W32) (s : State), s.blk.writable i R.RESP_FRESH_HI = true →
    ∃ t, exec (.respFreshWrite i v) s = .next t ∧ s.blk.respFresh ≤ t.blk.respFresh ∧
      (s.blk.respFresh ≤ s.blk.keeper.freshLo % 2 ^ 32 + v.toNat * 2 ^ 32 → s.blk.respActive = false →
        t.blk.respFresh = s.blk.keeper.freshLo % 2 ^ 32 + v.toNat * 2 ^ 32) ∧
      RegsSame s.blk t.blk [R.RESP_FRESH_LO, R.RESP_FRESH_HI] ∧ t.mem = s.mem ∧ t.pending = s.pending

/-- R531, R536: EN of the page ownership table, once 1, stays 1 whatever is written, and a write of EN 1 sets it. A
write of SEC_POT_INV begins an invalidation, unless one runs: then it is ignored and sets INV_IGN. At its end no cache
holds an entry of the range. -/
def Obligations.PageOwnershipControl : Prop :=
  ∀ (i : Init) (v : W32) (first f n : Nat) (s : State),
    (s.blk.writable i R.SEC_POT_CTL = true →
      ∃ t, exec (.potEnable i v) s = .next t ∧
        (t.blk.fld F.SEC_POT_CTL_EN = 1 ↔ s.blk.fld F.SEC_POT_CTL_EN = 1 ∨ F.SEC_POT_CTL_EN.get v = 1) ∧
        RegsSame s.blk t.blk [R.SEC_POT_CTL] ∧ t.mem = s.mem ∧ t.pending = s.pending) ∧
    (s.blk.writable i R.SEC_POT_INV = true → s.blk.fld F.SEC_POT_INV_BUSY = 1 →
      exec (.potInvalidate i first) s = .next (s.withBlk (s.blk.acked.put F.SEC_POT_CTL_INV_IGN 1))) ∧
    (s.blk.writable i R.SEC_POT_INV = true → s.blk.fld F.SEC_POT_INV_BUSY = 0 →
      ∃ t, exec (.potInvalidate i first) s = .next t ∧ t.blk.fld F.SEC_POT_INV_BUSY = 1 ∧
        t.blk.k.inv = some (first % 2 ^ 23, max 1 (s.blk.fld F.SEC_POT_INV_CNT_COUNT)) ∧
        RegsSame s.blk t.blk [R.SEC_POT_INV] ∧ t.mem = s.mem ∧ t.pending = s.pending) ∧
    (s.blk.k.inv = some (f, n) →
      ∃ t, exec .potInvalidateDone s = .next t ∧ t.blk.fld F.SEC_POT_INV_BUSY = 0 ∧ t.blk.k.inv = none ∧
        (∀ e ∈ t.blk.k.pot, ∀ x ∈ e.2, x.1 < f ∨ f + n ≤ x.1) ∧
        RegsSame s.blk t.blk [R.SEC_POT_INV] ∧ t.mem = s.mem ∧ t.pending = s.pending)

/-- R526: a write of hvctx by an application hart with V 0 above U-mode is taken only from W 0 and context CTX001, for
an existing normal-world partition; any other leaves hvctx unchanged and raises FS197. -/
def Obligations.HvctxWrite : Prop :=
  ∀ (h v : Nat) (s : State), isApp h = true → s.blk.runs h = true → (s.blk.hartOf h).v = false →
    (s.blk.hartOf h).prv ≠ 0 →
    (let ok := (s.blk.hartOf h).w = false ∧ (s.blk.hartOf h).ctx = 1 ∧ s.blk.ctxNormalPart (v % 256) = true
     ∃ t, exec (.hvctxWrite h v) s = .next t ∧
       (ok → (t.blk.hartOf h).hvctx = v % 256 ∧ t.blk.fcuIn = s.blk.fcuIn) ∧
       (¬ok → t.blk.hart = s.blk.hart ∧ ∃ r, t.blk.fcuIn = s.blk.fcuIn ++ [r] ∧ r.src = 197) ∧
       t.blk.regs = s.blk.regs ∧ t.mem = s.mem ∧ t.pending = s.pending)

/-- R108: an immediate command that the first checks refuse (a halted die, a channel not adopted, a group member)
records its code and has no other effect. -/
def Obligations.RefusedChannelCommand : Prop :=
  ∀ (i : Init) (ch duty op code : Nat) (s : State), ch < 192 → s.blk.writable i (R.CH_CMD ch) = true →
    s.blk.preCheck ch = some code →
    ∀ c ∈ [Instr.nop i ch, .off i ch, .on i ch, .pwm i ch duty, .cap i ch, .duty i ch duty, .cancel i ch,
        .cmdReservedOpcode i ch op duty],
      ∃ t, exec c s = .next t ∧ t.blk.fld (F.CH_CMD_STAT_RESULT ch) = code ∧
        RegsSame s.blk t.blk [R.CH_CMD_STAT ch] ∧ t.blk.chan = s.blk.chan ∧ t.mem = s.mem ∧ t.pending = s.pending

/-- What these accepted commands leave unchanged: every register but those listed, memory and the queue. A fault
condition they meet (R126, R162, R248) is raised to the FCU by a message, which changes no register. CH_ADOPT acts
after the timed commands of its die that are due (R117): where there are none. -/
def Obligations.CommandFrames : Prop :=
  ∀ (i : Init) (n g q k c ch : Nat) (v : W32) (all range ds : Bool) (s : State),
    (s.blk.writable i R.KV_CMD = true → ∀ x ∈ [Instr.clear i n, .load i n, .derive i n ds k, .store i n, .unstore i n,
        .hkLoad i n, .pubkey i n, .extend i n, .attest i, .dbgChal i, .dbgResp i n, .kvCmdInvalid i],
      ChangesOnly x s [R.KV_CMD]) ∧
    (s.blk.writable i R.ATU_INV = true → ChangesOnly (.atuInvalidate i all range n) s [R.ATU_INV]) ∧
    (c < 256 → s.blk.writable i (R.ATU_CTX_CTL c) = true →
      (∀ x ∈ [Instr.stop i c, .start i c, .bump i c, .remove i c], ChangesOnly x s [R.ATU_CTX_STAT c]) ∧
      ChangesOnly (.ctxOpIgnored i c) s []) ∧
    (c < 256 → s.blk.writable i (R.ATU_DIRTY_CTL c) = true → ChangesOnly (.sync i c v) s [R.ATU_DIRTY_CTL c]) ∧
    (ch < 192 → s.blk.writable i (R.CH_PROT_CLR ch) = true →
      ChangesOnly (.retryClear i ch) s [R.CH_PROT_STAT ch] ∧
      ChangesOnly (.latchClear i ch) s [R.CH_STAT ch, R.CH_PROT_STAT ch, R.CH_PROT_EVT ch]) ∧
    (ch < 192 → s.blk.writable i (R.CH_ADOPT ch) = true →
      s.blk.dueEntry (ch / 16) = none → ChangesOnly (.channelAdopt i ch n k) s [R.CH_STAT ch, R.CH_CMD_STAT ch]) ∧
    (n < 12 → g < 4 → s.blk.writable i (R.PG_PERIOD n g) = true →
      ChangesOnly (.pgPeriodWrite i n g v) s [R.PG_PERIOD n g, R.PG_CTL n g]) ∧
    (n < 12 → s.blk.writable i (R.WM_AMB n) = true → ChangesOnly (.ambWrite i n v) s
        (R.WM_AMB n :: (List.range 16).map (fun j => R.CH_PROT_STAT (16 * n + j)))) ∧
    (n < 48 → s.blk.writable i (R.DI_EVT n) = true →
      ChangesOnly (.wakeAcknowledge i n v) s [R.DI_EVT n, R.DI_STAT n]) ∧
    (q < 128 → s.blk.writable i (R.QP_CTL q) = true →
      ChangesOnly (.qpEnableWrite i q v) s [R.QP_CTL q, R.QP_STAT q]) ∧
    (n < 26 → s.blk.writable i (R.ETH_CT n) = true → ChangesOnly (.ctReset i n v) s [R.ETH_CT n, R.ETH_STAT n]) ∧
    (n < 29 → s.blk.writable i (R.QBV_CTL n) = true → ChangesOnly (.qbvChange i n) s [R.QBV_STAT n]) ∧
    (n < 12 → k < 64 → s.blk.writable i (R.LR_CFG n k) = true →
      ChangesOnly (.linResponseUpdate i n k v) s [R.LR_CFG n k, R.LR_DATA_LO n k, R.LR_DATA_HI n k]) ∧
    (n < 16 → s.blk.writable i (R.RING_CTL n) = true →
      ChangesOnly (.ringDisable i n v) s [R.RING_CTL n, R.RING_STAT n]) ∧
    (n < 16 → s.blk.writable i (R.WBG_SLOT_REL n) = true → ChangesOnly (.slotRelease i n) s [R.WBG_SLOT_STAT n]) ∧
    (s.blk.writable i R.BPL_CMD = true → ChangesOnly (.planCheck i v) s [R.BPL_CHECK]) ∧
    (s.blk.writable i R.FCU_TEST = true → ChangesOnly (.fcuTest i v) s []) ∧
    (gateExists g = true → s.blk.writable i (R.SYSCTL_GATE g) = true →
      ChangesOnly (.gateRequest i g v) s [R.SYSCTL_GATE g])

/-- R107, R109, R131, R151: ON given to an adopted single channel that is OFF and takes no leave, at a tick on which no
higher cause of R149 has demanded off, turns its output on at once; OFF given to a channel that is ON turns it off with reason 8; ON given to a latched channel is refused with
code 5; in every case CH_CMD_STAT.RESULT tells the outcome. -/
def Obligations.OnAndOffTakeEffect : Prop :=
  ∀ (i : Init) (ch : Nat) (s : State), ch < 192 → s.blk.writable i (R.CH_CMD ch) = true →
    s.blk.preCheck ch = none → s.blk.timedNow ch = false →
    (s.blk.fld (F.CH_STAT_LATCH ch) = 1 →
      ∃ t, exec (.on i ch) s = .next t ∧ t.blk.fld (F.CH_CMD_STAT_RESULT ch) = 5 ∧
        RegsSame s.blk t.blk [R.CH_CMD_STAT ch] ∧ t.blk.chan = s.blk.chan ∧ t.mem = s.mem ∧ t.pending = s.pending) ∧
    (s.blk.fld (F.CH_STAT_LATCH ch) = 0 → s.blk.bankLow ch = false → s.blk.mode ch = 0 →
      s.blk.fld (F.CH_PROT_STAT_PEND ch) = 0 → s.blk.needsLeave ch = false → s.blk.outranked ch 14 = false →
      ∃ t, exec (.on i ch) s = .next t ∧ t.blk.fld (F.CH_CMD_STAT_RESULT ch) = 0 ∧
        t.blk.fld (F.CH_STAT_MODE ch) = 1 ∧ t.blk.fld (F.CH_STAT_OFF_REASON ch) = 0 ∧ t.blk.fld (F.CH_STAT_OUT ch) = 1 ∧
        t.mem = s.mem ∧ t.pending = s.pending) ∧
    (s.blk.mode ch = 1 →
      ∃ t, exec (.off i ch) s = .next t ∧ t.blk.fld (F.CH_CMD_STAT_RESULT ch) = 0 ∧
        t.blk.fld (F.CH_STAT_MODE ch) = 0 ∧ t.blk.fld (F.CH_STAT_OFF_REASON ch) = 8 ∧ t.blk.fld (F.CH_STAT_OUT ch) = 0 ∧
        t.mem = s.mem ∧ t.pending = s.pending)

/-- R640, R641: a raising of a source whose class is closed and whose severity is below SV2 makes the source active
and pending, counts, enters the log and does no more. -/
def Obligations.LowSeverityRaising : Prop :=
  ∀ (r : Raise) (s : State), r.src < 384 → faultNamed r.src = true → s.blk.kcRun = true → s.blk.k.fcu.plan = true →
    s.blk.sevOf r.src < 2 → s.blk.classOpen (faultClass r.src) = false → s.blk.k.fcu.log.length < 64 →
    ∃ t e, exec (.faultRaise (some r)) s = .next t ∧ t.blk.fld (F.FCU_SRC_ACTIVE r.src) = 1 ∧
      t.blk.fld (F.FCU_SRC_PEND r.src) = 1 ∧ t.blk.fld (F.FCU_SRC_ESC r.src) = 0 ∧
      t.blk.fld (F.FCU_CNT_RAISED r.src) =
        min (s.blk.fld (F.FCU_CNT_RAISED r.src) + 1) (2 ^ (F.FCU_CNT_RAISED r.src).width - 1) ∧
      t.blk.k.fcu.log = s.blk.k.fcu.log ++ [e] ∧ t.blk.kc = .run ∧ t.mem = s.mem ∧ t.pending = s.pending

/-- R490: a source of the machine-level domain takes the modes Inactive, Detached and Level1; a write of any other mode
sets Inactive; and domaincfg reads DM 1. -/
def Obligations.AplicSourceModes : Prop :=
  ∀ (b : Blk) (src v : Nat), isWired src = true → v.testBit 10 = false →
    (b.sourcecfg 0 src v).srcCfg 0 src = (if v % 8 = 1 ∨ v % 8 = 6 then v % 8 else 0) ∧
    (b.aplRead 0 0).testBit 2 = true ∧ (b.aplRead 1 0).testBit 2 = true

/-! ## The commands, family by family -/

/-- What supply and clock events do (R80, R81, R82, R95, R19, R20, R21): the next state of each command. -/
def Obligations.SupplyEvents : Prop :=
  (∀ s : State, s.blk.pwr.ready = false →
      exec .vkeepPowerUp s = .next (s.withMem (s.blk.bare.calCheck, memKeep s.mem))) ∧
  (∀ s : State, s.blk.pwr.vkeep = true → s.blk.pwr.ready = false →
      exec .uhReady s = .next (s.withBlk ((List.range 12).foldl Blk.align { s.blk with
        tb0 := 0
        pwr := { s.blk.pwr with
          ready := true
          railEn := true } }))) ∧
  (∀ s : State, s.blk.pwr.railEn = true → s.blk.pwr.railGood = false →
      exec .railGoodRise s = .next (s.withBlk { s.blk with pwr := { s.blk.pwr with
        railGood := true
        goodAt := s.blk.clk } })) ∧
  (∀ s : State, s.blk.pwr.railGood = true → s.blk.kc ≠ .down →
      exec .railLoss s = .next (s.withBlk { s.blk.kcReset (if s.blk.kc = .held then 2 else 3) with
        pwr := { (s.blk.kcReset (if s.blk.kc = .held then 2 else 3)).pwr with railGood := false } })) ∧
  (∀ s : State, s.blk.pwr.vkeep = true →
      exec .vkeepLoss s = .next (s.withMem ({ s.blk.bridgeFlush.bare.put F.AON_PSTATE_STATE 5 with
        pwr := { (s.blk.bridgeFlush.bare.put F.AON_PSTATE_STATE 5).pwr with vkeep := false } }, memKeep s.mem))) ∧
  (∀ s : State,
      exec .fieldLinkClockLoss s = .next (s.withBlk ({ s.blk with pwr := { s.blk.pwr with
        linkKc := false } }))) ∧
  (∀ s : State,
      exec .alignmentPulse s =
        .next (s.withBlk (if s.blk.pwr.ready && !s.blk.asleep then (List.range 12).foldl Blk.align s.blk.handTb else s.blk))) ∧
  (∀ s : State, s.blk.pwr.vkeep = true → s.blk.pwr.rcOsc = false →
      exec .crystalStop s = .next (s.withBlk
        { (s.blk.event ⟨R.AON_EVT, 1, 0⟩ F.AON_IEN_IEN 0 0x105).raiseF 241 with
          pwr := { ((s.blk.event ⟨R.AON_EVT, 1, 0⟩ F.AON_IEN_IEN 0 0x105).raiseF 241).pwr with rcOsc := true } })) ∧
  (∀ s : State,
      exec .powerTransitionComplete s = .next (s.withBlk (if s.blk.kcRun then s.blk.pwrDone else s.blk))) ∧
  (∀ s : State,
      exec .idleWakeInterrupt s =
        .next (s.withBlk (if s.blk.kcRun && s.blk.fld F.SYSCTL_PWR_STATE == 1 && !s.blk.on F.SYSCTL_PWR_BUSY then s.blk.pwrBegin 0 else s.blk)))

/-- What requests of SYSCTL_PWR, the start of KC, SLEEP entry and wakes do (R84, R95, R456, R97, R100, R672, R460, R458,
R459, R467, R494): the next state of each command. -/
def Obligations.PowerStateCommands : Prop :=
  (∀ (set step reason : Nat) (s : State), s.blk.kcMayStart = true → s.blk.keeper.sv4Late ≠ some true →
      exec (.kcStart set step reason) s = .next (s.withMem (s.blk.kcStart s.mem ⟨set, reason, step⟩))) ∧
  (∀ (i : Init) (s : State), s.blk.writable i R.SYSCTL_PWR = true →
      exec (.pwrReqRun i) s = .next (s.withBlk (s.blk.acked.pwrWrite (pwrWord 1) 0))) ∧
  (∀ (i : Init) (s : State), s.blk.writable i R.SYSCTL_PWR = true →
      exec (.pwrReqIdle i) s = .next (s.withBlk (s.blk.acked.pwrWrite (pwrWord 2) 0))) ∧
  (∀ (i : Init) (wfi : Nat) (s : State), s.blk.writable i R.SYSCTL_PWR = true →
      exec (.pwrReqStandby i wfi) s = .next (s.withBlk (s.blk.acked.pwrWrite (pwrWord 3) wfi))) ∧
  (∀ (i : Init) (s : State), s.blk.writable i R.SYSCTL_PWR = true →
      exec (.pwrReqSleep i) s = .next (s.withBlk (s.blk.acked.pwrWrite (pwrWord 4) 0))) ∧
  (∀ (i : Init) (s : State), s.blk.writable i R.SYSCTL_PWR = true →
      exec (.pwrReqKcReset i) s = .next (s.withBlk (s.blk.acked.pwrWrite (pwrWord 7) 0))) ∧
  (∀ (i : Init) (req : Nat) (s : State), s.blk.writable i R.SYSCTL_PWR = true →
      exec (.pwrReqInvalid i req) s = .next (s.withBlk (s.blk.acked.pwrWrite (pwrWord req) 0))) ∧
  (∀ (i : Init) (s : State), s.blk.readable i R.AON_RTC_SEC = true →
      exec (.rtcSecRead i) s =
        .next (s.withBlk ({ s.blk.acked.put F.AON_RTC_SUB_SUB s.blk.acked.rtcSub with resp := .data (s.blk.acked.fld F.AON_RTC_SEC_SEC) }))) ∧
  (∀ (i : Init) (v : W32) (s : State), s.blk.writable i R.AON_RTC_SEC = true →
      exec (.rtcSecWrite i v) s = .next (s.withBlk (s.blk.acked.rtcSet v.toNat))) ∧
  (∀ s : State,
      exec .rtcAlarmFire s = .next (s.withBlk (if s.blk.alarmDue then s.blk.alarmFire else s.blk))) ∧
  (∀ (i : Init) (v : W32) (s : State), s.blk.writable i R.WK_ALARM_CTL = true →
      exec (.alarmEnable i v) s = .next (s.withBlk (s.blk.acked.alarmCtl v))) ∧
  (∀ s : State,
      exec .kcQuiescent s = .next (s.withBlk (if s.blk.kcRun then s.blk.kcQuiet else s.blk))) ∧
  (∀ s : State,
      exec .wakeEvent s = .next (s.withBlk (s.blk.wakeNext))) ∧
  (∀ s : State,
      exec .lateWakeRestart s = .next (s.withBlk (s.blk.lateRestart))) ∧
  (∀ s : State,
      exec .failSafeSleep s = .next (s.withBlk (s.blk.failSafe))) ∧
  (∀ (i : Init) (s : State), s.blk.writable i R.WK_POP = true →
      exec (.pop i) s = .next (s.withBlk (s.blk.acked.wkPop))) ∧
  (∀ s : State, s.blk.kcRun = true ∨ s.blk.kc = .held → s.blk.fld F.KV_STAT_DBG_LEVEL ≠ 0 →
      exec .debugReset s = .next (s.withBlk
        (({ s.blk with keeper := { s.blk.keeper with sv4Late := none } } : Blk).kcReset 5)))

/-- What immediate channel commands do (R107, R109, R122, R119, R115): the next state of each command. -/
def Obligations.ImmediateChannelCommands : Prop :=
  (∀ (i : Init) (ch : Nat) (s : State), ch < 192 → s.blk.writable i (R.CH_CMD ch) = true →
      exec (.nop i ch) s = .next (s.withBlk (s.blk.acked.immediate ch 0 0))) ∧
  (∀ (i : Init) (ch : Nat) (s : State), ch < 192 → s.blk.writable i (R.CH_CMD ch) = true →
      exec (.off i ch) s = .next (s.withBlk (s.blk.acked.immediate ch 1 0))) ∧
  (∀ (i : Init) (ch : Nat) (s : State), ch < 192 → s.blk.writable i (R.CH_CMD ch) = true →
      exec (.on i ch) s = .next (s.withBlk (s.blk.acked.immediate ch 2 0))) ∧
  (∀ (i : Init) (ch duty : Nat) (s : State), ch < 192 → s.blk.writable i (R.CH_CMD ch) = true →
      exec (.pwm i ch duty) s = .next (s.withBlk (s.blk.acked.immediate ch 3 (duty % 4096)))) ∧
  (∀ (i : Init) (ch : Nat) (s : State), ch < 192 → s.blk.writable i (R.CH_CMD ch) = true →
      exec (.cap i ch) s = .next (s.withBlk (s.blk.acked.immediate ch 4 0))) ∧
  (∀ (i : Init) (ch duty : Nat) (s : State), ch < 192 → s.blk.writable i (R.CH_CMD ch) = true →
      exec (.duty i ch duty) s = .next (s.withBlk (s.blk.acked.immediate ch 5 (duty % 4096)))) ∧
  (∀ (i : Init) (ch : Nat) (s : State), ch < 192 → s.blk.writable i (R.CH_CMD ch) = true →
      exec (.cancel i ch) s = .next (s.withBlk (s.blk.acked.immediate ch 6 0))) ∧
  (∀ (i : Init) (ch op duty : Nat) (s : State), ch < 192 → s.blk.writable i (R.CH_CMD ch) = true →
      exec (.cmdReservedOpcode i ch op duty) s = .next (s.withBlk (s.blk.acked.immediate ch (7 + op % 9) (duty % 4096))))

/-- What timed channel commands do (R112, R113, R133, R114): the next state of each command. -/
def Obligations.TimedChannelCommands : Prop :=
  (∀ (i : Init) (ch : Nat) (time : W32) (s : State), ch < 192 → s.blk.writable i (R.CH_TCMD_TIME ch) = true →
      s.blk.halted (ch / 16) = false →
      exec (.chTcmdTimeWrite i ch time) s = .next (s.withBlk
        ((s.blk.acked.put (F.CH_TCMD_TIME_TIME ch) time.toNat).setChan ch { s.blk.chanOf ch with fresh := true }))) ∧
  (∀ (i : Init) (ch : Nat) (ep : Bool) (s : State), ch < 192 → s.blk.writable i (R.CH_TCMD ch) = true →
      exec (.timedOff i ch ep) s = .next (s.withBlk (s.blk.acked.timedWrite ch 1 0 ep.toNat))) ∧
  (∀ (i : Init) (ch : Nat) (ep : Bool) (s : State), ch < 192 → s.blk.writable i (R.CH_TCMD ch) = true →
      exec (.timedOn i ch ep) s = .next (s.withBlk (s.blk.acked.timedWrite ch 2 0 ep.toNat))) ∧
  (∀ (i : Init) (ch duty : Nat) (ep : Bool) (s : State), ch < 192 → s.blk.writable i (R.CH_TCMD ch) = true →
      exec (.timedPwm i ch duty ep) s = .next (s.withBlk (s.blk.acked.timedWrite ch 3 (duty % 4096) ep.toNat))) ∧
  (∀ (i : Init) (ch : Nat) (ep : Bool) (s : State), ch < 192 → s.blk.writable i (R.CH_TCMD ch) = true →
      exec (.timedCap i ch ep) s = .next (s.withBlk (s.blk.acked.timedWrite ch 4 0 ep.toNat))) ∧
  (∀ (i : Init) (ch duty : Nat) (ep : Bool) (s : State), ch < 192 → s.blk.writable i (R.CH_TCMD ch) = true →
      exec (.timedDuty i ch duty ep) s = .next (s.withBlk (s.blk.acked.timedWrite ch 5 (duty % 4096) ep.toNat))) ∧
  (∀ (i : Init) (ch op : Nat) (ep : Bool) (s : State), ch < 192 → s.blk.writable i (R.CH_TCMD ch) = true →
      exec (.timedReservedOpcode i ch op ep) s =
        .next (s.withBlk (s.blk.acked.timedWrite ch (if op % 11 = 0 then 0 else 5 + op % 11) 0 ep.toNat))) ∧
  (∀ (n : Nat) (s : State), n < 12 →
      exec (.timedCommandDue n) s = .next (s.withBlk (s.blk.timedDue n)))

/-- What leaves, starts, PWM generators and charging do (R30, R120, R31, R117, R121, R122, R123, R119): the next state
of each command. -/
def Obligations.StartsAndPwm : Prop :=
  (∀ (n : Nat) (s : State), n < 12 →
      exec (.leaveRequestSend n) s = .next (s.withBlk (s.blk.leaveAhead n))) ∧
  (∀ (ch : Nat) (s : State), ch < 192 →
      exec (.leaveGrantArrival ch) s = .next (s.withBlk (s.blk.grantArrive ch))) ∧
  (∀ (ch : Nat) (s : State), ch < 192 →
      exec (.leaveRefusalArrival ch) s = .next (s.withBlk (s.blk.refusalArrive ch))) ∧
  (∀ s : State,
      exec .uhLeaveRequest s = .next (s.withBlk (s.blk.uhRequest))) ∧
  (∀ (ch : Nat) (s : State), ch < 192 →
      exec (.inrushPhaseEnd ch) s = .next (s.withBlk (s.blk.inrushEnd ch))) ∧
  (∀ (i : Init) (ch tag mode : Nat) (s : State), ch < 192 → s.blk.writable i (R.CH_ADOPT ch) = true →
      exec (.channelAdopt i ch tag mode) s = .next (s.withBlk (s.blk.acked.adopt ch (tag % 4096) (mode % 8)))) ∧
  (∀ (n g : Nat) (s : State), n < 12 → g < 4 →
      exec (.pwmPeriodBoundary n g) s = .next (s.withBlk (s.blk.boundary n g))) ∧
  (∀ (ch : Nat) (s : State), ch < 192 →
      exec (.pwmRisingEdge ch) s = .next (s.withBlk (s.blk.risingEdge ch))) ∧
  (∀ (ch : Nat) (s : State), ch < 192 →
      exec (.pwmFallingEdge ch) s = .next (s.withBlk (s.blk.fallingEdge ch))) ∧
  (∀ (i : Init) (n g : Nat) (v : W32) (s : State), n < 12 → g < 4 → s.blk.writable i (R.PG_PERIOD n g) = true →
      exec (.pgPeriodWrite i n g v) s = .next (s.withBlk (s.blk.acked.pgWrite n g (R.PG_PERIOD n g) v))) ∧
  (∀ (i : Init) (n g : Nat) (v : W32) (s : State), n < 12 → g < 4 → s.blk.writable i (R.PG_ANCHOR n g) = true →
      exec (.pgAnchorWrite i n g v) s = .next (s.withBlk (s.blk.acked.pgWrite n g (R.PG_ANCHOR n g) v))) ∧
  (∀ (i : Init) (ch : Nat) (v : W32) (s : State), ch < 192 → s.blk.writable i (R.CH_PHASE ch) = true →
      exec (.chPhaseWrite i ch v) s = .next (s.withBlk (s.blk.acked.phaseWrite ch v))) ∧
  (∀ (ch : Nat) (s : State), ch < 192 →
      exec (.chargeLevelReached ch) s = .next (s.withBlk (s.blk.chargeLevel ch))) ∧
  (∀ (ch : Nat) (s : State), ch < 192 →
      exec (.chargeComplete ch) s = .next (s.withBlk (s.blk.chargeDone ch))) ∧
  (∀ (ch : Nat) (s : State), ch < 192 →
      exec (.chargeTimeout ch) s = .next (s.withBlk (s.blk.chargeFail ch)))

/-- What the protection of channels does (R147, R156, R157, R158, R161, R162, R163): the next state of each command. -/
def Obligations.ChannelProtectionEvents : Prop :=
  (∀ (ch : Nat) (s : State), ch < 192 →
      exec (.shortCircuitDetect ch) s = .next (s.withBlk (s.blk.shortCircuit ch))) ∧
  (∀ (ch : Nat) (t : Int) (s : State), ch < 192 →
      exec (.overTemperatureDetect ch t) s = .next (s.withBlk (s.blk.overTemp ch t))) ∧
  (∀ (ch : Nat) (s : State), ch < 192 →
      exec (.autoRestart ch) s = .next (s.withBlk (s.blk.autoRestart ch))) ∧
  (∀ (n : Nat) (s : State), n < 12 →
      exec (.wireModelUpdate n) s = .next (s.withBlk (s.blk.wireModel n))) ∧
  (∀ (n : Nat) (s : State), n < 12 →
      exec (.bankLowSet n) s = .next (s.withBlk (s.blk.bankLowSet n))) ∧
  (∀ (n : Nat) (s : State), n < 12 →
      exec (.bankLowClear n) s = .next (s.withBlk (s.blk.bankLowClear n))) ∧
  (∀ (n : Nat) (s : State), n < 12 →
      exec (.bankResume n) s = .next (s.withBlk (s.blk.bankResume n))) ∧
  (∀ (ch : Nat) (s : State), ch < 192 →
      exec (.retryQuietExpiry ch) s = .next (s.withBlk (s.blk.retryQuiet ch))) ∧
  (∀ (ch : Nat) (s : State), ch < 192 →
      exec (.onStateOpenLoad ch) s = .next (s.withBlk (s.blk.openOn ch))) ∧
  (∀ (ch : Nat) (s : State), ch < 192 →
      exec (.offStateTestStart ch) s = .next (s.withBlk (s.blk.openTest ch))) ∧
  (∀ (ch : Nat) (s : State), ch < 192 →
      exec (.offStateOpenLoad ch) s = .next (s.withBlk (s.blk.openOff ch))) ∧
  (∀ (ch : Nat) (s : State), ch < 192 →
      exec (.offStateOpenLoadEnd ch) s = .next (s.withBlk (s.blk.openOffEnd ch)))

/-- What protection writes, keepalives and supervisors do (R152, R157, R159, R165, R35, R166): the next state of each
command. -/
def Obligations.ProtectionAndKeeperCommands : Prop :=
  (∀ (i : Init) (ch : Nat) (s : State), ch < 192 → s.blk.writable i (R.CH_PROT_CLR ch) = true →
      exec (.latchClear i ch) s = .next (s.withBlk (s.blk.acked.latchClear ch))) ∧
  (∀ (i : Init) (ch : Nat) (s : State), ch < 192 → s.blk.writable i (R.CH_PROT_CLR ch) = true →
      exec (.retryClear i ch) s = .next (s.withBlk (s.blk.acked.retryClear ch))) ∧
  (∀ (i : Init) (n : Nat) (v : W32) (s : State), n < 12 → s.blk.writable i (R.WM_AMB n) = true →
      exec (.ambWrite i n v) s = .next (s.withBlk (s.blk.acked.ambWrite n v))) ∧
  (∀ (n : Nat) (s : State), n < 12 →
      exec (.ambStale n) s = .next (s.withBlk (s.blk.ambStale n))) ∧
  (∀ (i : Init) (key : Nat) (s : State), s.blk.writable i R.KEEP_ALIVE = true →
      exec (.keepAlive i key) s =
        .next (s.withBlk (if key % 256 = 0xa5 then s.blk.acked.keepalive else s.blk.acked))) ∧
  (∀ s : State,
      exec .keeperTimeout s = .next (s.withBlk (s.blk.keeperTimeout))) ∧
  (∀ (n : Nat) (calBad : Bool) (s : State), n < 12 →
      exec (.sequencerStall n calBad) s = .next (s.withBlk (s.blk.watchdogReset n calBad))) ∧
  (∀ (n : Nat) (mismatch calBad : Bool) (s : State), n < 12 →
      exec (.configCrcCheck n mismatch calBad) s = .next (s.withBlk (s.blk.crcCheck n mismatch calBad)))

/-- What samples, windows and energy commands do (R186, R189, R191, R224): the next state of each command. -/
def Obligations.MeasurementCommands : Prop :=
  (∀ (n : Nat) (vbank : Int) (xs : List Samp) (s : State), n < 12 →
      exec (.currentSample n vbank xs) s = .next (s.withBlk (s.blk.sample n vbank xs))) ∧
  (∀ (ch : Nat) (s : State), ch < 192 →
      exec (.windowClose ch) s = .next (s.withBlk (s.blk.windowClose ch))) ∧
  (∀ (i : Init) (ch : Nat) (v : W32) (s : State), ch < 192 → s.blk.writable i (R.CH_WCFG ch) = true →
      exec (.wcfgWrite i ch v) s = .next (s.withBlk (s.blk.acked.wcfgWrite ch v))) ∧
  (∀ (i : Init) (n : Nat) (v : W32) (s : State), n < 12 → s.blk.writable i (R.DIE_MEAS n) = true →
      exec (.dieMeasPhaseWrite i n v) s = .next (s.withBlk (s.blk.acked.applyReg (R.DIE_MEAS n) v))) ∧
  (∀ (i : Init) (ch : Nat) (s : State), ch < 192 → s.blk.writable i (R.CH_MCTL ch) = true →
      s.blk.halted (ch / 16) = false →
      exec (.energyClear i ch) s = .next (s.withBlk (s.blk.acked.setChan ch { s.blk.chanOf ch with eclr := true }))) ∧
  (∀ s : State,
      exec .dissipationReport s = .next (s.withBlk (s.blk.dissipation)))

/-- What general inputs and message enables do (R196, R197, R198, R200, R195, R585): the next state of each command. -/
def Obligations.InputCommands : Prop :=
  (∀ (n : Nat) (mv : Int) (s : State), n < 48 →
      exec (.inputRawEdge n mv) s = .next (s.withBlk (s.blk.diEdge n mv))) ∧
  (∀ (n : Nat) (s : State), n < 48 →
      exec (.debounceExpiry n) s = .next (s.withBlk (s.blk.diAccept n))) ∧
  (∀ (n : Nat) (s : State), n < 48 →
      exec (.chatterWindowEnd n) s = .next (s.withBlk (s.blk.diWindow n))) ∧
  (∀ (n : Nat) (s : State), n < 48 →
      exec (.stuckDetect n) s = .next (s.withBlk (s.blk.diStuck n))) ∧
  (∀ (n : Nat) (s : State), n < 48 →
      exec (.stormPeriodExpiry n) s = .next (s.withBlk (s.blk.diStormEnd n))) ∧
  (∀ (i : Init) (n : Nat) (v : W32) (s : State), n < 48 → s.blk.writable i (R.DI_EVT n) = true →
      exec (.wakeAcknowledge i n v) s = .next (s.withBlk (s.blk.acked.diEvtWrite n (v ||| 0x10)))) ∧
  (∀ (n : Nat) (mv : Int) (s : State), n < 48 →
      exec (.analogInputUpdate n mv) s = .next (s.withBlk (s.blk.diAnalog n mv))) ∧
  (∀ (i : Init) (src a : Nat) (v : W32) (e f : Fld) (s : State), msgEnable src = some (e, a, f) →
      s.blk.writable i a = true →
      exec (.interruptEnableWrite i src v) s = .next (s.withBlk (s.blk.acked.enableWrite src v))) ∧
  (∀ (n : Nat) (s : State), n < 48 →
      exec (.chatterLevelSample n) s = .next (s.withBlk (s.blk.diSample n)))

/-- What the weighbridge and its slots do (R233, R223, R238, R228, R239, R240, R261): the next state of each command. -/
def Obligations.WeighbridgeCommands : Prop :=
  (∀ s : State,
      exec .evaluationRound s = .next (s.withBlk (s.blk.round))) ∧
  (∀ (p : Nat) (s : State),
      exec (.kcPowerMeasurement p) s = .next (s.withBlk (if s.blk.kcRun then s.blk.kcPower p else s.blk))) ∧
  (∀ s : State,
      exec .revocationAction s = .next (s.withBlk (s.blk.courseNext))) ∧
  (∀ (kc uh bf lid : Int) (s : State),
      exec (.thermalModelUpdate kc uh bf lid) s =
        .next (s.withBlk (if s.blk.kcRun then s.blk.thermal kc uh lid else s.blk))) ∧
  (∀ (uh fl : Nat) (s : State),
      exec (.budgetReport uh fl) s = .next (s.withBlk (if s.blk.kcRun then s.blk.budget uh fl else s.blk))) ∧
  (∀ (i : Init) (k step : Nat) (s : State), k < 16 → s.blk.writable i (R.WBG_SLOT_REQ k) = true →
      exec (.frequencyStepRequest i k step) s = .next (s.withBlk (s.blk.acked.slotReq i k 1 (step % 4) 0))) ∧
  (∀ (i : Init) (k dp : Nat) (s : State), k < 16 → s.blk.writable i (R.WBG_SLOT_REQ k) = true →
      exec (.mramBulkWriteRequest i k dp) s = .next (s.withBlk (s.blk.acked.slotReq i k 2 0 (dp % 65536)))) ∧
  (∀ (i : Init) (k kind : Nat) (s : State), k < 16 → s.blk.writable i (R.WBG_SLOT_REQ k) = true →
      3 ≤ kind → kind < 16 →
      exec (.slotRequestInvalid i k kind) s = .next (s.withBlk (s.blk.acked.slotReq i k kind 0 0))) ∧
  (∀ (i : Init) (k : Nat) (s : State), k < 16 → s.blk.writable i (R.WBG_SLOT_REL k) = true →
      exec (.slotRelease i k) s = .next (s.withBlk (s.blk.acked.slotRel k)))

/-- What releases, dispatches and table writes do (R244, R245, R246, R247, R248): the next state of each command. -/
def Obligations.DispatcherCommands : Prop :=
  (∀ (n i : Nat) (s : State), n < 8 → i < 1024 →
      exec (.periodicRelease n i) s = .next (s.withBlk (s.blk.periodic n i))) ∧
  (∀ (n id : Nat) (s : State), n < 8 →
      exec (.eventRelease n id) s = .next (s.withBlk (if s.blk.kcRun then s.blk.deliverSc n id else s.blk))) ∧
  (∀ (i : Init) (n idx : Nat) (s : State), n < 8 → s.blk.writable i (R.DISP_RELEASE n) = true →
      exec (.dispRelease i n idx) s = .next (s.withBlk (s.blk.acked.release n (idx % 1024)))) ∧
  (∀ (n : Nat) (s : State), n < 8 →
      exec (.dispatch n) s = .next (s.withBlk (s.blk.dispatch n))) ∧
  (∀ (n : Nat) (s : State), n < 8 →
      exec (.deferralBoundDispatch n) s = .next (s.withBlk (s.blk.forceDispatch n))) ∧
  (∀ (i : Init) (n : Nat) (s : State), n < 8 → s.blk.writable i (R.DISP_END n) = true → s.blk.recutInit i = none →
      exec (.dispEnd i n) s = .next (s.withBlk (s.blk.acked.endTask n))) ∧
  (∀ (i : Init) (n idx w : Nat) (v : W32) (s : State), n < 8 → idx < 1024 → w < 4 → s.blk.writable i (R.DISP_ENT n idx w) = true →
      exec (.dispTableWrite i n idx w v) s = .next (s.withBlk (s.blk.acked.tableWrite n idx w v)))

/-- What the switch fabric does (R300, R274, R280, R344, R291, R292, R295, R296, R290): the next state of each command. -/
def Obligations.FabricCommands : Prop :=
  (∀ (i : Init) (v : W32) (s : State), s.blk.writable i R.SWC_FAB_CTL = true →
      exec (.fabricEnableWrite i v) s = .next (s.withBlk (s.blk.acked.fabCtl v))) ∧
  (∀ (badA badB : List Nat) (s : State),
      exec (.fabricSlot badA badB) s = .next (s.withBlk (s.blk.slot badA badB))) ∧
  (∀ (o p : Nat) (s : State), o < 29 → p < 29 →
      exec (.resequenceTimeout o p) s = .next (s.withBlk (s.blk.rsqTimeout o p))) ∧
  (∀ (p ecc : Nat) (s : State), p < 29 →
      exec (.frameTransmitStart p ecc) s = .next (s.withBlk (s.blk.txStart p ecc))) ∧
  (∀ (p : Nat) (s : State), p < 29 →
      exec (.linkDownReport p) s = .next (s.withBlk (s.blk.reportDown p))) ∧
  (∀ (p : Nat) (s : State), p < 29 →
      exec (.linkUpReport p) s = .next (s.withBlk (s.blk.reportUp p))) ∧
  (∀ (o tc : Nat) (s : State), o < 29 → tc < 8 →
      exec (.graceExpiry o tc) s = .next (s.withBlk (if s.blk.graceOver o tc && !s.blk.swcOff then s.blk.flush o tc else s.blk))) ∧
  (∀ s : State,
      exec .spoilAuditStart s = .next (s.withBlk (s.blk.auditStart))) ∧
  (∀ (n fix : Nat) (dbl : List Nat) (s : State),
      exec (.spoilAuditComplete n fix dbl) s = .next (s.withBlk (s.blk.auditEnd n fix dbl))) ∧
  (∀ (p : Nat) (s : State), p < 29 →
      exec (.frameTransmitEnd p) s = .next (s.withMem (Blk.hostBack (s.blk.txEnd p, s.mem))))

/-- What the forwarding engine, the MAC table and the gateway do (R325, R333, R343, R361, R359, R356): the next state of
each command. -/
def Obligations.ForwardingCommands : Prop :=
  (∀ (p : Nat) (head : List Byte) (l dur : Nat) (s : State), p < 29 →
      exec (.frameLookup p head l dur) s = .next (s.withBlk
        (if (s.blk.lookOf p).isEmpty then s.blk.rxHead p head l dur else s.blk.judgeWaiting p))) ∧
  (∀ s : State,
      exec .agingSweep s = .next (s.withBlk (s.blk.sweep))) ∧
  (∀ (n : Nat) (s : State), n < 512 →
      exec (.recoveryFunctionReset n) s = .next (s.withBlk (s.blk.srfReset n))) ∧
  (∀ (i : Init) (ix : Nat) (s : State), ix < 32768 → s.blk.writable i R.MAC_CMD = true →
      exec (.macReadEntry i ix) s = .next (s.withBlk (s.blk.acked.macCmd 1 ix))) ∧
  (∀ (i : Init) (ix : Nat) (s : State), ix < 32768 → s.blk.writable i R.MAC_CMD = true →
      exec (.macWriteEntry i ix) s = .next (s.withBlk (s.blk.acked.macCmd 2 ix))) ∧
  (∀ (i : Init) (ix : Nat) (s : State), ix < 32768 → s.blk.writable i R.MAC_CMD = true →
      exec (.macSearch i ix) s = .next (s.withBlk (s.blk.acked.macCmd 3 ix))) ∧
  (∀ (i : Init) (ix : Nat) (s : State), ix < 32768 → s.blk.writable i R.MAC_CMD = true →
      exec (.macInsert i ix) s = .next (s.withBlk (s.blk.acked.macCmd 4 ix))) ∧
  (∀ (i : Init) (ix : Nat) (s : State), ix < 32768 → s.blk.writable i R.MAC_CMD = true →
      exec (.macDelete i ix) s = .next (s.withBlk (s.blk.acked.macCmd 5 ix))) ∧
  (∀ (i : Init) (ix : Nat) (s : State), ix < 32768 → s.blk.writable i R.MAC_CMD = true →
      exec (.macFlushPort i ix) s = .next (s.withBlk (s.blk.acked.macCmd 6 ix))) ∧
  (∀ (i : Init) (ix : Nat) (s : State), ix < 32768 → s.blk.writable i R.MAC_CMD = true →
      exec (.macCmdInvalid i ix) s = .next (s.withBlk (s.blk.acked.macCmd 0 ix))) ∧
  (∀ s : State,
      exec .macCmdComplete s = .next (s.withBlk (s.blk.macDone))) ∧
  (∀ (i : Init) (v : W32) (s : State), s.blk.writable i R.FWD_CTL = true →
      exec (.seedWrite i v) s = .next (s.withBlk (s.blk.acked.fwdCtl v))) ∧
  (∀ s : State,
      exec .cgFrameReceive s = .next (s.withBlk (s.blk.cgReceive)))

/-- What gate lists and Ethernet ports do (R346, R347, R369, R370, R371, R373, R374, R375, R376, R378): the next state
of each command. -/
def Obligations.PortCommands : Prop :=
  (∀ (p : Nat) (s : State), p < 29 →
      exec (.gateEntryBoundary p) s = .next (s.withBlk (s.blk.gateBoundary p))) ∧
  (∀ (i : Init) (p : Nat) (s : State), p < 29 → s.blk.writable i (R.QBV_CTL p) = true →
      exec (.qbvChange i p) s = .next (s.withBlk (s.blk.acked.qbvChange p))) ∧
  (∀ (p : Nat) (s : State), p < 29 →
      exec (.gateListSwitch p) s = .next (s.withBlk (s.blk.listSwitch p))) ∧
  (∀ (p : Nat) (s : State), p < 29 → ((s.blk.shapeAll p).qbvSwitch p).txOf p = [] →
      exec (.gateListSwitch p) s = .next (s.withBlk ((s.blk.shapeAll p).qbvSwitch p))) ∧
  (∀ (p : Nat) (up : Bool) (s : State), p < 26 →
      exec (.phyLinkChange p up) s = .next (s.withBlk (s.blk.phyChange p up))) ∧
  (∀ (p : Nat) (ok : Bool) (s : State), p < 4 →
      exec (.linkTrainingDone p ok) s = .next (s.withBlk (s.blk.trainEnd p ok))) ∧
  (∀ (p : Nat) (s : State), p < 4 →
      exec (.trainingRetry p) s = .next (s.withBlk (s.blk.trainRetry p))) ∧
  (∀ (p : Nat) (l : List Byte) (fcs : Bool) (dur : Nat) (s : State), p < 26 →
      exec (.frameReceiveEnd p l fcs dur) s = .next (s.withBlk (s.blk.rxEnd p l fcs dur))) ∧
  (∀ (p tc : Nat) (s : State), p < 26 → tc < 8 →
      exec (.pauseExpiry p tc) s = .next (s.withBlk (s.blk.pauseOver p tc))) ∧
  (∀ (p : Nat) (s : State), p < 26 →
      exec (.pauseTransmit p) s = .next (s.withBlk (s.blk.pauseTx p))) ∧
  (∀ (p : Nat) (s : State), p < 26 →
      exec (.pauseRefresh p) s = .next (s.withBlk (s.blk.pauseAgain p))) ∧
  (∀ (p ecc : Nat) (s : State), p < 29 →
      exec (.launchTimeReached p ecc) s =
        .next (s.withBlk (if (List.range 8).any (fun tc => (s.blk.headOf p tc).any (fun x => x.2.lt && decide (0 ≤ s.blk.ageOf x.2.ts))) then s.blk.txStart p ecc else s.blk))) ∧
  (∀ (p : Nat) (s : State), p < 26 →
      exec (.transmitUnderrun p) s = .next (s.withBlk (s.blk.txUnderrun p))) ∧
  (∀ (p : Nat) (s : State), p < 26 →
      exec (.ctDecay p) s = .next (s.withBlk (s.blk.ctDecay p))) ∧
  (∀ (i : Init) (p : Nat) (v : W32) (s : State), p < 26 → s.blk.writable i (R.ETH_CT p) = true →
      exec (.ctReset i p v) s = .next (s.withBlk (s.blk.acked.ctWrite p v))) ∧
  (∀ (p : Nat) (ok : Bool) (s : State), p < 12 →
      exec (.preemptionVerify p ok) s = .next (s.withBlk (s.blk.verifyEnd p ok)))

/-- What TC10, PLCA and host ports do (R383, R384, R385, R386, R388, R393, R389): the next state of each command. -/
def Obligations.Tc10AndHostCommands : Prop :=
  (∀ (i : Init) (p : Nat) (v : W32) (s : State), p < 20 → s.blk.writable i (R.ETH_TC10 p) = true →
      exec (.tc10SleepRequest i p v) s = .next (s.withBlk (s.blk.acked.tc10Write p v))) ∧
  (∀ (p : Nat) (s : State), p < 20 →
      exec (.tc10SleepAccepted p) s = .next (s.withBlk (s.blk.tc10Accepted p))) ∧
  (∀ (p : Nat) (s : State), p < 20 →
      exec (.tc10SleepTimeout p) s = .next (s.withBlk (s.blk.tc10Timeout p))) ∧
  (∀ (p : Nat) (s : State), p < 20 →
      exec (.tc10PartnerSleep p) s = .next (s.withBlk (s.blk.tc10Partner p))) ∧
  (∀ (p : Nat) (s : State), p < 20 →
      exec (.tc10WakePulse p) s = .next (s.withBlk (s.blk.tc10Pulse p))) ∧
  (∀ (i : Init) (p : Nat) (v : W32) (s : State), p < 20 → s.blk.writable i (R.ETH_TC10 p) = true →
      exec (.tc10WakeRequest i p v) s = .next (s.withBlk (s.blk.acked.tc10Write p v))) ∧
  (∀ (i : Init) (q : Nat) (v : W32) (s : State), q < 128 → s.blk.writable i (R.QP_TX_TAIL q) = true →
      exec (.qpTxTailWrite i q v) s = .next (s.withBlk (s.blk.acked.writeReg (R.QP_TX_TAIL q) v))) ∧
  (∀ (hp : Nat) (s : State), hp < 2 →
      exec (.hostTxFrame hp) s = .next (s.withMem (s.blk.hostTx s.mem hp))) ∧
  (∀ (hp : Nat) (s : State), hp < 2 →
      exec (.hostLaunchPass hp) s = .next (s.withBlk (s.blk.hostPass hp))) ∧
  (∀ (hp : Nat) (s : State), hp < 2 →
      exec (.hostRxFrame hp) s = .next (s.withMem (Blk.hostBack (s.blk.hostRx s.mem hp)))) ∧
  (∀ (i : Init) (q : Nat) (v : W32) (s : State), q < 128 → s.blk.writable i (R.QP_CTL q) = true →
      exec (.qpEnableWrite i q v) s = .next (s.withBlk (s.blk.acked.qpCtl q v))) ∧
  (∀ (q : Nat) (s : State), q < 128 →
      exec (.qpCoalesceTimeout q) s = .next (s.withBlk (s.blk.coalOver q))) ∧
  (∀ (p : Nat) (s : State), 20 ≤ p → p < 24 →
      exec (.duplicateNodeId p) s =
        .next (s.withBlk (if s.blk.kcRun && s.blk.on (F.ETH_CTL_EN p) && s.blk.on (F.ETH_PLCA_EN p) then s.blk.raise 85 p else s.blk)))

/-- What CAN control writes and buffers do (R397, R410, R409, R402, R405, R406, R412): the next state of each command. -/
def Obligations.CanControlCommands : Prop :=
  (∀ (i : Init) (n : Nat) (v : W32) (s : State), n < 16 → s.blk.writable i (R.CAN_CTL n) = true →
      exec (.canEnable i n v) s = .next (s.withBlk (s.blk.acked.canCtl n (v ||| 0x80000000)))) ∧
  (∀ (i : Init) (n : Nat) (v : W32) (s : State), n < 16 → s.blk.writable i (R.CAN_CTL n) = true →
      exec (.canDisable i n v) s = .next (s.withBlk (s.blk.acked.canCtl n (v &&& 0x7fffffff)))) ∧
  (∀ (n : Nat) (s : State), n < 16 →
      exec (.canIntegrationDone n) s =
        .next (s.withBlk (if s.blk.kcRun && !s.blk.gateOff (0x20 + n) then s.blk.canIntegrated n else s.blk))) ∧
  (∀ (i : Init) (n : Nat) (v : W32) (s : State), n < 16 → s.blk.writable i (R.CAN_CTL n) = true →
      exec (.canRecover i n v) s = .next (s.withBlk (s.blk.acked.canCtl n (v ||| 0x00200000)))) ∧
  (∀ (n k : Nat) (s : State), n < 16 →
      exec (.canRecoveryDone n k) s =
        .next (s.withBlk (if s.blk.kcRun && !s.blk.gateOff (0x20 + n) then s.blk.canRecovered n k else s.blk))) ∧
  (∀ (i : Init) (n q : Nat) (v : W32) (s : State), mbExists n q = true → s.blk.writable i (mbCs n q) = true →
      exec (.txReq i n q v) s = .next (s.withBlk (s.blk.acked.mbWrite n q (v &&& ~~~ 0x001c0000 ||| 0x00040000)))) ∧
  (∀ (i : Init) (n q : Nat) (v : W32) (s : State), mbExists n q = true → s.blk.writable i (mbCs n q) = true →
      exec (.abort i n q v) s = .next (s.withBlk (s.blk.acked.mbWrite n q (v &&& ~~~ 0x001c0000 ||| 0x00080000)))) ∧
  (∀ (i : Init) (n q : Nat) (v : W32) (s : State), mbExists n q = true → s.blk.writable i (mbCs n q) = true →
      exec (.mbCodeWrite i n q v) s = .next (s.withBlk (s.blk.acked.mbWrite n q v))) ∧
  (∀ (i : Init) (n q : Nat) (v : W32) (s : State), mbExists n q = true → s.blk.writable i (mbCs n q) = true →
      exec (.mbLockWrite i n q v) s = .next (s.withBlk (s.blk.acked.mbWrite n q v))) ∧
  (∀ (i : Init) (n : Nat) (s : State), n < 16 → s.blk.writable i (R.CAN_FIFO_POP n) = true →
      exec (.canFifoPop i n) s = .next (s.withBlk (s.blk.acked.fifoPop n))) ∧
  (∀ (lin : Bool) (n : Nat) (s : State), (if lin then n < 12 else n < 16) →
      exec (.txdDominantTimeout lin n) s = .next (s.withBlk (s.blk.txdTmo lin n)))

/-- What CAN frames, errors and transceivers do (R403, R402, R404, R405, R408, R412, R419): the next state of each
command. -/
def Obligations.CanFrameEvents : Prop :=
  (∀ (n : Nat) (s : State), n < 16 →
      exec (.canFrameStart n) s =
        .next (s.withBlk (if s.blk.kcRun && !s.blk.gateOff (0x20 + n) then s.blk.canStart n else s.blk))) ∧
  (∀ (n ns : Nat) (s : State), n < 16 → s.blk.gateOff (0x20 + n) = false →
      exec (.canTxComplete n ns) s = .next (s.withMem (s.blk.canSent s.mem n ns))) ∧
  (∀ (n : Nat) (s : State), n < 16 →
      exec (.canArbitrationLost n) s =
        .next (s.withBlk (if s.blk.kcRun && !s.blk.gateOff (0x20 + n) then (if (s.blk.canOf n).sending.isSome && s.blk.canHears n then (s.blk.canCnt n 7).canFail n 2 else s.blk) else s.blk))) ∧
  (∀ (n : Nat) (f : CanFrame) (s : State), n < 16 → s.blk.gateOff (0x20 + n) = false →
      exec (.canFrameReceive n f) s = .next (s.withMem (s.blk.canReceive s.mem n f))) ∧
  (∀ (n kind add : Nat) (s : State), n < 16 →
      exec (.canBusError n kind add) s =
        .next (s.withBlk (if s.blk.kcRun && !s.blk.gateOff (0x20 + n) then (if 2 ≤ kind ∧ kind ≤ 6 ∧ (add = 0 ∨ add = 1 ∨ add = 8) then s.blk.canError n kind add else s.blk) else s.blk))) ∧
  (∀ (n : Nat) (h : XcHeard) (s : State), n < 16 →
      exec (.transceiverWake n h) s = .next (s.withBlk (s.blk.xcHear n h))) ∧
  (∀ (n : Nat) (s : State), n < 16 →
      exec (.transceiverOverTemperature n true) s = .next (s.withBlk
        (if s.blk.on (F.XC_STAT_OT n) then s.blk else (s.blk.put (F.XC_STAT_OT n) 1).raise 147 n)) ∧
      exec (.transceiverOverTemperature n false) s = .next (s.withBlk (s.blk.put (F.XC_STAT_OT n) 0)))

/-- What the LIN controllers do (R415, R414, R416, R417, R418, R419): the next state of each command. -/
def Obligations.LinCommands : Prop :=
  (∀ (n : Nat) (s : State), n < 12 →
      exec (.linSlotStart n) s =
        .next (s.withBlk (if s.blk.kcRun && !s.blk.gateOff (0x30 + n) then s.blk.linSlot n else s.blk))) ∧
  (∀ (n id meas : Nat) (heard : List Byte) (s : State), n < 12 →
      exec (.linHeaderReceive n id meas heard) s =
        .next (s.withBlk (if s.blk.kcRun && !s.blk.gateOff (0x30 + n) then s.blk.linHeader n id meas heard else s.blk))) ∧
  (∀ (n : Nat) (data : List Byte) (sum : Nat) (badBit badStop : Bool) (s : State), n < 12 →
      exec (.linResponseComplete n data sum badBit badStop) s =
        .next (s.withBlk (if s.blk.kcRun && !s.blk.gateOff (0x30 + n) then s.blk.linResponse n data sum badBit badStop else s.blk))) ∧
  (∀ (n : Nat) (s : State), n < 12 →
      exec (.linResponseTimeout n) s =
        .next (s.withBlk (if s.blk.kcRun && !s.blk.gateOff (0x30 + n) then s.blk.linTimeout n else s.blk))) ∧
  (∀ (i : Init) (n id : Nat) (v : W32) (s : State), n < 12 → id < 64 → s.blk.writable i (R.LR_CFG n id) = true →
      exec (.linResponseUpdate i n id v) s = .next (s.withBlk (s.blk.acked.lrCfg n id (v ||| 0x80000000)))) ∧
  (∀ (i : Init) (n : Nat) (v : W32) (s : State), n < 12 → s.blk.writable i (R.LIN_CTL n) = true →
      exec (.sleepCmd i n v) s = .next (s.withBlk (s.blk.acked.linCtl n (v ||| 0x10000000)))) ∧
  (∀ (n : Nat) (s : State), n < 12 →
      exec (.linIdleTimeout n) s =
        .next (s.withBlk (if s.blk.kcRun && !s.blk.gateOff (0x30 + n) then (if s.blk.on (F.LIN_CTL_EN n) && !s.blk.linMaster n && (s.blk.linState n == 1 || s.blk.linState n == 2) && decide ((s.blk.linOf n).busAt + 4 * tickSec ≤ s.blk.clk) then (s.blk.setLin n { s.blk.linOf n with cur := none }).linSleep n else s.blk) else s.blk))) ∧
  (∀ (n : Nat) (s : State), n < 12 →
      exec (.linWakePulse n) s = .next (s.withBlk (s.blk.linPulse n))) ∧
  (∀ (i : Init) (n : Nat) (v : W32) (s : State), n < 12 → s.blk.writable i (R.LIN_CTL n) = true →
      exec (.wakeReq i n v) s = .next (s.withBlk (s.blk.acked.linCtl n (v ||| 0x08000000)))) ∧
  (∀ (n : Nat) (s : State), n < 12 →
      exec (.linBusDominant n true) s = .next (s.withBlk
        (if s.blk.on (F.XL_STAT_BUS_SHORT n) then s.blk else (s.blk.put (F.XL_STAT_BUS_SHORT n) 1).raise 149 n)) ∧
      exec (.linBusDominant n false) s = .next (s.withBlk (s.blk.put (F.XL_STAT_BUS_SHORT n) 0)))

/-- What time bases, captures, pulses and the Tally do (R426, R428, R429, R434, R436, R446, R438, R439, R440): the next
state of each command. -/
def Obligations.TimeCommands : Prop :=
  (∀ (x : Nat) (s : State), x < 2 →
      exec (.timeBaseWrap x) s = .next (s.withBlk (if s.blk.wrapsNext x then s.blk.tick else s.blk))) ∧
  (∀ (i : Init) (x : Nat) (v : W32) (s : State), x < 2 → s.blk.writable i (R.TB_OFFS x) = true →
      exec (.tbOffsWrite i x v) s = .next (s.withBlk (s.blk.acked.offsWrite x v))) ∧
  (∀ (i : Init) (x : Nat) (v : W32) (s : State), x < 2 → s.blk.writable i (R.TB_STEP x) = true →
      exec (.tbStepWrite i x v) s = .next (s.withBlk (s.blk.acked.tbStep x v.toInt))) ∧
  (∀ (i : Init) (x : Nat) (s : State), x < 2 → s.blk.writable i (R.TB_CMD x) = true →
      exec (.set i x) s = .next (s.withBlk (s.blk.acked.tbSet x))) ∧
  (∀ (x : Nat) (s : State), x < 2 →
      exec (.clampTimeout x) s = .next (s.withBlk (s.blk.clampLong x))) ∧
  (∀ (i : Init) (x : Nat) (s : State), x < 2 → s.blk.readable i (R.TB_NS x) = true →
      exec (.tbNsRead i x) s =
        .next (s.withBlk ({ s.blk.acked.put (F.TB_WRAP_LAT_WRAP x) (s.blk.acked.ext x / 2 ^ 32) with resp := .data (s.blk.acked.ext x % 2 ^ 32) }))) ∧
  (∀ (src : Nat) (rise : Bool) (s : State),
      exec (.timeCapture src rise) s = .next (s.withBlk (if s.blk.kcRun then s.blk.captureEvent src rise else s.blk))) ∧
  (∀ (i : Init) (p : Nat) (s : State), p < 26 → s.blk.writable i (R.PTS_POP p) = true →
      exec (.ptsPop i p) s = .next (s.withBlk (s.blk.acked.setPts p (s.blk.acked.ptsOf p).tail))) ∧
  (∀ (i : Init) (p : Nat) (v : W32) (s : State), p < 2 → s.blk.writable i (R.PO_CTL p) = true →
      exec (.pulseEnable i p v) s = .next (s.withBlk (s.blk.acked.poWrite p v))) ∧
  (∀ (p : Nat) (s : State), p < 2 →
      exec (.pulseRise p) s = .next (s.withBlk (s.blk.poRise p))) ∧
  (∀ (p : Nat) (s : State), p < 2 →
      exec (.pulseFall p) s = .next (s.withBlk (s.blk.poFall p))) ∧
  (∀ (i : Init) (v : W32) (s : State), s.blk.writable i R.TALLY_CTL = true →
      exec (.arm i v) s = .next (s.withBlk (s.blk.acked.tallyCtl (v ||| F.TALLY_CTL_ARM.mask)))) ∧
  (∀ (i : Init) (v : W32) (s : State), s.blk.writable i R.TALLY_CTL = true →
      exec (.armStop i v) s = .next (s.withBlk (s.blk.acked.tallyCtl (v ||| F.TALLY_CTL_ARM_STOP.mask)))) ∧
  (∀ s : State,
      exec .tallyStrobe s = .next (s.withBlk (s.blk.tallyStrobe)))

/-- What the ring engines do (R449, R451, R452, R453, R454): the next state of each command. -/
def Obligations.RingCommands : Prop :=
  (∀ (i : Init) (n : Nat) (v : W32) (s : State), n < 16 → s.blk.writable i (R.NM_CFG n) = true →
      exec (.ringEnable i n v) s = .next (s.withBlk (s.blk.acked.ringCfg n v))) ∧
  (∀ (n : Nat) (f : CanFrame) (s : State), n < 16 →
      exec (.ringFrameReceive n f) s = .next (s.withBlk (s.blk.ringReceive n f))) ∧
  (∀ (n : Nat) (s : State), n < 16 →
      exec (.ringTypTimer n) s = .next (s.withBlk (s.blk.ringTypTimer n))) ∧
  (∀ (n : Nat) (s : State), n < 16 →
      exec (.ringMaxTimeout n) s = .next (s.withBlk (s.blk.ringMaxTimeout n))) ∧
  (∀ (n : Nat) (s : State), n < 16 →
      exec (.ringWbsExpiry n) s = .next (s.withBlk (s.blk.ringReady n))) ∧
  (∀ (n : Nat) (s : State), n < 16 →
      exec (.ringEngineBusOff n) s = .next (s.withBlk (s.blk.ringBusOff n))) ∧
  (∀ (n : Nat) (s : State), n < 16 →
      exec (.ringEngineRecovery n) s = .next (s.withBlk (s.blk.ringRecover n))) ∧
  (∀ (i : Init) (v : W32) (s : State), s.blk.writable i R.NM_CONSENT = true →
      exec (.consentWrite i v) s = .next (s.withBlk (s.blk.acked.consentWrite v))) ∧
  (∀ (i : Init) (s : State), s.blk.writable i R.NM_LEDGER_CLR = true →
      exec (.ledgerClear i) s = .next (s.withBlk (s.blk.acked.ledgerClear)))

/-- What hart control, timers, fences and interrupt files do (R470, R471, R472, R496, R484, R474, R485, R489, R491): the
next state of each command. -/
def Obligations.HartCommands : Prop :=
  (∀ (h cmp : Nat) (s : State), s.blk.kcRun = true →
      (isHart h = true → exec (.timerInterrupt h 0 cmp) s =
        .next (s.withBlk ((s.blk.setHart h (s.blk.hartOf h)).timerSync h))) ∧
      (isApp h = true → exec (.timerInterrupt h 1 cmp) s = .next (s.withBlk
        ((s.blk.setHart h { s.blk.hartOf h with stimecmp := cmp % 2 ^ 64 }).timerSync h))) ∧
      (isApp h = true → exec (.timerInterrupt h 2 cmp) s = .next (s.withBlk
        ((s.blk.setHart h { s.blk.hartOf h with vstimecmp := cmp % 2 ^ 64 }).timerSync h)))) ∧
  (∀ (i : Init) (h key : Nat) (s : State), isHart h = true → s.blk.writable i (R.SYSCTL_HART_CTL h) = true →
      exec (.release i h key) s =
        .next (s.withBlk (if key = 0xc3 then s.blk.acked.hartRelease h else s.blk.acked))) ∧
  (∀ (i : Init) (h key : Nat) (s : State), isHart h = true → s.blk.writable i (R.SYSCTL_HART_CTL h) = true →
      exec (.reset i h key) s =
        .next (s.withBlk (if key = 0xc3 then s.blk.acked.hartReset h else s.blk.acked))) ∧
  (∀ (i : Init) (h : Nat) (s : State), isHart h = true → s.blk.writable i (R.SYSCTL_HART_CTL h) = true →
      exec (.hartCmdNone i h) s = .next (s.withBlk (s.blk.acked))) ∧
  (∀ (h : Nat) (s : State), isHart h = true → s.blk.runs h = true →
      exec (.fence h) s = .next (s.withBlk
        (if s.blk.recut h then s.blk.serialise h .fence 0 0 else s.blk.fence h)) ∧
      (s.blk.recut h = false → s.blk.waits h = false → exec (.fence h) s = .next (s.withBlk s.blk.acked))) ∧
  (∀ (h : Nat) (s : State), isHart h = true → s.blk.runs h = true →
      exec (.fenceI h) s = .next (s.withBlk
        (if s.blk.recut h then s.blk.serialise h .fenceI 0 0 else s.blk.fenceI h)) ∧
      (s.blk.recut h = false → s.blk.waits h = false → exec (.fenceI h) s =
        .next (s.withBlk (if isApp h then s.blk.acked.lineDrop (fun c _ => c == h) else s.blk.acked)))) ∧
  (∀ (h rd : Nat) (s : State), isHart h = true → rd < 32 → s.blk.runs h = true →
      exec (.fenceField h rd) s = .next (s.withBlk
        (if s.blk.recut h then s.blk.serialise h (.fenceField rd) 0 0 (some rd) else s.blk.ffBegin h rd))) ∧
  (∀ (h : Nat) (s : State), isHart h = true →
      exec (.fenceFieldComplete h) s = .next (s.withBlk (s.blk.ffCheck h))) ∧
  (∀ (i : Init) (p v : Nat) (sec : Bool) (ctx : Nat) (s : State), isFile p = true → s.blk.attr i = some (sec, ctx) →
      s.blk.hvStop i = false → s.blk.recutInit i = none →
      (icuAccepts (p * 4096) sec ctx = true → s.blk.pmpOk i .write (p * 4096) 4 = true →
        exec (.seteipnumWrite i p false v) s = .next (s.withBlk (s.blk.fileDeliver p (v % 2 ^ 32)).acked)) ∧
      (icuAccepts (p * 4096 + 4) sec ctx = true → s.blk.pmpOk i .write (p * 4096 + 4) 4 = true →
        exec (.seteipnumWrite i p true v) s = .next (s.withBlk (s.blk.fileDeliver p (swap32 v)).acked))) ∧
  (∀ (q : Nat) (s : State), q < 128 →
      exec (.msiDelivery q) s =
        .next (s.withBlk (if s.blk.k.msi.contains q then ({ s.blk with k := { s.blk.k with msi := s.blk.k.msi.erase q } } : Blk).deliver (s.blk.ownOf 0x05 q).ctx (s.blk.fld (F.QP_IRQ_IDENT q)) else s.blk)))

/-- What Recut execution does (R514, R512, R517, R513, R501, R503, R505, R506, R508): the next state of each command.
Pass two computes on complemented values at indices XOR 0x10, through datapaths of its own; in a slice that its start
phase began, whatever its outputs returned and whatever its instructions are, neither comparator flags an output or what
the passes leave. The instructions of a slice between commands are a free value (assumption 97). -/
def Obligations.RecutCommands : Prop :=
  (∀ (h : Nat) (s : State), isHart h = true → s.blk.runs h = true → s.blk.fld F.KV_STAT_DBG_LEVEL ≠ 0 →
      exec (.debugHaltRequest h) s = .next (s.withBlk (s.blk.haltReq h)) ∧
      (s.blk.recut h = false → (s.blk.haltReq h).fld (F.SYSCTL_HART_STAT_STATE h) = 3) ∧
      (s.blk.recut h = true → ((s.blk.haltReq h).hartOf h).dbgReq = true)) ∧
  (∀ (h : Nat) (s : State), isSafety h = true → s.blk.runs h = true →
      (s.blk.recut h = false → exec (.recutBegin h) s = .next (s.withBlk s.blk.acked)) ∧
      (s.blk.recut h = true → s.blk.atInstr h →
        exec (.recutBegin h) s = .next (s.withBlk (s.blk.groupBegin h)) ∧
        (s.blk.groupBegin h).fld (F.RCX_STAT_GROUP (h - 16)) = 1)) ∧
  (∀ (h : Nat) (s : State), isSafety h = true → s.blk.runs h = true →
      (s.blk.recut h = false →
        exec (.recutEnd h) s = .next (s.withBlk { s.blk.giveRd h (s.blk.recutStatus h false false false) with
          resp := .data (s.blk.recutStatus h false false false) })) ∧
      (s.blk.recut h = true → s.blk.atInstr h →
        exec (.recutEnd h) s = .next (s.withBlk (s.blk.groupEnd h)) ∧
        ((s.blk.groupEnd h).hartOf h).ending = true ∧ (s.blk.groupEnd h).resp = .pending)) ∧
  (∀ (h v : Nat) (s : State), isSafety h = true → s.blk.runs h = true → (s.blk.hartOf h).prv = 3 →
      (s.blk.recut h = true → exec (.recutMode h v) s =
        .next (s.withBlk (s.blk.serialise h (.mode (v % 2 == 1)) 0 v))) ∧
      (s.blk.recut h = false → s.blk.fld (F.RCX_STAT_SWITCHABLE (h - 16)) = 0 → exec (.recutMode h v) s =
        .next (s.withBlk { s.blk.giveRd h (s.blk.recutStatus h true false false) with
          resp := .data (s.blk.recutStatus h true false false) })) ∧
      (s.blk.recut h = false → s.blk.fld (F.RCX_STAT_SWITCHABLE (h - 16)) ≠ 0 →
        (v % 2 = 0 → exec (.recutMode h v) s =
          .next (s.withBlk { s.blk.giveRd h (s.blk.recutStatus h false false false) with
            resp := .data (s.blk.recutStatus h false false false) })) ∧
        (v % 2 = 1 → ∃ t, exec (.recutMode h v) s = .next t ∧ t.blk.fld (F.RCX_STAT_MODE (h - 16)) = 1 ∧
          t.blk.fld (F.RCX_STAT_PHASE (h - 16)) = 1 ∧ (t.blk.hartOf h).cp = (t.blk.hartOf h).p1 ∧
          (t.blk.hartOf h).prog = [] ∧ RegsSame s.blk t.blk [R.RCX_STAT (h - 16)] ∧ t.mem = s.mem ∧
          t.pending = s.pending))) ∧
  (∀ (h : Nat) (ok : Bool) (s : State), isSafety h = true →
      exec (.passOneEnd h ok) s = .next (s.withBlk (s.blk.handOver h ok))) ∧
  (∀ (h : Nat) (s : State), isSafety h = true →
      exec (.passOneCycleLimit h) s = .next (s.withBlk (if s.blk.passOne h then s.blk.endBefore h else s.blk))) ∧
  (∀ (h : Nat) (s : State), isSafety h = true →
      exec (.echoLogFull h) s = .next (s.withBlk (if s.blk.passOne h then s.blk.endSlice h else s.blk))) ∧
  (∀ (h : Nat) (s : State), isSafety h = true →
      exec (.passTwoComplete h) s = .next (s.withBlk (s.blk.passTwo h)) ∧
      (s.blk.passTwoNow h = true → (s.blk.hartOf h).badAt = none → (s.blk.hartOf h).rawEnd = false →
        (s.blk.hartOf h).sigEnd = false → (s.blk.passTwo h).fld (F.RCX_STAT_PHASE (h - 16)) = 5)) ∧
  (∀ (x : Hart) (rets : Sparse Nat) (l : List RegOp),
      (x.ranSlice rets l).badAt = none ∧ (x.ranSlice rets l).rawEnd = false ∧ (x.ranSlice rets l).sigEnd = false) ∧
  (∀ (h : Nat) (raw sig timing log : Bool) (entry kind addr : Nat) (s : State), isSafety h = true →
      exec (.sliceMismatch h raw sig timing log entry kind addr) s =
        .next (s.withBlk (s.blk.mismatch h raw sig timing log entry kind addr))) ∧
  (∀ (h : Nat) (s : State), isSafety h = true →
      exec (.commitComplete h) s = .next (s.withMem (s.blk.commit s.mem h)))

/-- What page ownership, scrubbing, gates and clock gates do (R535, R480, R478, R538, R539, R537, R526, R531, R536,
R542, R543, R544, R546): the next state of each command. -/
def Obligations.MemoryAndWorldCommands : Prop :=
  (∀ s : State,
      exec .potFetch s = .next (s.withMem (s.blk.potArrive s.mem))) ∧
  (∀ s : State, s.blk.kcRun = true →
      exec .dramClearComplete s = .next (s.withBlk { s.blk.put F.SYSCTL_SCRUB_DRAM_CLR 0 with
        k := { (s.blk.put F.SYSCTL_SCRUB_DRAM_CLR 0).k with cleared := [] } })) ∧
  (∀ (k : Nat) (ce ue : List Nat) (s : State), k = 3 ∨ k = 5 → s.blk.kcRun = true → s.blk.scrubDue k = true →
      exec (.scrubPass k ce ue) s = .next (s.withBlk (s.blk.scrub k ce ue))) ∧
  (∀ (h pc rs1 : Nat) (pa : Option Nat) (err : Bool) (s : State), isHart h = true → s.blk.runs h = true →
      (s.blk.recut h = false → s.blk.irq h = none →
        exec (.gate h pc rs1 pa err) s = .next (s.withBlk (s.blk.gate s.mem h pc rs1 pa err))) ∧
      (s.blk.recut h = true → s.blk.atInstr h →
        ∃ t, exec (.gate h pc rs1 pa err) s = .next t ∧ (t.blk.hartOf h).ending = true ∧ t.blk.resp = .pending ∧
          RegsSame s.blk t.blk [] ∧ t.mem = s.mem ∧ t.pending = s.pending)) ∧
  (∀ (h g pc : Nat) (s : State), isHart h = true → s.blk.runs h = true →
      (s.blk.recut h = false → s.blk.irq h = none →
        exec (.gateRet h none) s = .next (s.withBlk (s.blk.gateRet h)) ∧
        ((s.blk.hartOf h).w = true → (s.blk.hartOf h).prv = 3 →
          exec (.gateRet h (some (g, pc))) s =
            .next (s.withBlk ((s.blk.setHart h ((s.blk.hartOf h).setRet g pc)).gateRet h)))) ∧
      (s.blk.recut h = true → s.blk.atInstr h →
        ∃ t, exec (.gateRet h none) s = .next t ∧ (t.blk.hartOf h).ending = true ∧ t.blk.resp = .pending ∧
          RegsSame s.blk t.blk [] ∧ t.mem = s.mem ∧ t.pending = s.pending)) ∧
  (∀ (h : Nat) (s : State), isHart h = true → s.blk.runs h = true →
      exec (.keystone h) s = .next (s.withBlk s.blk.acked)) ∧
  (∀ (h v : Nat) (s : State), isApp h = true → s.blk.runs h = true → (s.blk.hartOf h).v = false →
      (s.blk.hartOf h).prv ≠ 0 → (s.blk.hartOf h).w = false → (s.blk.hartOf h).ctx = 1 →
      s.blk.ctxNormalPart (v % 256) = true →
      exec (.hvctxWrite h v) s =
        .next (s.withBlk (s.blk.setHart h { s.blk.hartOf h with hvctx := v % 256 }).acked)) ∧
  (∀ (i : Init) (v : W32) (s : State), s.blk.writable i R.SEC_POT_CTL = true →
      exec (.potEnable i v) s = .next (s.withBlk (s.blk.acked.writeReg R.SEC_POT_CTL v))) ∧
  (∀ (i : Init) (first : Nat) (s : State), s.blk.writable i R.SEC_POT_INV = true →
      exec (.potInvalidate i first) s = .next (s.withBlk (s.blk.acked.potInv first))) ∧
  (∀ (f n : Nat) (s : State), s.blk.k.inv = some (f, n) →
      exec .potInvalidateDone s = .next (s.withBlk { (s.blk.put F.SEC_POT_INV_BUSY 0).potDrop f (f + n) with
        k := { ((s.blk.put F.SEC_POT_INV_BUSY 0).potDrop f (f + n)).k with inv := none } })) ∧
  (∀ (i : Init) (g : Nat) (v : W32) (s : State), gateExists g = true → s.blk.writable i (R.SYSCTL_GATE g) = true →
      exec (.gateRequest i g v) s = .next (s.withBlk (s.blk.acked.gateWrite g v))) ∧
  (∀ (i : Init) (g : Nat) (v : W32) (s : State), gateExists g = true → s.blk.writable i (R.SYSCTL_GATE_REL g) = true →
      exec (.gateRelease i g v) s = .next (s.withBlk (s.blk.acked.gateRel g v))) ∧
  (∀ (g : Nat) (s : State), gateExists g = true →
      exec (.gateChangeComplete g) s = .next (s.withBlk (if s.blk.kcRun then s.blk.gateDone g else s.blk))) ∧
  (∀ (g : Nat) (s : State), gateExists g = true →
      exec (.gateQuiesceTimeout g) s = .next (s.withBlk (if s.blk.kcRun then s.blk.gateLate g else s.blk)))

/-- What the ATU and context operations do (R554, R560, R557, R562, R559, R565): the next state of each command. -/
def Obligations.DeviceTranslationCommands : Prop :=
  (∀ (src u gen va n : Nat) (s : State), devExists src u = true → s.blk.kcRun = true → 0 < n → n ≤ burstLen va 64 →
      exec (.deviceDmaRequest src u gen va false [] n) s = .next (s.withMem (s.blk.dmaArrive s.mem
        ⟨src, u, s.blk.devCtx src u, gen % 256, va % 2 ^ 64, false, [], n, false⟩))) ∧
  (∀ s : State,
      exec .pageWalkComplete s = .next (s.withMem (s.blk.walkEnd s.mem))) ∧
  (∀ s : State,
      exec .dmaCompletion s = .next (s.withBlk (s.blk.dmaComplete))) ∧
  (∀ (i : Init) (all range : Bool) (c : Nat) (s : State), s.blk.writable i R.ATU_INV = true →
      exec (.atuInvalidate i all range c) s = .next (s.withBlk (s.blk.acked.atuInv all range c))) ∧
  (∀ (all range : Bool) (c v n : Nat) (s : State), s.blk.k.atu.inv = some (all, range, c, v, n) →
      exec .atuInvalidateDone s = .next (s.withBlk
        (((s.blk.put F.ATU_INV_BUSY 0).setAtu (fun a => { a with inv := none })).tlbDrop
          (fun e => all || (e.ctx == c && (!range || e.inRange v n)))))) ∧
  (∀ (i : Init) (c : Nat) (s : State), c < 256 → s.blk.writable i (R.ATU_CTX_CTL c) = true →
      exec (.stop i c) s = .next (s.withBlk (s.blk.acked.ctxWrite c 1))) ∧
  (∀ (i : Init) (c : Nat) (s : State), c < 256 → s.blk.writable i (R.ATU_CTX_CTL c) = true →
      exec (.start i c) s = .next (s.withBlk (s.blk.acked.ctxWrite c 2))) ∧
  (∀ (i : Init) (c : Nat) (s : State), c < 256 → s.blk.writable i (R.ATU_CTX_CTL c) = true →
      exec (.bump i c) s = .next (s.withBlk (s.blk.acked.ctxWrite c 3))) ∧
  (∀ (i : Init) (c : Nat) (s : State), c < 256 → s.blk.writable i (R.ATU_CTX_CTL c) = true →
      exec (.remove i c) s = .next (s.withBlk (s.blk.acked.ctxWrite c 4))) ∧
  (∀ (i : Init) (c : Nat) (s : State), c < 256 → s.blk.writable i (R.ATU_CTX_CTL c) = true →
      exec (.ctxOpIgnored i c) s = .next (s.withBlk (s.blk.acked))) ∧
  (∀ (c : Nat) (s : State), c < 256 →
      exec (.ctxOpDone c) s = .next (s.withMem (s.blk.ctxDone s.mem c))) ∧
  (∀ (c t : Nat) (s : State), c < 256 → s.blk.k.atu.bumpAt.get (fun _ => 0) c = t + 1 →
      t + tickMs ≤ s.blk.clk → s.blk.on (F.ATU_CTX_STAT_INFLIGHT c) = true →
      exec (.drainTimeout c) s = .next (s.withBlk
        (((s.blk.setAtu (fun a => { a with bumpAt := a.bumpAt.set (fun _ => 0) c 0 })).setBit F.ATU_EVT_EVT 2).raise
          208 c (some c)))) ∧
  (∀ (i : Init) (c : Nat) (v : W32) (s : State), c < 256 → s.blk.writable i (R.ATU_DIRTY_CTL c) = true →
      exec (.sync i c v) s =
        .next (s.withBlk ((s.blk.acked.writeReg (R.ATU_DIRTY_CTL c) v).put (F.ATU_DIRTY_CTL_BUSY c) 1))) ∧
  (∀ (c : Nat) (s : State), c < 256 →
      exec (.syncDone c) s = .next (s.withBlk (s.blk.put (F.ATU_DIRTY_CTL_BUSY c) 0)))

/-- What the field bridge does (R577, R587, R576, R17, R581, R582, R583): the next state of each command. -/
def Obligations.BridgeCommands : Prop :=
  (∀ (k fail : Nat) (s : State),
      exec (.fieldWriteApply k fail) s = .next (s.withBlk (s.blk.txReach k fail))) ∧
  (∀ (k : Nat) (s : State),
      exec (.applyNotice k) s = .next (s.withBlk (s.blk.notice k))) ∧
  (∀ (k fail : Nat) (s : State),
      exec (.readCompletion k fail) s = .next (s.withBlk (s.blk.txComplete k fail))) ∧
  (∀ (k : Nat) (s : State),
      exec (.completionTimeout k) s = .next (s.withBlk (s.blk.cplTimeout k))) ∧
  (∀ (l : Nat) (s : State), l < 13 → s.blk.kcRun = true →
      exec (.linkFrameResend l false) s = .next (s.withBlk (s.blk.incSat (F.BRG_LINK_RESENT l))) ∧
      exec (.linkFrameResend l true) s =
        .next (s.withBlk ((s.blk.incSat (F.BRG_LINK_FAIL l)).setBit F.BRG_EVT_EVT 2))) ∧
  (∀ (h a : Nat) (s : State), isHart h = true →
      exec (.fieldLr h a) s = .next (s.withBlk (s.blk.fieldAtomic (.hart h) 0 a 0))) ∧
  (∀ (h a v : Nat) (s : State), isHart h = true →
      exec (.fieldSc h a v) s = .next (s.withBlk (s.blk.fieldAtomic (.hart h) 1 a v))) ∧
  (∀ (h op a v : Nat) (s : State), isHart h = true → 2 ≤ op → op < 11 →
      exec (.fieldAmo h op a v) s = .next (s.withBlk (s.blk.fieldAtomic (.hart h) op a v))) ∧
  (∀ (k : Nat) (s : State), k < 16 →
      exec (.reservationTimeout k) s =
        .next (s.withBlk (if s.blk.on (F.BRG_SEM_HELD k) && s.blk.k.brg.semAt.get (fun _ => 0) k + 10 * tickUs ≤ s.blk.clk then ((s.blk.put (F.BRG_SEM_HELD k) 0).semSync).raise 174 k else s.blk))) ∧
  (∀ (n : Nat) (s : State),
      exec (.fieldInterruptMessage n) s =
        .next (s.withBlk (if s.blk.kcRun && s.blk.msgReady n then
          ({ s.blk with msgOut := s.blk.msgOut.filter (fun x => x.1 != n) } : Blk).deliver
            (s.blk.ownOf (msgUnit n).1 (msgUnit n).2).ctx (s.blk.fld (F.BRG_MID_IDENT n)) else s.blk)))

/-- What check-value units and crypto queues do (R600, R598, R599, R603, R627, R629): the next state of each command. -/
def Obligations.JobCommands : Prop :=
  (∀ (i : Init) (r : Nat) (v : W32) (s : State), r < 16 → s.blk.writable i (R.RING_TAIL r) = true →
      exec (.cvuRingTailWrite i r v) s = .next (s.withBlk { s.blk.acked.writeReg (R.RING_TAIL r) v with
        k := { (s.blk.acked.writeReg (R.RING_TAIL r) v).k with
          cvuWait := (s.blk.acked.writeReg (R.RING_TAIL r) v).k.cvuWait.set (fun _ => false) r false } })) ∧
  (∀ (k : Nat) (s : State), k < 4 →
      exec (.gen k) s = .next (s.withMem (s.blk.cvuRun s.mem k (fun op bad => op == 1 && !bad)))) ∧
  (∀ (k : Nat) (s : State), k < 4 →
      exec (.append k) s = .next (s.withMem (s.blk.cvuRun s.mem k (fun op bad => op == 2 && !bad)))) ∧
  (∀ (k : Nat) (s : State), k < 4 →
      exec (.check k) s = .next (s.withMem (s.blk.cvuRun s.mem k (fun op bad => op == 3 && !bad)))) ∧
  (∀ (k : Nat) (s : State), k < 4 →
      exec (.strip k) s = .next (s.withMem (s.blk.cvuRun s.mem k (fun op bad => op == 4 && !bad)))) ∧
  (∀ (k : Nat) (s : State), k < 4 →
      exec (.cvuBadArgument k) s = .next (s.withMem (s.blk.cvuRun s.mem k (fun _ bad => bad)))) ∧
  (∀ (i : Init) (r : Nat) (v : W32) (s : State), r < 16 → s.blk.writable i (R.RING_CTL r) = true →
      exec (.ringDisable i r v) s = .next (s.withBlk (s.blk.acked.ringCtl r (v &&& 0x7fffffff)))) ∧
  (∀ (k : Nat) (s : State), k < 4 →
      exec (.gcmEnc k) s = .next (s.withMem (s.blk.cryRun s.mem k (fun op bad => op == 1 && !bad)))) ∧
  (∀ (k : Nat) (s : State), k < 4 →
      exec (.gcmDec k) s = .next (s.withMem (s.blk.cryRun s.mem k (fun op bad => op == 2 && !bad)))) ∧
  (∀ (k : Nat) (s : State), k < 4 →
      exec (.cmacGen k) s = .next (s.withMem (s.blk.cryRun s.mem k (fun op bad => op == 3 && !bad)))) ∧
  (∀ (k : Nat) (s : State), k < 4 →
      exec (.cmacVer k) s = .next (s.withMem (s.blk.cryRun s.mem k (fun op bad => op == 4 && !bad)))) ∧
  (∀ (k : Nat) (s : State), k < 4 →
      exec (.sha384 k) s = .next (s.withMem (s.blk.cryRun s.mem k (fun op bad => op == 5 && !bad)))) ∧
  (∀ (k : Nat) (s : State), k < 4 →
      exec (.sign k) s = .next (s.withMem (s.blk.cryRun s.mem k (fun op bad => op == 6 && !bad)))) ∧
  (∀ (k : Nat) (s : State), k < 4 →
      exec (.verify k) s = .next (s.withMem (s.blk.cryRun s.mem k (fun op bad => op == 7 && !bad)))) ∧
  (∀ (k : Nat) (s : State), k < 4 →
      exec (.cryBadOpcode k) s = .next (s.withMem (s.blk.cryRun s.mem k (fun _ bad => bad)))) ∧
  (∀ (k j : Nat) (s : State), k < 4 →
      (List.range 4).find? (fun j => s.blk.on (F.CQ_STAT_BUSY (4 * k + j)) &&
        s.blk.k.wb.revoked.any (fun a => a.kind == 4 && a.unit == 4 * k + j)) = some j →
      exec (.cryptoBulkPause k) s = .next (s.withBlk (s.blk.bulkAsk (4 * k + j))))

/-- What the key vault, tamper alarms and quarantine do (R615, R613, R619, R620, R616, R630, R626, R624, R622, R625):
the next state of each command. -/
def Obligations.KeyCommands : Prop :=
  (∀ (i : Init) (slot : Nat) (s : State), s.blk.writable i R.KV_CMD = true →
      exec (.clear i slot) s = .next (s.withBlk (s.blk.acked.kvStart 1 slot false 0 0))) ∧
  (∀ (i : Init) (slot : Nat) (s : State), s.blk.writable i R.KV_CMD = true →
      exec (.load i slot) s = .next (s.withBlk (s.blk.acked.kvStart 2 slot false 0 0))) ∧
  (∀ (i : Init) (slot : Nat) (ds : Bool) (src : Nat) (s : State), s.blk.writable i R.KV_CMD = true →
      exec (.derive i slot ds src) s = .next (s.withBlk (s.blk.acked.kvStart 3 slot ds src 0))) ∧
  (∀ (i : Init) (slot : Nat) (s : State), s.blk.writable i R.KV_CMD = true →
      exec (.store i slot) s = .next (s.withBlk (s.blk.acked.kvStart 4 slot false 0 0))) ∧
  (∀ (i : Init) (slot : Nat) (s : State), s.blk.writable i R.KV_CMD = true →
      exec (.unstore i slot) s = .next (s.withBlk (s.blk.acked.kvStart 5 slot false 0 0))) ∧
  (∀ (i : Init) (slot : Nat) (s : State), s.blk.writable i R.KV_CMD = true →
      exec (.hkLoad i slot) s = .next (s.withBlk (s.blk.acked.kvStart 6 slot false 0 0))) ∧
  (∀ (i : Init) (slot : Nat) (s : State), s.blk.writable i R.KV_CMD = true →
      exec (.pubkey i slot) s = .next (s.withBlk (s.blk.acked.kvStart 7 slot false 0 0))) ∧
  (∀ (i : Init) (arg : Nat) (s : State), s.blk.writable i R.KV_CMD = true →
      exec (.extend i arg) s = .next (s.withBlk (s.blk.acked.kvStart 8 0 false 0 arg))) ∧
  (∀ (i : Init) (s : State), s.blk.writable i R.KV_CMD = true →
      exec (.attest i) s = .next (s.withBlk (s.blk.acked.kvStart 9 0 false 0 0))) ∧
  (∀ (i : Init) (s : State), s.blk.writable i R.KV_CMD = true →
      exec (.dbgChal i) s = .next (s.withBlk (s.blk.acked.kvStart 10 0 false 0 0))) ∧
  (∀ (i : Init) (level : Nat) (s : State), s.blk.writable i R.KV_CMD = true →
      exec (.dbgResp i level) s = .next (s.withBlk (s.blk.acked.kvStart 11 0 false 0 level))) ∧
  (∀ (i : Init) (s : State), s.blk.writable i R.KV_CMD = true →
      exec (.kvCmdInvalid i) s = .next (s.withBlk (s.blk.acked.kvStart 0 0 false 0 0))) ∧
  (∀ s : State,
      exec .kvCommandComplete s = .next (s.withMem (s.blk.kvComplete s.mem))) ∧
  (∀ (c live : Nat) (stuck : Bool) (s : State), c < 8 →
      exec (.tamperAlarm c live stuck) s = .next (s.withMem (s.blk.tamperAlarm s.mem c (live % 256) stuck))) ∧
  (∀ s : State, s.blk.dsOffDue = true → s.blk.kc = .down →
      exec .dsOffBlow s = .next (s.withBlk (({ s.blk with dsOffDue := false } : Blk).put F.TAMPER_STAT_HARD 1))) ∧
  (∀ s : State, s.blk.kc = .quar → s.blk.fld F.TAMPER_STAT_COUNT = 0 →
      exec .quarantineStatus s = .next (s.withBlk { s.blk with k := { s.blk.k with
        quarOut := quarSegment 1 0 1 (leBytes 4 (s.blk.reg R.TAMPER_STAT).toNat) :: quarCut 1 1 1 0 [] } })) ∧
  (∀ (nonce : List Byte) (s : State),
      exec (.quarantineAttest nonce) s =
        .next (s.withBlk (if s.blk.kc = .quar then { s.blk with k := { s.blk.k with quarOut := quarCut 2 0 12 12 (s.blk.attest 1 nonce) } } else s.blk))) ∧
  (∀ (t : List Byte) (s : State),
      exec (.quarantineRecovery t) s = .next (s.withBlk (if s.blk.kc = .quar then s.blk.recover625 t else s.blk)))

/-- What the fault collection unit does (R641, R643, R646, R654, R647, R648): the next state of each command. -/
def Obligations.FaultCommands : Prop :=
  (∀ (r : Raise) (s : State), s.blk.kc ≠ .down →
      exec (.faultRaise none) s = .next (s.withBlk s.blk.raiseNext) ∧
      (r.src < 384 → exec (.faultRaise (some r)) s = .next (s.withBlk (s.blk.deliverRaise r false)))) ∧
  (∀ (c : Nat) (r : Raise) (b : Blk) (s : State), c < 256 → s.blk.kcRun = true → s.blk.restartLate c = (some r, b) →
      exec (.restartTimeout c) s = .next (s.withBlk (b.deliverRaise r true))) ∧
  (∀ (k : Nat) (s : State), k < 384 →
      exec (.quietPeriodExpiry k) s = .next (s.withBlk (s.blk.quietEnd k))) ∧
  (∀ (k : Nat) (s : State), k < 384 →
      exec (.ackWindowClose k) s =
        .next (s.withBlk (if s.blk.kcRun && s.blk.windowClosed k then s.blk.deliverRaise (s.blk.k.fcu.last.get (fun k => ⟨k, none, none, 0⟩) k) true else s.blk))) ∧
  (∀ (i : Init) (k : Nat) (v : W32) (s : State), k < 384 → s.blk.writable i (R.FCU_SRC k) = true →
      exec (.clr i k v) s = .next (s.withBlk (s.blk.acked.srcWrite k ((F.FCU_SRC_CLR k).ins v 1)))) ∧
  (∀ (i : Init) (k : Nat) (v : W32) (s : State), k < 384 → s.blk.writable i (R.FCU_SRC k) = true →
      exec (.ack i k v) s = .next (s.withBlk (s.blk.acked.srcWrite k ((F.FCU_SRC_ACK k).ins v 1)))) ∧
  (∀ (i : Init) (k : Nat) (v : W32) (s : State), k < 384 → s.blk.writable i (R.FCU_SRC k) = true →
      exec (.rclr i k v) s = .next (s.withBlk (s.blk.acked.srcWrite k ((F.FCU_SRC_RCLR k).ins v 1)))) ∧
  (∀ (i : Init) (v : W32) (s : State), s.blk.writable i R.FCU_TEST = true →
      exec (.fcuTest i v) s = .next (s.withBlk (s.blk.acked.fcuTest v))) ∧
  (∀ (i : Init) (s : State), s.blk.writable i R.FCU_LOG_POP = true →
      exec (.fcuLogPop i) s = .next (s.withBlk (s.blk.acked.fcuPop 1))) ∧
  (∀ s : State,
      exec .fcuSelfCheckFail s =
        .next (s.withBlk (if s.blk.kcRun then s.blk.deliverRaise ⟨15, none, none, 0⟩ false else s.blk))) ∧
  (∀ s : State,
      exec .severityLineDisagree s =
        .next (s.withBlk (if s.blk.kcRun then s.blk.deliverRaise ⟨254, none, none, 0⟩ false else s.blk))) ∧
  (∀ (faultN alive : Bool) (s : State),
      exec (.pinReadback faultN alive) s = .next (s.withBlk (s.blk.pinRead faultN alive)))

/-- What the hub responder and plan checks do (R651, R655, R67, R77): the next state of each command. -/
def Obligations.ResponderAndPlanCommands : Prop :=
  (∀ (ch arg fresh : Nat) (mac : List Byte) (s : State),
      exec (.status ch arg fresh mac) s = .next (s.withBlk (s.blk.limp 1 ch arg fresh mac))) ∧
  (∀ (ch arg fresh : Nat) (mac : List Byte) (s : State),
      exec (.limpOff ch arg fresh mac) s = .next (s.withBlk (s.blk.limp 2 ch arg fresh mac))) ∧
  (∀ (ch arg fresh : Nat) (mac : List Byte) (s : State),
      exec (.limpOn ch arg fresh mac) s = .next (s.withBlk (s.blk.limp 3 ch arg fresh mac))) ∧
  (∀ (ch arg fresh : Nat) (mac : List Byte) (s : State),
      exec (.limpClear ch arg fresh mac) s = .next (s.withBlk (s.blk.limp 4 ch arg fresh mac))) ∧
  (∀ (ch arg fresh : Nat) (mac : List Byte) (s : State),
      exec (.allOff ch arg fresh mac) s = .next (s.withBlk (s.blk.limp 5 ch arg fresh mac))) ∧
  (∀ (op ch arg fresh : Nat) (mac : List Byte) (s : State), op = 0 ∨ 6 ≤ op →
      exec (.limpBadOpcode op ch arg fresh mac) s = .next (s.withBlk (s.blk.limp op ch arg fresh mac))) ∧
  (∀ s : State, s.blk.fld F.RESP_STAT_BLOCKED = 1 → s.blk.keeper.blockedAt + tickSec ≤ s.blk.clk →
      exec .responderBlockExpiry s = .next (s.withBlk (s.blk.put F.RESP_STAT_BLOCKED 0))) ∧
  (∀ (i : Init) (v : W32) (s : State), s.blk.writable i R.RESP_FRESH_HI = true →
      exec (.respFreshWrite i v) s = .next (s.withBlk (s.blk.acked.freshHiWrite v))) ∧
  (∀ (i : Init) (v : W32) (s : State), s.blk.writable i R.BPL_CMD = true →
      exec (.planCheck i v) s = .next (s.withBlk (s.blk.acked.bplCmd v))) ∧
  (∀ s : State, exec .planCheckComplete s = .next (s.withBlk (s.blk.checkEnd s.mem)))
end

