-- ==== Sys2Proof/Laws/Sparse.lean ====
section
/-!
SUPPORT. Laws/Sparse.lean: the laws of sparse maps. A read after a write to the same key gives the
value written, a write leaves every other key alone, and every operation keeps the canonical form.
-/

namespace Sys2Proof.Machine

variable {α : Type}

theorem Sparse.get_of_lt {d : Nat → α} {m : Sparse α} {k : Nat}
    (h : ∀ e ∈ m, k < e.1) : Sparse.get d m k = d k := by
  induction m with
  | nil => rfl
  | cons e m ih =>
    obtain ⟨j, v⟩ := e
    have hj : k < j := h (j, v) (by simp)
    rw [Sparse.get, if_neg (by omega)]
    exact ih fun e he => h e (List.mem_cons_of_mem _ he)

theorem Sparse.get_put (d : Nat → α) (m : Sparse α) (k : Nat) (v : α) (a : Nat) :
    Sparse.get d (Sparse.put m k v) a = if a = k then v else Sparse.get d m a := by
  induction m with
  | nil => simp [Sparse.put, Sparse.get, eq_comm]
  | cons e m ih =>
    obtain ⟨j, w⟩ := e
    simp only [Sparse.put]
    split
    · subst_vars
      by_cases h : a = j
      · simp [Sparse.get, h]
      · simp [Sparse.get, h, Ne.symm h]
    · split
      · by_cases h : a = k
        · simp [Sparse.get, h]
        · simp [Sparse.get, h, Ne.symm h]
      · by_cases h : a = k
        · subst h; simp [Sparse.get, *]
        · by_cases hj : j = a <;> simp [Sparse.get, ih, h, hj]

theorem Sparse.get_del (d : Nat → α) (m : Sparse α) (k a : Nat) :
    Sparse.get d (Sparse.del m k) a = if a = k then d k else Sparse.get d m a := by
  induction m with
  | nil => by_cases h : a = k <;> simp [Sparse.del, Sparse.get, h]
  | cons e m ih =>
    obtain ⟨j, v⟩ := e
    unfold Sparse.del at ih ⊢
    by_cases hj : j = k
    · subst hj
      by_cases h : a = j
      · subst h; simpa using ih
      · simp [Sparse.get, ih, h, Ne.symm h]
    · by_cases h : a = k
      · subst h; simp [Sparse.get, ih, hj]
      · by_cases hja : j = a <;> simp [Sparse.get, ih, h, hj, hja]

/-- A read after a write: the written key reads the value, every other key is left alone. -/
@[simp] theorem Sparse.get_set [DecidableEq α] (d : Nat → α) (m : Sparse α)
    (k : Nat) (v : α) (a : Nat) :
    Sparse.get d (Sparse.set d m k v) a = if a = k then v else Sparse.get d m a := by
  unfold Sparse.set
  split
  · subst_vars; rw [Sparse.get_del]
  · rw [Sparse.get_put]

theorem Sparse.mem_put {m : Sparse α} {k : Nat} {v : α} {e : Nat × α}
    (h : e ∈ Sparse.put m k v) : e = (k, v) ∨ e ∈ m := by
  induction m with
  | nil => simpa [Sparse.put] using h
  | cons f m ih =>
    obtain ⟨j, w⟩ := f
    simp only [Sparse.put] at h
    split at h
    · rcases List.mem_cons.1 h with h | h
      · exact .inl h
      · exact .inr (List.mem_cons_of_mem _ h)
    · split at h
      · rcases List.mem_cons.1 h with h | h
        · exact .inl h
        · exact .inr h
      · rcases List.mem_cons.1 h with h | h
        · exact .inr (h ▸ List.mem_cons_self)
        · rcases ih h with h | h
          · exact .inl h
          · exact .inr (List.mem_cons_of_mem _ h)

theorem Sparse.sorted_put {m : Sparse α} (hm : m.Pairwise (fun a b => a.1 < b.1)) (k : Nat) (v : α) :
    (Sparse.put m k v).Pairwise (fun a b => a.1 < b.1) := by
  induction m with
  | nil => simp [Sparse.put]
  | cons e m ih =>
    obtain ⟨j, w⟩ := e
    obtain ⟨h1, h2⟩ := List.pairwise_cons.1 hm
    simp only [Sparse.put]
    split
    · subst_vars; exact List.pairwise_cons.2 ⟨h1, h2⟩
    · split
      · refine List.pairwise_cons.2 ⟨fun e he => ?_, hm⟩
        rcases List.mem_cons.1 he with rfl | he
        · assumption
        · exact lt_trans ‹_› (h1 e he)
      · refine List.pairwise_cons.2 ⟨fun e he => ?_, ih h2⟩
        rcases Sparse.mem_put he with rfl | he
        · show j < k; omega
        · exact h1 e he

/-- Writing keeps the canonical form. -/
theorem Sparse.wf_set [DecidableEq α] {d : Nat → α} {m : Sparse α} (hm : Sparse.Wf d m)
    (k : Nat) (v : α) : Sparse.Wf d (Sparse.set d m k v) := by
  unfold Sparse.set
  split
  · exact ⟨hm.1.sublist List.filter_sublist, fun e he => hm.2 e (List.mem_of_mem_filter he)⟩
  · refine ⟨Sparse.sorted_put hm.1 k v, fun e he => ?_⟩
    rcases Sparse.mem_put he with rfl | he
    · assumption
    · exact hm.2 e he

/-- Dropping keys keeps the canonical form. -/
theorem Sparse.wf_keep {d : Nat → α} {m : Sparse α} (hm : Sparse.Wf d m) (p : Nat → Bool) :
    Sparse.Wf d (Sparse.keep p m) :=
  ⟨hm.1.sublist List.filter_sublist, fun e he => hm.2 e (List.mem_of_mem_filter he)⟩

theorem Sparse.wf_nil (d : Nat → α) : Sparse.Wf d [] := ⟨.nil, by simp⟩

end Sys2Proof.Machine
end

