-- ==== Sys2Proof/Laws/State.lean ====
section
/-!
SUPPORT. Laws/State.lean: one lemma per field per update of the block, so that no proof unfolds a record update.
-/

namespace Sys2Proof.Machine

variable (b : Blk)

@[simp] theorem Blk.setReg_locks (a : Nat) (w : W32) : (b.setReg a w).locks = b.locks := rfl
@[simp] theorem Blk.setReg_clk (a : Nat) (w : W32) : (b.setReg a w).clk = b.clk := rfl
@[simp] theorem Blk.setReg_tb0 (a : Nat) (w : W32) : (b.setReg a w).tb0 = b.tb0 := rfl
@[simp] theorem Blk.setReg_resp (a : Nat) (w : W32) : (b.setReg a w).resp = b.resp := rfl
@[simp] theorem Blk.setReg_nfree (a : Nat) (w : W32) : (b.setReg a w).nfree = b.nfree := rfl
@[simp] theorem Blk.setReg_kc (a : Nat) (w : W32) : (b.setReg a w).kc = b.kc := rfl
@[simp] theorem Blk.setReg_mark (a : Nat) (w : W32) : (b.setReg a w).mark = b.mark := rfl
@[simp] theorem Blk.setReg_own (a : Nat) (w : W32) : (b.setReg a w).own = b.own := rfl
@[simp] theorem Blk.setReg_ownF (a : Nat) (w : W32) : (b.setReg a w).ownF = b.ownF := rfl
@[simp] theorem Blk.setReg_fcuIn (a : Nat) (w : W32) : (b.setReg a w).fcuIn = b.fcuIn := rfl
@[simp] theorem Blk.setReg_held (a : Nat) (w : W32) : (b.setReg a w).held = b.held := rfl
@[simp] theorem Blk.setReg_msgOut (a : Nat) (w : W32) : (b.setReg a w).msgOut = b.msgOut := rfl
@[simp] theorem Blk.setReg_hart (a : Nat) (w : W32) : (b.setReg a w).hart = b.hart := rfl
@[simp] theorem Blk.setReg_chan (a : Nat) (w : W32) : (b.setReg a w).chan = b.chan := rfl
@[simp] theorem Blk.setReg_die (a : Nat) (w : W32) : (b.setReg a w).die = b.die := rfl
@[simp] theorem Blk.setReg_nreq (a : Nat) (w : W32) : (b.setReg a w).nreq = b.nreq := rfl
@[simp] theorem Blk.setReg_reqWbg (a : Nat) (w : W32) : (b.setReg a w).reqWbg = b.reqWbg := rfl
@[simp] theorem Blk.setReg_reqUh (a : Nat) (w : W32) : (b.setReg a w).reqUh = b.reqUh := rfl
@[simp] theorem Blk.setReg_answers (a : Nat) (w : W32) : (b.setReg a w).answers = b.answers := rfl
@[simp] theorem Blk.setReg_uhWait (a : Nat) (w : W32) : (b.setReg a w).uhWait = b.uhWait := rfl
@[simp] theorem Blk.setReg_uhHold (a : Nat) (w : W32) : (b.setReg a w).uhHold = b.uhHold := rfl
@[simp] theorem Blk.setReg_wbgQueue (a : Nat) (w : W32) : (b.setReg a w).wbgQueue = b.wbgQueue := rfl
@[simp] theorem Blk.setReg_wbgGrants (a : Nat) (w : W32) : (b.setReg a w).wbgGrants = b.wbgGrants := rfl
@[simp] theorem Blk.setReg_uhStart (a : Nat) (w : W32) : (b.setReg a w).uhStart = b.uhStart := rfl
@[simp] theorem Blk.setReg_input (a : Nat) (w : W32) : (b.setReg a w).input = b.input := rfl
@[simp] theorem Blk.setReg_keeper (a : Nat) (w : W32) : (b.setReg a w).keeper = b.keeper := rfl
@[simp] theorem Blk.setReg_ring (a : Nat) (w : W32) : (b.setReg a w).ring = b.ring := rfl
@[simp] theorem Blk.setReg_wkFifo (a : Nat) (w : W32) : (b.setReg a w).wkFifo = b.wkFifo := rfl
@[simp] theorem Blk.setReg_wakeDue (a : Nat) (w : W32) : (b.setReg a w).wakeDue = b.wakeDue := rfl
@[simp] theorem Blk.setReg_slp (a : Nat) (w : W32) : (b.setReg a w).slp = b.slp := rfl
@[simp] theorem Blk.setReg_pwr (a : Nat) (w : W32) : (b.setReg a w).pwr = b.pwr := rfl
@[simp] theorem Blk.setReg_k (a : Nat) (w : W32) : (b.setReg a w).k = b.k := rfl
@[simp] theorem Blk.setReg_eTotal (a : Nat) (w : W32) : (b.setReg a w).eTotal = b.eTotal := rfl
@[simp] theorem Blk.setReg_strobe (a : Nat) (w : W32) : (b.setReg a w).strobe = b.strobe := rfl
@[simp] theorem Blk.setReg_dsOffDue (a : Nat) (w : W32) : (b.setReg a w).dsOffDue = b.dsOffDue := rfl
@[simp] theorem Blk.setReg_torn (a : Nat) (w : W32) : (b.setReg a w).torn = b.torn := rfl
@[simp] theorem Blk.setReg_nrand (a : Nat) (w : W32) : (b.setReg a w).nrand = b.nrand := rfl
@[simp] theorem Blk.setReg_poison (a : Nat) (w : W32) : (b.setReg a w).poison = b.poison := rfl
@[simp] theorem Blk.setReg_hk0 (a : Nat) (w : W32) : (b.setReg a w).hk0 = b.hk0 := rfl
@[simp] theorem Blk.setReg_rtcSub (a : Nat) (w : W32) : (b.setReg a w).rtcSub = b.rtcSub := rfl
@[simp] theorem Blk.setReg_rtcFrac (a : Nat) (w : W32) : (b.setReg a w).rtcFrac = b.rtcFrac := rfl
@[simp] theorem Blk.setReg_alarmDue (a : Nat) (w : W32) : (b.setReg a w).alarmDue = b.alarmDue := rfl
@[simp] theorem Blk.setReg_asleep (a : Nat) (w : W32) : (b.setReg a w).asleep = b.asleep := rfl
@[simp] theorem Blk.setReg_rtcZero (a : Nat) (w : W32) : (b.setReg a w).rtcZero = b.rtcZero := rfl

@[simp] theorem Blk.put_locks (f : Fld) (v : Nat) : (b.put f v).locks = b.locks := rfl
@[simp] theorem Blk.put_clk (f : Fld) (v : Nat) : (b.put f v).clk = b.clk := rfl
@[simp] theorem Blk.put_tb0 (f : Fld) (v : Nat) : (b.put f v).tb0 = b.tb0 := rfl
@[simp] theorem Blk.put_resp (f : Fld) (v : Nat) : (b.put f v).resp = b.resp := rfl
@[simp] theorem Blk.put_nfree (f : Fld) (v : Nat) : (b.put f v).nfree = b.nfree := rfl
@[simp] theorem Blk.put_kc (f : Fld) (v : Nat) : (b.put f v).kc = b.kc := rfl
@[simp] theorem Blk.put_mark (f : Fld) (v : Nat) : (b.put f v).mark = b.mark := rfl
@[simp] theorem Blk.put_own (f : Fld) (v : Nat) : (b.put f v).own = b.own := rfl
@[simp] theorem Blk.put_ownF (f : Fld) (v : Nat) : (b.put f v).ownF = b.ownF := rfl
@[simp] theorem Blk.put_fcuIn (f : Fld) (v : Nat) : (b.put f v).fcuIn = b.fcuIn := rfl
@[simp] theorem Blk.put_held (f : Fld) (v : Nat) : (b.put f v).held = b.held := rfl
@[simp] theorem Blk.put_msgOut (f : Fld) (v : Nat) : (b.put f v).msgOut = b.msgOut := rfl
@[simp] theorem Blk.put_hart (f : Fld) (v : Nat) : (b.put f v).hart = b.hart := rfl
@[simp] theorem Blk.put_chan (f : Fld) (v : Nat) : (b.put f v).chan = b.chan := rfl
@[simp] theorem Blk.put_die (f : Fld) (v : Nat) : (b.put f v).die = b.die := rfl
@[simp] theorem Blk.put_nreq (f : Fld) (v : Nat) : (b.put f v).nreq = b.nreq := rfl
@[simp] theorem Blk.put_reqWbg (f : Fld) (v : Nat) : (b.put f v).reqWbg = b.reqWbg := rfl
@[simp] theorem Blk.put_reqUh (f : Fld) (v : Nat) : (b.put f v).reqUh = b.reqUh := rfl
@[simp] theorem Blk.put_answers (f : Fld) (v : Nat) : (b.put f v).answers = b.answers := rfl
@[simp] theorem Blk.put_uhWait (f : Fld) (v : Nat) : (b.put f v).uhWait = b.uhWait := rfl
@[simp] theorem Blk.put_uhHold (f : Fld) (v : Nat) : (b.put f v).uhHold = b.uhHold := rfl
@[simp] theorem Blk.put_wbgQueue (f : Fld) (v : Nat) : (b.put f v).wbgQueue = b.wbgQueue := rfl
@[simp] theorem Blk.put_wbgGrants (f : Fld) (v : Nat) : (b.put f v).wbgGrants = b.wbgGrants := rfl
@[simp] theorem Blk.put_uhStart (f : Fld) (v : Nat) : (b.put f v).uhStart = b.uhStart := rfl
@[simp] theorem Blk.put_input (f : Fld) (v : Nat) : (b.put f v).input = b.input := rfl
@[simp] theorem Blk.put_keeper (f : Fld) (v : Nat) : (b.put f v).keeper = b.keeper := rfl
@[simp] theorem Blk.put_ring (f : Fld) (v : Nat) : (b.put f v).ring = b.ring := rfl
@[simp] theorem Blk.put_wkFifo (f : Fld) (v : Nat) : (b.put f v).wkFifo = b.wkFifo := rfl
@[simp] theorem Blk.put_wakeDue (f : Fld) (v : Nat) : (b.put f v).wakeDue = b.wakeDue := rfl
@[simp] theorem Blk.put_slp (f : Fld) (v : Nat) : (b.put f v).slp = b.slp := rfl
@[simp] theorem Blk.put_pwr (f : Fld) (v : Nat) : (b.put f v).pwr = b.pwr := rfl
@[simp] theorem Blk.put_k (f : Fld) (v : Nat) : (b.put f v).k = b.k := rfl
@[simp] theorem Blk.put_eTotal (f : Fld) (v : Nat) : (b.put f v).eTotal = b.eTotal := rfl
@[simp] theorem Blk.put_strobe (f : Fld) (v : Nat) : (b.put f v).strobe = b.strobe := rfl
@[simp] theorem Blk.put_dsOffDue (f : Fld) (v : Nat) : (b.put f v).dsOffDue = b.dsOffDue := rfl
@[simp] theorem Blk.put_torn (f : Fld) (v : Nat) : (b.put f v).torn = b.torn := rfl
@[simp] theorem Blk.put_nrand (f : Fld) (v : Nat) : (b.put f v).nrand = b.nrand := rfl
@[simp] theorem Blk.put_poison (f : Fld) (v : Nat) : (b.put f v).poison = b.poison := rfl
@[simp] theorem Blk.put_hk0 (f : Fld) (v : Nat) : (b.put f v).hk0 = b.hk0 := rfl
@[simp] theorem Blk.put_rtcSub (f : Fld) (v : Nat) : (b.put f v).rtcSub = b.rtcSub := rfl
@[simp] theorem Blk.put_rtcFrac (f : Fld) (v : Nat) : (b.put f v).rtcFrac = b.rtcFrac := rfl
@[simp] theorem Blk.put_alarmDue (f : Fld) (v : Nat) : (b.put f v).alarmDue = b.alarmDue := rfl
@[simp] theorem Blk.put_asleep (f : Fld) (v : Nat) : (b.put f v).asleep = b.asleep := rfl
@[simp] theorem Blk.put_rtcZero (f : Fld) (v : Nat) : (b.put f v).rtcZero = b.rtcZero := rfl

@[simp] theorem Blk.putB_locks (f : Fld) (v : Bool) : (b.putB f v).locks = b.locks := rfl
@[simp] theorem Blk.putB_clk (f : Fld) (v : Bool) : (b.putB f v).clk = b.clk := rfl
@[simp] theorem Blk.putB_tb0 (f : Fld) (v : Bool) : (b.putB f v).tb0 = b.tb0 := rfl
@[simp] theorem Blk.putB_resp (f : Fld) (v : Bool) : (b.putB f v).resp = b.resp := rfl
@[simp] theorem Blk.putB_nfree (f : Fld) (v : Bool) : (b.putB f v).nfree = b.nfree := rfl
@[simp] theorem Blk.putB_kc (f : Fld) (v : Bool) : (b.putB f v).kc = b.kc := rfl
@[simp] theorem Blk.putB_mark (f : Fld) (v : Bool) : (b.putB f v).mark = b.mark := rfl
@[simp] theorem Blk.putB_own (f : Fld) (v : Bool) : (b.putB f v).own = b.own := rfl
@[simp] theorem Blk.putB_ownF (f : Fld) (v : Bool) : (b.putB f v).ownF = b.ownF := rfl
@[simp] theorem Blk.putB_fcuIn (f : Fld) (v : Bool) : (b.putB f v).fcuIn = b.fcuIn := rfl
@[simp] theorem Blk.putB_held (f : Fld) (v : Bool) : (b.putB f v).held = b.held := rfl
@[simp] theorem Blk.putB_msgOut (f : Fld) (v : Bool) : (b.putB f v).msgOut = b.msgOut := rfl
@[simp] theorem Blk.putB_hart (f : Fld) (v : Bool) : (b.putB f v).hart = b.hart := rfl
@[simp] theorem Blk.putB_chan (f : Fld) (v : Bool) : (b.putB f v).chan = b.chan := rfl
@[simp] theorem Blk.putB_die (f : Fld) (v : Bool) : (b.putB f v).die = b.die := rfl
@[simp] theorem Blk.putB_nreq (f : Fld) (v : Bool) : (b.putB f v).nreq = b.nreq := rfl
@[simp] theorem Blk.putB_reqWbg (f : Fld) (v : Bool) : (b.putB f v).reqWbg = b.reqWbg := rfl
@[simp] theorem Blk.putB_reqUh (f : Fld) (v : Bool) : (b.putB f v).reqUh = b.reqUh := rfl
@[simp] theorem Blk.putB_answers (f : Fld) (v : Bool) : (b.putB f v).answers = b.answers := rfl
@[simp] theorem Blk.putB_uhWait (f : Fld) (v : Bool) : (b.putB f v).uhWait = b.uhWait := rfl
@[simp] theorem Blk.putB_uhHold (f : Fld) (v : Bool) : (b.putB f v).uhHold = b.uhHold := rfl
@[simp] theorem Blk.putB_wbgQueue (f : Fld) (v : Bool) : (b.putB f v).wbgQueue = b.wbgQueue := rfl
@[simp] theorem Blk.putB_wbgGrants (f : Fld) (v : Bool) : (b.putB f v).wbgGrants = b.wbgGrants := rfl
@[simp] theorem Blk.putB_uhStart (f : Fld) (v : Bool) : (b.putB f v).uhStart = b.uhStart := rfl
@[simp] theorem Blk.putB_input (f : Fld) (v : Bool) : (b.putB f v).input = b.input := rfl
@[simp] theorem Blk.putB_keeper (f : Fld) (v : Bool) : (b.putB f v).keeper = b.keeper := rfl
@[simp] theorem Blk.putB_ring (f : Fld) (v : Bool) : (b.putB f v).ring = b.ring := rfl
@[simp] theorem Blk.putB_wkFifo (f : Fld) (v : Bool) : (b.putB f v).wkFifo = b.wkFifo := rfl
@[simp] theorem Blk.putB_wakeDue (f : Fld) (v : Bool) : (b.putB f v).wakeDue = b.wakeDue := rfl
@[simp] theorem Blk.putB_slp (f : Fld) (v : Bool) : (b.putB f v).slp = b.slp := rfl
@[simp] theorem Blk.putB_pwr (f : Fld) (v : Bool) : (b.putB f v).pwr = b.pwr := rfl
@[simp] theorem Blk.putB_k (f : Fld) (v : Bool) : (b.putB f v).k = b.k := rfl
@[simp] theorem Blk.putB_eTotal (f : Fld) (v : Bool) : (b.putB f v).eTotal = b.eTotal := rfl
@[simp] theorem Blk.putB_strobe (f : Fld) (v : Bool) : (b.putB f v).strobe = b.strobe := rfl
@[simp] theorem Blk.putB_dsOffDue (f : Fld) (v : Bool) : (b.putB f v).dsOffDue = b.dsOffDue := rfl
@[simp] theorem Blk.putB_torn (f : Fld) (v : Bool) : (b.putB f v).torn = b.torn := rfl
@[simp] theorem Blk.putB_nrand (f : Fld) (v : Bool) : (b.putB f v).nrand = b.nrand := rfl
@[simp] theorem Blk.putB_poison (f : Fld) (v : Bool) : (b.putB f v).poison = b.poison := rfl
@[simp] theorem Blk.putB_hk0 (f : Fld) (v : Bool) : (b.putB f v).hk0 = b.hk0 := rfl
@[simp] theorem Blk.putB_rtcSub (f : Fld) (v : Bool) : (b.putB f v).rtcSub = b.rtcSub := rfl
@[simp] theorem Blk.putB_rtcFrac (f : Fld) (v : Bool) : (b.putB f v).rtcFrac = b.rtcFrac := rfl
@[simp] theorem Blk.putB_alarmDue (f : Fld) (v : Bool) : (b.putB f v).alarmDue = b.alarmDue := rfl
@[simp] theorem Blk.putB_asleep (f : Fld) (v : Bool) : (b.putB f v).asleep = b.asleep := rfl
@[simp] theorem Blk.putB_rtcZero (f : Fld) (v : Bool) : (b.putB f v).rtcZero = b.rtcZero := rfl

@[simp] theorem Blk.setChan_regs (n : Nat) (x : Chan) : (b.setChan n x).regs = b.regs := rfl
@[simp] theorem Blk.setChan_locks (n : Nat) (x : Chan) : (b.setChan n x).locks = b.locks := rfl
@[simp] theorem Blk.setChan_clk (n : Nat) (x : Chan) : (b.setChan n x).clk = b.clk := rfl
@[simp] theorem Blk.setChan_tb0 (n : Nat) (x : Chan) : (b.setChan n x).tb0 = b.tb0 := rfl
@[simp] theorem Blk.setChan_resp (n : Nat) (x : Chan) : (b.setChan n x).resp = b.resp := rfl
@[simp] theorem Blk.setChan_nfree (n : Nat) (x : Chan) : (b.setChan n x).nfree = b.nfree := rfl
@[simp] theorem Blk.setChan_kc (n : Nat) (x : Chan) : (b.setChan n x).kc = b.kc := rfl
@[simp] theorem Blk.setChan_mark (n : Nat) (x : Chan) : (b.setChan n x).mark = b.mark := rfl
@[simp] theorem Blk.setChan_own (n : Nat) (x : Chan) : (b.setChan n x).own = b.own := rfl
@[simp] theorem Blk.setChan_ownF (n : Nat) (x : Chan) : (b.setChan n x).ownF = b.ownF := rfl
@[simp] theorem Blk.setChan_fcuIn (n : Nat) (x : Chan) : (b.setChan n x).fcuIn = b.fcuIn := rfl
@[simp] theorem Blk.setChan_held (n : Nat) (x : Chan) : (b.setChan n x).held = b.held := rfl
@[simp] theorem Blk.setChan_msgOut (n : Nat) (x : Chan) : (b.setChan n x).msgOut = b.msgOut := rfl
@[simp] theorem Blk.setChan_hart (n : Nat) (x : Chan) : (b.setChan n x).hart = b.hart := rfl
@[simp] theorem Blk.setChan_die (n : Nat) (x : Chan) : (b.setChan n x).die = b.die := rfl
@[simp] theorem Blk.setChan_nreq (n : Nat) (x : Chan) : (b.setChan n x).nreq = b.nreq := rfl
@[simp] theorem Blk.setChan_reqWbg (n : Nat) (x : Chan) : (b.setChan n x).reqWbg = b.reqWbg := rfl
@[simp] theorem Blk.setChan_reqUh (n : Nat) (x : Chan) : (b.setChan n x).reqUh = b.reqUh := rfl
@[simp] theorem Blk.setChan_answers (n : Nat) (x : Chan) : (b.setChan n x).answers = b.answers := rfl
@[simp] theorem Blk.setChan_uhWait (n : Nat) (x : Chan) : (b.setChan n x).uhWait = b.uhWait := rfl
@[simp] theorem Blk.setChan_uhHold (n : Nat) (x : Chan) : (b.setChan n x).uhHold = b.uhHold := rfl
@[simp] theorem Blk.setChan_wbgQueue (n : Nat) (x : Chan) : (b.setChan n x).wbgQueue = b.wbgQueue := rfl
@[simp] theorem Blk.setChan_wbgGrants (n : Nat) (x : Chan) : (b.setChan n x).wbgGrants = b.wbgGrants := rfl
@[simp] theorem Blk.setChan_uhStart (n : Nat) (x : Chan) : (b.setChan n x).uhStart = b.uhStart := rfl
@[simp] theorem Blk.setChan_input (n : Nat) (x : Chan) : (b.setChan n x).input = b.input := rfl
@[simp] theorem Blk.setChan_keeper (n : Nat) (x : Chan) : (b.setChan n x).keeper = b.keeper := rfl
@[simp] theorem Blk.setChan_ring (n : Nat) (x : Chan) : (b.setChan n x).ring = b.ring := rfl
@[simp] theorem Blk.setChan_wkFifo (n : Nat) (x : Chan) : (b.setChan n x).wkFifo = b.wkFifo := rfl
@[simp] theorem Blk.setChan_wakeDue (n : Nat) (x : Chan) : (b.setChan n x).wakeDue = b.wakeDue := rfl
@[simp] theorem Blk.setChan_slp (n : Nat) (x : Chan) : (b.setChan n x).slp = b.slp := rfl
@[simp] theorem Blk.setChan_pwr (n : Nat) (x : Chan) : (b.setChan n x).pwr = b.pwr := rfl
@[simp] theorem Blk.setChan_k (n : Nat) (x : Chan) : (b.setChan n x).k = b.k := rfl
@[simp] theorem Blk.setChan_eTotal (n : Nat) (x : Chan) : (b.setChan n x).eTotal = b.eTotal := rfl
@[simp] theorem Blk.setChan_strobe (n : Nat) (x : Chan) : (b.setChan n x).strobe = b.strobe := rfl
@[simp] theorem Blk.setChan_dsOffDue (n : Nat) (x : Chan) : (b.setChan n x).dsOffDue = b.dsOffDue := rfl
@[simp] theorem Blk.setChan_torn (n : Nat) (x : Chan) : (b.setChan n x).torn = b.torn := rfl
@[simp] theorem Blk.setChan_nrand (n : Nat) (x : Chan) : (b.setChan n x).nrand = b.nrand := rfl
@[simp] theorem Blk.setChan_poison (n : Nat) (x : Chan) : (b.setChan n x).poison = b.poison := rfl
@[simp] theorem Blk.setChan_hk0 (n : Nat) (x : Chan) : (b.setChan n x).hk0 = b.hk0 := rfl
@[simp] theorem Blk.setChan_rtcSub (n : Nat) (x : Chan) : (b.setChan n x).rtcSub = b.rtcSub := rfl
@[simp] theorem Blk.setChan_rtcFrac (n : Nat) (x : Chan) : (b.setChan n x).rtcFrac = b.rtcFrac := rfl
@[simp] theorem Blk.setChan_alarmDue (n : Nat) (x : Chan) : (b.setChan n x).alarmDue = b.alarmDue := rfl
@[simp] theorem Blk.setChan_asleep (n : Nat) (x : Chan) : (b.setChan n x).asleep = b.asleep := rfl
@[simp] theorem Blk.setChan_rtcZero (n : Nat) (x : Chan) : (b.setChan n x).rtcZero = b.rtcZero := rfl

@[simp] theorem Blk.setDie_regs (n : Nat) (x : Die) : (b.setDie n x).regs = b.regs := rfl
@[simp] theorem Blk.setDie_locks (n : Nat) (x : Die) : (b.setDie n x).locks = b.locks := rfl
@[simp] theorem Blk.setDie_clk (n : Nat) (x : Die) : (b.setDie n x).clk = b.clk := rfl
@[simp] theorem Blk.setDie_tb0 (n : Nat) (x : Die) : (b.setDie n x).tb0 = b.tb0 := rfl
@[simp] theorem Blk.setDie_resp (n : Nat) (x : Die) : (b.setDie n x).resp = b.resp := rfl
@[simp] theorem Blk.setDie_nfree (n : Nat) (x : Die) : (b.setDie n x).nfree = b.nfree := rfl
@[simp] theorem Blk.setDie_kc (n : Nat) (x : Die) : (b.setDie n x).kc = b.kc := rfl
@[simp] theorem Blk.setDie_mark (n : Nat) (x : Die) : (b.setDie n x).mark = b.mark := rfl
@[simp] theorem Blk.setDie_own (n : Nat) (x : Die) : (b.setDie n x).own = b.own := rfl
@[simp] theorem Blk.setDie_ownF (n : Nat) (x : Die) : (b.setDie n x).ownF = b.ownF := rfl
@[simp] theorem Blk.setDie_fcuIn (n : Nat) (x : Die) : (b.setDie n x).fcuIn = b.fcuIn := rfl
@[simp] theorem Blk.setDie_held (n : Nat) (x : Die) : (b.setDie n x).held = b.held := rfl
@[simp] theorem Blk.setDie_msgOut (n : Nat) (x : Die) : (b.setDie n x).msgOut = b.msgOut := rfl
@[simp] theorem Blk.setDie_hart (n : Nat) (x : Die) : (b.setDie n x).hart = b.hart := rfl
@[simp] theorem Blk.setDie_chan (n : Nat) (x : Die) : (b.setDie n x).chan = b.chan := rfl
@[simp] theorem Blk.setDie_nreq (n : Nat) (x : Die) : (b.setDie n x).nreq = b.nreq := rfl
@[simp] theorem Blk.setDie_reqWbg (n : Nat) (x : Die) : (b.setDie n x).reqWbg = b.reqWbg := rfl
@[simp] theorem Blk.setDie_reqUh (n : Nat) (x : Die) : (b.setDie n x).reqUh = b.reqUh := rfl
@[simp] theorem Blk.setDie_answers (n : Nat) (x : Die) : (b.setDie n x).answers = b.answers := rfl
@[simp] theorem Blk.setDie_uhWait (n : Nat) (x : Die) : (b.setDie n x).uhWait = b.uhWait := rfl
@[simp] theorem Blk.setDie_uhHold (n : Nat) (x : Die) : (b.setDie n x).uhHold = b.uhHold := rfl
@[simp] theorem Blk.setDie_wbgQueue (n : Nat) (x : Die) : (b.setDie n x).wbgQueue = b.wbgQueue := rfl
@[simp] theorem Blk.setDie_wbgGrants (n : Nat) (x : Die) : (b.setDie n x).wbgGrants = b.wbgGrants := rfl
@[simp] theorem Blk.setDie_uhStart (n : Nat) (x : Die) : (b.setDie n x).uhStart = b.uhStart := rfl
@[simp] theorem Blk.setDie_input (n : Nat) (x : Die) : (b.setDie n x).input = b.input := rfl
@[simp] theorem Blk.setDie_keeper (n : Nat) (x : Die) : (b.setDie n x).keeper = b.keeper := rfl
@[simp] theorem Blk.setDie_ring (n : Nat) (x : Die) : (b.setDie n x).ring = b.ring := rfl
@[simp] theorem Blk.setDie_wkFifo (n : Nat) (x : Die) : (b.setDie n x).wkFifo = b.wkFifo := rfl
@[simp] theorem Blk.setDie_wakeDue (n : Nat) (x : Die) : (b.setDie n x).wakeDue = b.wakeDue := rfl
@[simp] theorem Blk.setDie_slp (n : Nat) (x : Die) : (b.setDie n x).slp = b.slp := rfl
@[simp] theorem Blk.setDie_pwr (n : Nat) (x : Die) : (b.setDie n x).pwr = b.pwr := rfl
@[simp] theorem Blk.setDie_k (n : Nat) (x : Die) : (b.setDie n x).k = b.k := rfl
@[simp] theorem Blk.setDie_eTotal (n : Nat) (x : Die) : (b.setDie n x).eTotal = b.eTotal := rfl
@[simp] theorem Blk.setDie_strobe (n : Nat) (x : Die) : (b.setDie n x).strobe = b.strobe := rfl
@[simp] theorem Blk.setDie_dsOffDue (n : Nat) (x : Die) : (b.setDie n x).dsOffDue = b.dsOffDue := rfl
@[simp] theorem Blk.setDie_torn (n : Nat) (x : Die) : (b.setDie n x).torn = b.torn := rfl
@[simp] theorem Blk.setDie_nrand (n : Nat) (x : Die) : (b.setDie n x).nrand = b.nrand := rfl
@[simp] theorem Blk.setDie_poison (n : Nat) (x : Die) : (b.setDie n x).poison = b.poison := rfl
@[simp] theorem Blk.setDie_hk0 (n : Nat) (x : Die) : (b.setDie n x).hk0 = b.hk0 := rfl
@[simp] theorem Blk.setDie_rtcSub (n : Nat) (x : Die) : (b.setDie n x).rtcSub = b.rtcSub := rfl
@[simp] theorem Blk.setDie_rtcFrac (n : Nat) (x : Die) : (b.setDie n x).rtcFrac = b.rtcFrac := rfl
@[simp] theorem Blk.setDie_alarmDue (n : Nat) (x : Die) : (b.setDie n x).alarmDue = b.alarmDue := rfl
@[simp] theorem Blk.setDie_asleep (n : Nat) (x : Die) : (b.setDie n x).asleep = b.asleep := rfl
@[simp] theorem Blk.setDie_rtcZero (n : Nat) (x : Die) : (b.setDie n x).rtcZero = b.rtcZero := rfl

@[simp] theorem Blk.setInput_regs (n : Nat) (x : Input) : (b.setInput n x).regs = b.regs := rfl
@[simp] theorem Blk.setInput_locks (n : Nat) (x : Input) : (b.setInput n x).locks = b.locks := rfl
@[simp] theorem Blk.setInput_clk (n : Nat) (x : Input) : (b.setInput n x).clk = b.clk := rfl
@[simp] theorem Blk.setInput_tb0 (n : Nat) (x : Input) : (b.setInput n x).tb0 = b.tb0 := rfl
@[simp] theorem Blk.setInput_resp (n : Nat) (x : Input) : (b.setInput n x).resp = b.resp := rfl
@[simp] theorem Blk.setInput_nfree (n : Nat) (x : Input) : (b.setInput n x).nfree = b.nfree := rfl
@[simp] theorem Blk.setInput_kc (n : Nat) (x : Input) : (b.setInput n x).kc = b.kc := rfl
@[simp] theorem Blk.setInput_mark (n : Nat) (x : Input) : (b.setInput n x).mark = b.mark := rfl
@[simp] theorem Blk.setInput_own (n : Nat) (x : Input) : (b.setInput n x).own = b.own := rfl
@[simp] theorem Blk.setInput_ownF (n : Nat) (x : Input) : (b.setInput n x).ownF = b.ownF := rfl
@[simp] theorem Blk.setInput_fcuIn (n : Nat) (x : Input) : (b.setInput n x).fcuIn = b.fcuIn := rfl
@[simp] theorem Blk.setInput_held (n : Nat) (x : Input) : (b.setInput n x).held = b.held := rfl
@[simp] theorem Blk.setInput_msgOut (n : Nat) (x : Input) : (b.setInput n x).msgOut = b.msgOut := rfl
@[simp] theorem Blk.setInput_hart (n : Nat) (x : Input) : (b.setInput n x).hart = b.hart := rfl
@[simp] theorem Blk.setInput_chan (n : Nat) (x : Input) : (b.setInput n x).chan = b.chan := rfl
@[simp] theorem Blk.setInput_die (n : Nat) (x : Input) : (b.setInput n x).die = b.die := rfl
@[simp] theorem Blk.setInput_nreq (n : Nat) (x : Input) : (b.setInput n x).nreq = b.nreq := rfl
@[simp] theorem Blk.setInput_reqWbg (n : Nat) (x : Input) : (b.setInput n x).reqWbg = b.reqWbg := rfl
@[simp] theorem Blk.setInput_reqUh (n : Nat) (x : Input) : (b.setInput n x).reqUh = b.reqUh := rfl
@[simp] theorem Blk.setInput_answers (n : Nat) (x : Input) : (b.setInput n x).answers = b.answers := rfl
@[simp] theorem Blk.setInput_uhWait (n : Nat) (x : Input) : (b.setInput n x).uhWait = b.uhWait := rfl
@[simp] theorem Blk.setInput_uhHold (n : Nat) (x : Input) : (b.setInput n x).uhHold = b.uhHold := rfl
@[simp] theorem Blk.setInput_wbgQueue (n : Nat) (x : Input) : (b.setInput n x).wbgQueue = b.wbgQueue := rfl
@[simp] theorem Blk.setInput_wbgGrants (n : Nat) (x : Input) : (b.setInput n x).wbgGrants = b.wbgGrants := rfl
@[simp] theorem Blk.setInput_uhStart (n : Nat) (x : Input) : (b.setInput n x).uhStart = b.uhStart := rfl
@[simp] theorem Blk.setInput_keeper (n : Nat) (x : Input) : (b.setInput n x).keeper = b.keeper := rfl
@[simp] theorem Blk.setInput_ring (n : Nat) (x : Input) : (b.setInput n x).ring = b.ring := rfl
@[simp] theorem Blk.setInput_wkFifo (n : Nat) (x : Input) : (b.setInput n x).wkFifo = b.wkFifo := rfl
@[simp] theorem Blk.setInput_wakeDue (n : Nat) (x : Input) : (b.setInput n x).wakeDue = b.wakeDue := rfl
@[simp] theorem Blk.setInput_slp (n : Nat) (x : Input) : (b.setInput n x).slp = b.slp := rfl
@[simp] theorem Blk.setInput_pwr (n : Nat) (x : Input) : (b.setInput n x).pwr = b.pwr := rfl
@[simp] theorem Blk.setInput_k (n : Nat) (x : Input) : (b.setInput n x).k = b.k := rfl
@[simp] theorem Blk.setInput_eTotal (n : Nat) (x : Input) : (b.setInput n x).eTotal = b.eTotal := rfl
@[simp] theorem Blk.setInput_strobe (n : Nat) (x : Input) : (b.setInput n x).strobe = b.strobe := rfl
@[simp] theorem Blk.setInput_dsOffDue (n : Nat) (x : Input) : (b.setInput n x).dsOffDue = b.dsOffDue := rfl
@[simp] theorem Blk.setInput_torn (n : Nat) (x : Input) : (b.setInput n x).torn = b.torn := rfl
@[simp] theorem Blk.setInput_nrand (n : Nat) (x : Input) : (b.setInput n x).nrand = b.nrand := rfl
@[simp] theorem Blk.setInput_poison (n : Nat) (x : Input) : (b.setInput n x).poison = b.poison := rfl
@[simp] theorem Blk.setInput_hk0 (n : Nat) (x : Input) : (b.setInput n x).hk0 = b.hk0 := rfl
@[simp] theorem Blk.setInput_rtcSub (n : Nat) (x : Input) : (b.setInput n x).rtcSub = b.rtcSub := rfl
@[simp] theorem Blk.setInput_rtcFrac (n : Nat) (x : Input) : (b.setInput n x).rtcFrac = b.rtcFrac := rfl
@[simp] theorem Blk.setInput_alarmDue (n : Nat) (x : Input) : (b.setInput n x).alarmDue = b.alarmDue := rfl
@[simp] theorem Blk.setInput_asleep (n : Nat) (x : Input) : (b.setInput n x).asleep = b.asleep := rfl
@[simp] theorem Blk.setInput_rtcZero (n : Nat) (x : Input) : (b.setInput n x).rtcZero = b.rtcZero := rfl

@[simp] theorem Blk.setHart_regs (n : Nat) (x : Hart) : (b.setHart n x).regs = b.regs := rfl
@[simp] theorem Blk.setHart_locks (n : Nat) (x : Hart) : (b.setHart n x).locks = b.locks := rfl
@[simp] theorem Blk.setHart_clk (n : Nat) (x : Hart) : (b.setHart n x).clk = b.clk := rfl
@[simp] theorem Blk.setHart_tb0 (n : Nat) (x : Hart) : (b.setHart n x).tb0 = b.tb0 := rfl
@[simp] theorem Blk.setHart_resp (n : Nat) (x : Hart) : (b.setHart n x).resp = b.resp := rfl
@[simp] theorem Blk.setHart_nfree (n : Nat) (x : Hart) : (b.setHart n x).nfree = b.nfree := rfl
@[simp] theorem Blk.setHart_kc (n : Nat) (x : Hart) : (b.setHart n x).kc = b.kc := rfl
@[simp] theorem Blk.setHart_mark (n : Nat) (x : Hart) : (b.setHart n x).mark = b.mark := rfl
@[simp] theorem Blk.setHart_own (n : Nat) (x : Hart) : (b.setHart n x).own = b.own := rfl
@[simp] theorem Blk.setHart_ownF (n : Nat) (x : Hart) : (b.setHart n x).ownF = b.ownF := rfl
@[simp] theorem Blk.setHart_fcuIn (n : Nat) (x : Hart) : (b.setHart n x).fcuIn = b.fcuIn := rfl
@[simp] theorem Blk.setHart_held (n : Nat) (x : Hart) : (b.setHart n x).held = b.held := rfl
@[simp] theorem Blk.setHart_msgOut (n : Nat) (x : Hart) : (b.setHart n x).msgOut = b.msgOut := rfl
@[simp] theorem Blk.setHart_chan (n : Nat) (x : Hart) : (b.setHart n x).chan = b.chan := rfl
@[simp] theorem Blk.setHart_die (n : Nat) (x : Hart) : (b.setHart n x).die = b.die := rfl
@[simp] theorem Blk.setHart_nreq (n : Nat) (x : Hart) : (b.setHart n x).nreq = b.nreq := rfl
@[simp] theorem Blk.setHart_reqWbg (n : Nat) (x : Hart) : (b.setHart n x).reqWbg = b.reqWbg := rfl
@[simp] theorem Blk.setHart_reqUh (n : Nat) (x : Hart) : (b.setHart n x).reqUh = b.reqUh := rfl
@[simp] theorem Blk.setHart_answers (n : Nat) (x : Hart) : (b.setHart n x).answers = b.answers := rfl
@[simp] theorem Blk.setHart_uhWait (n : Nat) (x : Hart) : (b.setHart n x).uhWait = b.uhWait := rfl
@[simp] theorem Blk.setHart_uhHold (n : Nat) (x : Hart) : (b.setHart n x).uhHold = b.uhHold := rfl
@[simp] theorem Blk.setHart_wbgQueue (n : Nat) (x : Hart) : (b.setHart n x).wbgQueue = b.wbgQueue := rfl
@[simp] theorem Blk.setHart_wbgGrants (n : Nat) (x : Hart) : (b.setHart n x).wbgGrants = b.wbgGrants := rfl
@[simp] theorem Blk.setHart_uhStart (n : Nat) (x : Hart) : (b.setHart n x).uhStart = b.uhStart := rfl
@[simp] theorem Blk.setHart_input (n : Nat) (x : Hart) : (b.setHart n x).input = b.input := rfl
@[simp] theorem Blk.setHart_keeper (n : Nat) (x : Hart) : (b.setHart n x).keeper = b.keeper := rfl
@[simp] theorem Blk.setHart_ring (n : Nat) (x : Hart) : (b.setHart n x).ring = b.ring := rfl
@[simp] theorem Blk.setHart_wkFifo (n : Nat) (x : Hart) : (b.setHart n x).wkFifo = b.wkFifo := rfl
@[simp] theorem Blk.setHart_wakeDue (n : Nat) (x : Hart) : (b.setHart n x).wakeDue = b.wakeDue := rfl
@[simp] theorem Blk.setHart_slp (n : Nat) (x : Hart) : (b.setHart n x).slp = b.slp := rfl
@[simp] theorem Blk.setHart_pwr (n : Nat) (x : Hart) : (b.setHart n x).pwr = b.pwr := rfl
@[simp] theorem Blk.setHart_k (n : Nat) (x : Hart) : (b.setHart n x).k = b.k := rfl
@[simp] theorem Blk.setHart_eTotal (n : Nat) (x : Hart) : (b.setHart n x).eTotal = b.eTotal := rfl
@[simp] theorem Blk.setHart_strobe (n : Nat) (x : Hart) : (b.setHart n x).strobe = b.strobe := rfl
@[simp] theorem Blk.setHart_dsOffDue (n : Nat) (x : Hart) : (b.setHart n x).dsOffDue = b.dsOffDue := rfl
@[simp] theorem Blk.setHart_torn (n : Nat) (x : Hart) : (b.setHart n x).torn = b.torn := rfl
@[simp] theorem Blk.setHart_nrand (n : Nat) (x : Hart) : (b.setHart n x).nrand = b.nrand := rfl
@[simp] theorem Blk.setHart_poison (n : Nat) (x : Hart) : (b.setHart n x).poison = b.poison := rfl
@[simp] theorem Blk.setHart_hk0 (n : Nat) (x : Hart) : (b.setHart n x).hk0 = b.hk0 := rfl
@[simp] theorem Blk.setHart_rtcSub (n : Nat) (x : Hart) : (b.setHart n x).rtcSub = b.rtcSub := rfl
@[simp] theorem Blk.setHart_rtcFrac (n : Nat) (x : Hart) : (b.setHart n x).rtcFrac = b.rtcFrac := rfl
@[simp] theorem Blk.setHart_alarmDue (n : Nat) (x : Hart) : (b.setHart n x).alarmDue = b.alarmDue := rfl
@[simp] theorem Blk.setHart_asleep (n : Nat) (x : Hart) : (b.setHart n x).asleep = b.asleep := rfl
@[simp] theorem Blk.setHart_rtcZero (n : Nat) (x : Hart) : (b.setHart n x).rtcZero = b.rtcZero := rfl

/-! ## The lifts to the state -/

theorem onBlk_next {ok : Bool} {s t : State} {f : Blk → Blk} (h : onBlk ok s f = .next t) :
    ok = true ∧ t.blk = f s.blk ∧ t.mem = s.mem ∧ t.pending = s.pending := by
  unfold onBlk at h
  split at h
  · cases h; exact ⟨by assumption, rfl, rfl, rfl⟩
  · cases h

theorem onMem_next {ok : Bool} {s t : State} {f : Blk → List Host.Cell → Blk × List Host.Cell}
    (h : onMem ok s f = .next t) :
    ok = true ∧ t.blk = (f s.blk s.mem).1 ∧ t.mem = (f s.blk s.mem).2 ∧ t.pending = s.pending := by
  unfold onMem at h
  split at h
  · cases h; exact ⟨by assumption, rfl, rfl, rfl⟩
  · cases h

theorem onClk_next {ok : Bool} {g : Nat} {s t : State} {f : Blk → Blk} (h : onClk ok g s f = .next t) :
    ok = true ∧ t.blk = (if s.blk.kcRun && !s.blk.gateOff g then f s.blk else s.blk) ∧ t.mem = s.mem ∧
      t.pending = s.pending := onBlk_next h

@[simp] theorem onBlk_true (s : State) (f : Blk → Blk) : onBlk true s f = .next { s with blk := f s.blk } := rfl
@[simp] theorem onBlk_false (s : State) (f : Blk → Blk) : onBlk false s f = .fault .noSuchUnit := rfl
@[simp] theorem onMem_true (s : State) (f : Blk → List Host.Cell → Blk × List Host.Cell) :
    onMem true s f = .next { s with blk := (f s.blk s.mem).1, mem := (f s.blk s.mem).2 } := rfl
@[simp] theorem onMem_false (s : State) (f : Blk → List Host.Cell → Blk × List Host.Cell) :
    onMem false s f = .fault .noSuchUnit := rfl

/-! ## Accesses -/

theorem Blk.onWrite_accepted {b : Blk} {i : Init} {a : Nat} (h : b.writable i a = true) (v : W32) (f : Blk → Blk) :
    b.onWrite i a v f = f { b with resp := .done } := by
  simp only [Blk.writable, Bool.and_eq_true, beq_iff_eq, Option.isNone_iff_eq_none] at h
  simp [Blk.onWrite, Blk.recutDev, h.1.1, h.1.2, h.2]

end Sys2Proof.Machine
end

