-- ==== Sys2Proof/Laws/Registers.lean ====
section
/-!
SUPPORT. Laws/Registers.lean: the laws of registers and fields. A field reads what was put into it, and every
other register and every other field keeps its value.
-/

namespace Sys2Proof.Machine

/-- The field lies within a register. -/
abbrev Fld.Ok (f : Fld) : Prop := f.lo ≤ f.hi ∧ f.hi < 32

@[simp] theorem Blk.reg_setReg (b : Blk) (a : Nat) (w : W32) (a' : Nat) :
    (b.setReg a w).reg a' = if a' = a then w else b.reg a' := by
  simp [Blk.reg, Blk.setReg, Sparse.get_set]

theorem Fld.getLsbD_mask (f : Fld) (k : Nat) (hf : f.Ok) :
    f.mask.getLsbD k = (decide (f.lo ≤ k) && decide (k ≤ f.hi)) := by
  obtain ⟨hl, hf⟩ := hf
  unfold Fld.mask Fld.width
  simp only [BitVec.getLsbD_shiftLeft, BitVec.getLsbD_ofNat, Nat.testBit_two_pow_sub_one]
  by_cases h1 : f.lo ≤ k <;> by_cases h2 : k ≤ f.hi <;> simp [h1, h2] <;> omega

theorem Fld.getLsbD_ins (f : Fld) (w : W32) (v k : Nat) (hf : f.Ok) :
    (f.ins w v).getLsbD k = if f.lo ≤ k ∧ k ≤ f.hi then v.testBit (k - f.lo) else w.getLsbD k := by
  unfold Fld.ins
  simp only [BitVec.getLsbD_or, BitVec.getLsbD_and, BitVec.getLsbD_not, Fld.getLsbD_mask f k hf,
    BitVec.getLsbD_shiftLeft, BitVec.getLsbD_ofNat]
  obtain ⟨hl, hf⟩ := hf
  by_cases h1 : f.lo ≤ k <;> by_cases h2 : k ≤ f.hi
  · have a1 : k < 32 := by omega
    have a2 : ¬ k < f.lo := by omega
    have a3 : k - f.lo < 32 := by omega
    simp [h1, h2, a1, a2, a3]
  all_goals
    simp only [h1, h2, decide_true, decide_false, Bool.and_false, Bool.not_false, Bool.and_true,
      Bool.or_false, and_false, false_and, if_false]
    by_cases h : k < 32
    · simp [h]
    · simp [h, BitVec.getLsbD_of_ge w k (by omega)]

theorem Fld.testBit_get (f : Fld) (w : W32) (k : Nat) (hl : f.lo ≤ f.hi) :
    (f.get w).testBit k = (decide (f.lo + k ≤ f.hi) && w.getLsbD (f.lo + k)) := by
  unfold Fld.get Fld.width
  have h : ∀ x : BitVec (f.hi - f.lo + 1), x.toNat.testBit k = x.getLsbD k := fun _ => rfl
  rw [h, BitVec.getLsbD_extractLsb']
  congr 1
  simp only [decide_eq_decide]
  omega

theorem Fld.get_ins (f : Fld) (w : W32) (v : Nat) (hf : f.Ok) : f.get (f.ins w v) = v % 2 ^ f.width := by
  apply Nat.eq_of_testBit_eq
  intro k
  rw [Fld.testBit_get _ _ _ hf.1, Fld.getLsbD_ins _ _ _ _ hf, Nat.testBit_mod_two_pow]
  have hl := hf.1
  unfold Fld.width
  by_cases h : f.lo + k ≤ f.hi
  · have h' : k < f.hi - f.lo + 1 := by omega
    simp [h, h']
  · have h' : ¬ k < f.hi - f.lo + 1 := by omega
    simp [h, h']

theorem Fld.get_ins_other (f g : Fld) (w : W32) (v : Nat) (hf : f.Ok) (hg : g.Ok)
    (h : f.hi < g.lo ∨ g.hi < f.lo) : g.get (f.ins w v) = g.get w := by
  apply Nat.eq_of_testBit_eq
  intro k
  rw [Fld.testBit_get _ _ _ hg.1, Fld.testBit_get _ _ _ hg.1, Fld.getLsbD_ins _ _ _ _ hf]
  by_cases hk : g.lo + k ≤ g.hi
  · rw [if_neg (by omega)]
  · simp [hk]

/-- A field reads what was put into it. -/
theorem Blk.fld_put_same (b : Blk) (f : Fld) (v : Nat) (hf : f.Ok) : (b.put f v).fld f = v % 2 ^ f.width := by
  simp [Blk.fld, Blk.put, Fld.get_ins f _ v hf]

/-- Every other register keeps its contents. -/
theorem Blk.reg_put_other (b : Blk) (f : Fld) (v a : Nat) (h : a ≠ f.a) : (b.put f v).reg a = b.reg a := by
  simp [Blk.put, h]

theorem Blk.fld_put_reg (b : Blk) (f g : Fld) (v : Nat) (h : g.a ≠ f.a) : (b.put f v).fld g = b.fld g := by
  simp [Blk.fld, Blk.put, h]

/-- A field that does not overlap keeps its value. -/
theorem Blk.fld_put_other (b : Blk) (f g : Fld) (v : Nat) (hf : f.Ok) (hg : g.Ok)
    (h : f.hi < g.lo ∨ g.hi < f.lo) : (b.put f v).fld g = b.fld g := by
  by_cases ha : g.a = f.a
  · simp [Blk.fld, Blk.put, ha, Fld.get_ins_other f g _ v hf hg h]
  · exact b.fld_put_reg f g v ha

theorem Blk.on_putB (b : Blk) (f : Fld) (v : Bool) (hf : f.Ok) : (b.putB f v).on f = v := by
  have h : (2 : Nat) ≤ 2 ^ f.width := by
    unfold Fld.width
    calc 2 = 2 ^ 1 := rfl
      _ ≤ _ := Nat.pow_le_pow_right (by omega) (by omega)
  unfold Blk.on Blk.putB
  rw [b.fld_put_same f _ hf]
  cases v
  · simp
  · rw [Bool.toNat_true, Nat.mod_eq_of_lt (by omega)]; rfl

/-- A write of a register leaves every other register alone. -/
theorem Blk.reg_writeReg_other (b : Blk) (a : Nat) (v : W32) (a' : Nat) (h : a' ≠ a) :
    (b.writeReg a v).reg a' = b.reg a' := by
  unfold Blk.writeReg
  split
  · rfl
  · simp [h]

/-- A write reaches only registers. -/
theorem Blk.writeReg_eq (b : Blk) (a : Nat) (v : W32) : ∃ w, b.writeReg a v = b ∨ b.writeReg a v = b.setReg a w := by
  unfold Blk.writeReg
  split
  · exact ⟨0, .inl rfl⟩
  · exact ⟨_, .inr rfl⟩

end Sys2Proof.Machine
end

