-- ==== Sys2Proof/Laws/Harts.lean ====
section
/-!
SUPPORT. Laws/Harts.lean: what the shared operations of harts and slices do: taking a trap, running an instruction in
pass one, and an instruction of a core in Recut mode.
-/

namespace Sys2Proof.Machine

variable (b : Blk)

@[simp] theorem Blk.hartOf_setHart (h : Nat) (x : Hart) : (b.setHart h x).hartOf h = x := by
  simp [Blk.hartOf, Blk.setHart]

theorem Blk.hartOf_setHart_ne {h j : Nat} (hn : j ≠ h) (x : Hart) : (b.setHart h x).hartOf j = b.hartOf j := by
  simp [Blk.hartOf, Blk.setHart, hn]

/-- A trap changes its hart alone. -/
@[simp] theorem Blk.trapAt_regs (h e c v : Nat) : (b.trapAt h e c v).regs = b.regs := rfl
@[simp] theorem Blk.trapAt_fcuIn (h e c v : Nat) : (b.trapAt h e c v).fcuIn = b.fcuIn := rfl
@[simp] theorem Blk.trapAt_k (h e c v : Nat) : (b.trapAt h e c v).k = b.k := rfl
@[simp] theorem Blk.trap_regs (h c v : Nat) : (b.trap h c v).regs = b.regs := rfl
@[simp] theorem Blk.trap_fcuIn (h c v : Nat) : (b.trap h c v).fcuIn = b.fcuIn := rfl
@[simp] theorem Blk.trap_k (h c v : Nat) : (b.trap h c v).k = b.k := rfl

/-- A hart in Single mode takes an exception at once, at a free pc (assumption 106). -/
theorem Blk.except_single {h : Nat} (hr : b.runs h = true) (hs : b.recut h = false) (c v : Nat) (r : Resp) :
    b.except (.hart h) c v r = { b.trap h c v with resp := r } := by simp [Blk.except, hr, hs]

/-- The boot ROM and the debugger see the answer alone. -/
@[simp] theorem Blk.except_boot (c v : Nat) (r : Resp) : b.except .boot c v r = { b with resp := r } := rfl
@[simp] theorem Blk.except_debug (c v : Nat) (r : Resp) : b.except .debug c v r = { b with resp := r } := rfl

/-! ## Instructions of a core in Recut mode -/

theorem Blk.redoGo_nil {h : Nat} (hr : (b.hartOf h).redo = []) : b.redoGo h = b := by simp [Blk.redoGo, hr]

/-- An instruction that finds its core in pass one is executed at once. -/
theorem Blk.atOne_atInstr {h : Nat} (ha : b.atInstr h) (f : Blk → Blk) : b.atOne h f = f b := by
  simp [Blk.atOne, b.redoGo_nil ha.2.2.2, ha.1, ha.2.2.1]

/-- Apart from its hart and the numbering of free values, an operation leaves the block as it is. -/
structure Blk.HartOnly (b c : Blk) : Prop where
  regs : c.regs = b.regs
  fcuIn : c.fcuIn = b.fcuIn
  k : c.k = b.k
  kc : c.kc = b.kc
  clk : c.clk = b.clk

namespace Blk.HartOnly

variable {b}

theorem refl (b : Blk) : HartOnly b b := ⟨rfl, rfl, rfl, rfl, rfl⟩
theorem trans {b c d : Blk} (h : HartOnly b c) (g : HartOnly c d) : HartOnly b d :=
  ⟨g.regs.trans h.regs, g.fcuIn.trans h.fcuIn, g.k.trans h.k, g.kc.trans h.kc, g.clk.trans h.clk⟩
theorem setHart (b : Blk) (h : Nat) (x : Hart) : HartOnly b (b.setHart h x) := ⟨rfl, rfl, rfl, rfl, rfl⟩
theorem withResp (b : Blk) (r : Resp) : HartOnly b { b with resp := r } := ⟨rfl, rfl, rfl, rfl, rfl⟩
theorem phase {b c : Blk} (h : HartOnly b c) (n : Nat) : c.phase n = b.phase n := by
  simp [Blk.phase, Blk.fld, Blk.reg, h.regs]
theorem foldl {α : Type} (f : Blk → α → Blk) (p : Blk → Prop) (hf : ∀ b x, p b → HartOnly b (f b x))
    (hp : ∀ b c, HartOnly b c → p b → p c) (l : List α) : ∀ b, p b → HartOnly b (l.foldl f b) := by
  induction l with
  | nil => exact fun b _ => refl b
  | cons x l ih => exact fun b h => (hf b x h).trans (ih _ (hp _ _ (hf b x h) h))

end Blk.HartOnly

theorem Blk.doOp_hartOnly {h : Nat} (hp : b.phase h ≠ 1) (o : RegOp) (r : Nat) : Blk.HartOnly b (b.doOp h o r) := by
  have hb : b.beginOne h = b := by simp [Blk.beginOne, hp]
  have he (c : Blk) (e : Echo) (_ : True) : Blk.HartOnly c (c.echo h e) := Blk.HartOnly.setHart _ _ _
  unfold Blk.doOp
  simp only [hb]
  have key (l : List Echo) (c : Blk) : Blk.HartOnly c (l.foldl (fun b e => b.echo h e) c) :=
    Blk.HartOnly.foldl _ (fun _ => True) he (fun _ _ _ _ => trivial) l c trivial
  split
  · exact ((Blk.HartOnly.setHart _ _ _).trans (key _ _)).trans (Blk.HartOnly.setHart _ _ _)
  · exact (Blk.HartOnly.setHart _ _ _).trans (key _ _)

theorem Blk.doInner_hartOnly {h : Nat} (hp : b.phase h ≠ 1) (o : RegOp) : Blk.HartOnly b (b.doInner h o) := by
  unfold Blk.doInner
  split
  · exact Blk.HartOnly.refl b
  · split
    · split
      · exact b.doOp_hartOnly hp _ _
      · exact Blk.HartOnly.refl b
    · exact b.doOp_hartOnly hp _ _

/-- What a core runs inside itself in pass one changes its hart alone. -/
theorem Blk.segment_hartOnly {h : Nat} (hp : b.phase h ≠ 1) : Blk.HartOnly b (b.segment h) := by
  unfold Blk.segment
  split
  · exact Blk.HartOnly.refl b
  · exact (⟨rfl, rfl, rfl, rfl, rfl⟩ : Blk.HartOnly b { b with nfree := b.nfree + 1 }).trans
      (Blk.HartOnly.foldl _ (fun c => c.phase h ≠ 1) (fun c o hc => c.doInner_hartOnly hc o)
        (fun c d hd hc => by rw [hd.phase]; exact hc) _ _ hp)

theorem Blk.redoTake_hartOnly (h : Nat) (f : RegOp → Bool) : Blk.HartOnly b (b.redoTake h f) := by
  unfold Blk.redoTake
  dsimp only
  split
  · exact Blk.HartOnly.refl b
  · exact Blk.HartOnly.setHart _ _ _

theorem Blk.endAct_hartOnly (h : Nat) (a : Act) : Blk.HartOnly b (b.endAct h a) :=
  (Blk.HartOnly.setHart b h _).trans (Blk.HartOnly.withResp _ _)

theorem Blk.logTrap_hartOnly {h : Nat} (hp : b.phase h ≠ 1) (c v : Nat) (r : Resp) :
    Blk.HartOnly b (b.logTrap h c v r) := by
  unfold Blk.logTrap
  extract_lets b1
  have h1 : Blk.HartOnly b b1 := b.redoTake_hartOnly h _
  have hp1 : b1.phase h ≠ 1 := by rw [h1.phase]; exact hp
  exact ((h1.trans (b1.doOp_hartOnly hp1 _ _)).trans (Blk.endAct_hartOnly _ h _)).trans (Blk.HartOnly.withResp _ _)

/-- A trap of pass one changes its hart alone; it waits for the commit. -/
theorem Blk.recutTrap_hartOnly {h : Nat} (ha : b.atInstr h) (c v : Nat) (r : Resp) :
    Blk.HartOnly b (b.recutTrap h c v r) ∧ (b.recutTrap h c v r).resp = r := by
  have hp : b.phase h ≠ 1 := by rw [ha.2.1]; decide
  unfold Blk.recutTrap
  rw [b.atOne_atInstr ha]
  have hs := b.segment_hartOnly hp
  dsimp only
  split
  · exact ⟨b.logTrap_hartOnly hp c v r, rfl⟩
  · exact ⟨hs.trans ((b.segment h).logTrap_hartOnly (by rw [hs.phase]; exact hp) c v r), rfl⟩

end Sys2Proof.Machine
end

