-- ==== Sys2Proof/Laws/Memory.lean ====
section
/-!
SUPPORT. Laws/Memory.lean: the laws of memory. A read after a write to the same byte gives the byte written, a
write leaves every other byte alone, and every operation on memory keeps its canonical form.
-/

namespace Sys2Proof.Machine

theorem memByte_memSet (m : List Host.Cell) (a : Nat) (v : Byte) (a' : Nat) :
    memByte (memSet m a v) a' = if a' = a then v else memByte m a' := by
  simp [memByte, memSet, Sparse.get_set]

theorem memWrite_other (l : List Byte) (m : List Host.Cell) (a a' : Nat) (h : a' < a ∨ a + l.length ≤ a') :
    memByte (memWrite m a l) a' = memByte m a' := by
  induction l generalizing m a with
  | nil => rfl
  | cons v l ih =>
    simp only [List.length_cons] at h
    rw [memWrite, ih _ _ (by omega), memByte_memSet, if_neg (by omega)]

theorem memBytes_memWrite (l : List Byte) (m : List Host.Cell) (a : Nat) :
    memBytes (memWrite m a l) a l.length = l := by
  induction l generalizing m a with
  | nil => rfl
  | cons v l ih =>
    simp only [memWrite, List.length_cons, memBytes, List.cons.injEq]
    exact ⟨by rw [memWrite_other _ _ _ _ (by omega), memByte_memSet, if_pos rfl], ih _ _⟩

/-- What a map reads after its keys outside `p` have gone. -/
theorem Sparse.get_keep {α : Type} (d : Nat → α) (p : Nat → Bool) (m : Sparse α) (a : Nat) :
    Sparse.get d (Sparse.keep p m) a = if p a = true then Sparse.get d m a else d a := by
  induction m with
  | nil => simp [Sparse.keep, Sparse.get]
  | cons e m ih =>
    obtain ⟨j, v⟩ := e
    unfold Sparse.keep at ih ⊢
    by_cases hk : p j = true
    · rw [List.filter_cons_of_pos (by simpa using hk), Sparse.get, Sparse.get, ih]
      by_cases hja : j = a
      · subst hja; rw [if_pos rfl, if_pos hk, if_pos rfl]
      · rw [if_neg hja, if_neg hja]
    · rw [List.filter_cons_of_neg (by simpa using hk), ih, Sparse.get]
      by_cases hja : j = a
      · subst hja; rw [if_neg hk, if_neg hk]
      · rw [if_neg hja]

@[simp] theorem leBytes_length (n v : Nat) : (leBytes n v).length = n := by
  induction n generalizing v with
  | zero => rfl
  | succ n ih => simp [leBytes, ih]

/-- The bytes of a number, read back, are the number modulo their count. -/
theorem leNat_leBytes (n v : Nat) : leNat (leBytes n v) = v % 2 ^ (8 * n) := by
  induction n generalizing v with
  | zero => simp [leBytes, leNat, Nat.mod_one]
  | succ n ih =>
    simp only [leBytes, leNat, ih, BitVec.toNat_ofNat]
    rw [show 8 * (n + 1) = 8 + 8 * n by ring, pow_add, Nat.mod_mul]
    norm_num

theorem leBytes_mod (n v : Nat) : leBytes n (v % 2 ^ (8 * n)) = leBytes n v := by
  induction n generalizing v with
  | zero => rfl
  | succ n ih =>
    have h1 : v % 2 ^ (8 * (n + 1)) / 256 = (v / 256) % 2 ^ (8 * n) := by
      rw [show 8 * (n + 1) = 8 + 8 * n by ring, pow_add]
      exact Nat.mod_mul_right_div_self v (2 ^ 8) (2 ^ (8 * n))
    have h2 : BitVec.ofNat 8 (v % 2 ^ (8 * (n + 1))) = BitVec.ofNat 8 v := by
      apply BitVec.eq_of_toNat_eq
      simp only [BitVec.toNat_ofNat]
      rw [show 8 * (n + 1) = 8 + 8 * n by ring, pow_add]
      exact Nat.mod_mul_right_mod v (2 ^ 8) (2 ^ (8 * n))
    simp only [leBytes, h1, ih, h2]

/-- A number stored in memory reads back. -/
theorem memLe_memWrite (m : List Host.Cell) (a n v : Nat) :
    memLe (memWrite m a (leBytes n v)) a n = v % 2 ^ (8 * n) := by
  have h := memBytes_memWrite (leBytes n v) m a
  rw [leBytes_length] at h
  rw [memLe, h, leNat_leBytes]

theorem Memory.wf_nil : Memory.wf [] := Sparse.wf_nil _

theorem Memory.wf_set {m : List Host.Cell} (h : Memory.wf m) (a : Nat) (v : Byte) : Memory.wf (memSet m a v) :=
  Sparse.wf_set h a v

theorem Memory.wf_write {m : List Host.Cell} (h : Memory.wf m) (l : List Byte) (a : Nat) :
    Memory.wf (memWrite m a l) := by
  induction l generalizing m a with
  | nil => exact h
  | cons v l ih => exact ih (Memory.wf_set h a v) (a + 1)

theorem Memory.wf_keep {m : List Host.Cell} (h : Memory.wf m) : Memory.wf (memKeep m) := Sparse.wf_keep h _

end Sys2Proof.Machine
end

