-- ==== Sys2Proof/Laws/Ops.lean ====
section
/-!
SUPPORT. Laws/Ops.lean: what the shared operations leave unchanged: raisings, messages, events, counters and typed
writes; and what a raising adds.
-/

namespace Sys2Proof.Machine

variable (b : Blk)

@[simp] theorem Blk.raise_regs (src det : Nat) (c : Option Nat) (n : Option Nat) : (b.raise src det c n).regs = b.regs := by unfold Blk.raise; split <;> rfl
@[simp] theorem Blk.raise_locks (src det : Nat) (c : Option Nat) (n : Option Nat) : (b.raise src det c n).locks = b.locks := by unfold Blk.raise; split <;> rfl
@[simp] theorem Blk.raise_clk (src det : Nat) (c : Option Nat) (n : Option Nat) : (b.raise src det c n).clk = b.clk := by unfold Blk.raise; split <;> rfl
@[simp] theorem Blk.raise_tb0 (src det : Nat) (c : Option Nat) (n : Option Nat) : (b.raise src det c n).tb0 = b.tb0 := by unfold Blk.raise; split <;> rfl
@[simp] theorem Blk.raise_resp (src det : Nat) (c : Option Nat) (n : Option Nat) : (b.raise src det c n).resp = b.resp := by unfold Blk.raise; split <;> rfl
@[simp] theorem Blk.raise_kc (src det : Nat) (c : Option Nat) (n : Option Nat) : (b.raise src det c n).kc = b.kc := by unfold Blk.raise; split <;> rfl
@[simp] theorem Blk.raise_mark (src det : Nat) (c : Option Nat) (n : Option Nat) : (b.raise src det c n).mark = b.mark := by unfold Blk.raise; split <;> rfl
@[simp] theorem Blk.raise_own (src det : Nat) (c : Option Nat) (n : Option Nat) : (b.raise src det c n).own = b.own := by unfold Blk.raise; split <;> rfl
@[simp] theorem Blk.raise_ownF (src det : Nat) (c : Option Nat) (n : Option Nat) : (b.raise src det c n).ownF = b.ownF := by unfold Blk.raise; split <;> rfl
@[simp] theorem Blk.raise_held (src det : Nat) (c : Option Nat) (n : Option Nat) : (b.raise src det c n).held = b.held := by unfold Blk.raise; split <;> rfl
@[simp] theorem Blk.raise_msgOut (src det : Nat) (c : Option Nat) (n : Option Nat) : (b.raise src det c n).msgOut = b.msgOut := by unfold Blk.raise; split <;> rfl
@[simp] theorem Blk.raise_hart (src det : Nat) (c : Option Nat) (n : Option Nat) : (b.raise src det c n).hart = b.hart := by unfold Blk.raise; split <;> rfl
@[simp] theorem Blk.raise_chan (src det : Nat) (c : Option Nat) (n : Option Nat) : (b.raise src det c n).chan = b.chan := by unfold Blk.raise; split <;> rfl
@[simp] theorem Blk.raise_die (src det : Nat) (c : Option Nat) (n : Option Nat) : (b.raise src det c n).die = b.die := by unfold Blk.raise; split <;> rfl
@[simp] theorem Blk.raise_input (src det : Nat) (c : Option Nat) (n : Option Nat) : (b.raise src det c n).input = b.input := by unfold Blk.raise; split <;> rfl
@[simp] theorem Blk.raise_keeper (src det : Nat) (c : Option Nat) (n : Option Nat) : (b.raise src det c n).keeper = b.keeper := by unfold Blk.raise; split <;> rfl
@[simp] theorem Blk.raise_ring (src det : Nat) (c : Option Nat) (n : Option Nat) : (b.raise src det c n).ring = b.ring := by unfold Blk.raise; split <;> rfl
@[simp] theorem Blk.raise_wkFifo (src det : Nat) (c : Option Nat) (n : Option Nat) : (b.raise src det c n).wkFifo = b.wkFifo := by unfold Blk.raise; split <;> rfl
@[simp] theorem Blk.raise_wakeDue (src det : Nat) (c : Option Nat) (n : Option Nat) : (b.raise src det c n).wakeDue = b.wakeDue := by unfold Blk.raise; split <;> rfl
@[simp] theorem Blk.raise_slp (src det : Nat) (c : Option Nat) (n : Option Nat) : (b.raise src det c n).slp = b.slp := by unfold Blk.raise; split <;> rfl
@[simp] theorem Blk.raise_pwr (src det : Nat) (c : Option Nat) (n : Option Nat) : (b.raise src det c n).pwr = b.pwr := by unfold Blk.raise; split <;> rfl
@[simp] theorem Blk.raise_k (src det : Nat) (c : Option Nat) (n : Option Nat) : (b.raise src det c n).k = b.k := by unfold Blk.raise; split <;> rfl
@[simp] theorem Blk.raise_poison (src det : Nat) (c : Option Nat) (n : Option Nat) : (b.raise src det c n).poison = b.poison := by unfold Blk.raise; split <;> rfl
@[simp] theorem Blk.raise_nfree (src det : Nat) (c : Option Nat) (n : Option Nat) : (b.raise src det c n).nfree = b.nfree := by unfold Blk.raise; split <;> rfl

@[simp] theorem Blk.raiseF_regs (src det : Nat) : (b.raiseF src det).regs = b.regs := by unfold Blk.raiseF; split <;> [simp; (split <;> rfl)]
@[simp] theorem Blk.raiseF_locks (src det : Nat) : (b.raiseF src det).locks = b.locks := by unfold Blk.raiseF; split <;> [simp; (split <;> rfl)]
@[simp] theorem Blk.raiseF_clk (src det : Nat) : (b.raiseF src det).clk = b.clk := by unfold Blk.raiseF; split <;> [simp; (split <;> rfl)]
@[simp] theorem Blk.raiseF_tb0 (src det : Nat) : (b.raiseF src det).tb0 = b.tb0 := by unfold Blk.raiseF; split <;> [simp; (split <;> rfl)]
@[simp] theorem Blk.raiseF_resp (src det : Nat) : (b.raiseF src det).resp = b.resp := by unfold Blk.raiseF; split <;> [simp; (split <;> rfl)]
@[simp] theorem Blk.raiseF_kc (src det : Nat) : (b.raiseF src det).kc = b.kc := by unfold Blk.raiseF; split <;> [simp; (split <;> rfl)]
@[simp] theorem Blk.raiseF_mark (src det : Nat) : (b.raiseF src det).mark = b.mark := by unfold Blk.raiseF; split <;> [simp; (split <;> rfl)]
@[simp] theorem Blk.raiseF_own (src det : Nat) : (b.raiseF src det).own = b.own := by unfold Blk.raiseF; split <;> [simp; (split <;> rfl)]
@[simp] theorem Blk.raiseF_ownF (src det : Nat) : (b.raiseF src det).ownF = b.ownF := by unfold Blk.raiseF; split <;> [simp; (split <;> rfl)]
@[simp] theorem Blk.raiseF_msgOut (src det : Nat) : (b.raiseF src det).msgOut = b.msgOut := by unfold Blk.raiseF; split <;> [simp; (split <;> rfl)]
@[simp] theorem Blk.raiseF_hart (src det : Nat) : (b.raiseF src det).hart = b.hart := by unfold Blk.raiseF; split <;> [simp; (split <;> rfl)]
@[simp] theorem Blk.raiseF_chan (src det : Nat) : (b.raiseF src det).chan = b.chan := by unfold Blk.raiseF; split <;> [simp; (split <;> rfl)]
@[simp] theorem Blk.raiseF_die (src det : Nat) : (b.raiseF src det).die = b.die := by unfold Blk.raiseF; split <;> [simp; (split <;> rfl)]
@[simp] theorem Blk.raiseF_input (src det : Nat) : (b.raiseF src det).input = b.input := by unfold Blk.raiseF; split <;> [simp; (split <;> rfl)]
@[simp] theorem Blk.raiseF_keeper (src det : Nat) : (b.raiseF src det).keeper = b.keeper := by unfold Blk.raiseF; split <;> [simp; (split <;> rfl)]
@[simp] theorem Blk.raiseF_ring (src det : Nat) : (b.raiseF src det).ring = b.ring := by unfold Blk.raiseF; split <;> [simp; (split <;> rfl)]
@[simp] theorem Blk.raiseF_wkFifo (src det : Nat) : (b.raiseF src det).wkFifo = b.wkFifo := by unfold Blk.raiseF; split <;> [simp; (split <;> rfl)]
@[simp] theorem Blk.raiseF_wakeDue (src det : Nat) : (b.raiseF src det).wakeDue = b.wakeDue := by unfold Blk.raiseF; split <;> [simp; (split <;> rfl)]
@[simp] theorem Blk.raiseF_slp (src det : Nat) : (b.raiseF src det).slp = b.slp := by unfold Blk.raiseF; split <;> [simp; (split <;> rfl)]
@[simp] theorem Blk.raiseF_pwr (src det : Nat) : (b.raiseF src det).pwr = b.pwr := by unfold Blk.raiseF; split <;> [simp; (split <;> rfl)]
@[simp] theorem Blk.raiseF_k (src det : Nat) : (b.raiseF src det).k = b.k := by unfold Blk.raiseF; split <;> [simp; (split <;> rfl)]
@[simp] theorem Blk.raiseF_poison (src det : Nat) : (b.raiseF src det).poison = b.poison := by unfold Blk.raiseF; split <;> [simp; (split <;> rfl)]
@[simp] theorem Blk.raiseF_nfree (src det : Nat) : (b.raiseF src det).nfree = b.nfree := by unfold Blk.raiseF; split <;> [simp; (split <;> rfl)]

@[simp] theorem Blk.msg_regs (n : Nat) : (b.msg n).regs = b.regs := by unfold Blk.msg; split <;> rfl
@[simp] theorem Blk.msg_locks (n : Nat) : (b.msg n).locks = b.locks := by unfold Blk.msg; split <;> rfl
@[simp] theorem Blk.msg_clk (n : Nat) : (b.msg n).clk = b.clk := by unfold Blk.msg; split <;> rfl
@[simp] theorem Blk.msg_tb0 (n : Nat) : (b.msg n).tb0 = b.tb0 := by unfold Blk.msg; split <;> rfl
@[simp] theorem Blk.msg_resp (n : Nat) : (b.msg n).resp = b.resp := by unfold Blk.msg; split <;> rfl
@[simp] theorem Blk.msg_kc (n : Nat) : (b.msg n).kc = b.kc := by unfold Blk.msg; split <;> rfl
@[simp] theorem Blk.msg_mark (n : Nat) : (b.msg n).mark = b.mark := by unfold Blk.msg; split <;> rfl
@[simp] theorem Blk.msg_own (n : Nat) : (b.msg n).own = b.own := by unfold Blk.msg; split <;> rfl
@[simp] theorem Blk.msg_ownF (n : Nat) : (b.msg n).ownF = b.ownF := by unfold Blk.msg; split <;> rfl
@[simp] theorem Blk.msg_fcuIn (n : Nat) : (b.msg n).fcuIn = b.fcuIn := by unfold Blk.msg; split <;> rfl
@[simp] theorem Blk.msg_held (n : Nat) : (b.msg n).held = b.held := by unfold Blk.msg; split <;> rfl
@[simp] theorem Blk.msg_hart (n : Nat) : (b.msg n).hart = b.hart := by unfold Blk.msg; split <;> rfl
@[simp] theorem Blk.msg_chan (n : Nat) : (b.msg n).chan = b.chan := by unfold Blk.msg; split <;> rfl
@[simp] theorem Blk.msg_die (n : Nat) : (b.msg n).die = b.die := by unfold Blk.msg; split <;> rfl
@[simp] theorem Blk.msg_input (n : Nat) : (b.msg n).input = b.input := by unfold Blk.msg; split <;> rfl
@[simp] theorem Blk.msg_keeper (n : Nat) : (b.msg n).keeper = b.keeper := by unfold Blk.msg; split <;> rfl
@[simp] theorem Blk.msg_ring (n : Nat) : (b.msg n).ring = b.ring := by unfold Blk.msg; split <;> rfl
@[simp] theorem Blk.msg_wkFifo (n : Nat) : (b.msg n).wkFifo = b.wkFifo := by unfold Blk.msg; split <;> rfl
@[simp] theorem Blk.msg_wakeDue (n : Nat) : (b.msg n).wakeDue = b.wakeDue := by unfold Blk.msg; split <;> rfl
@[simp] theorem Blk.msg_slp (n : Nat) : (b.msg n).slp = b.slp := by unfold Blk.msg; split <;> rfl
@[simp] theorem Blk.msg_pwr (n : Nat) : (b.msg n).pwr = b.pwr := by unfold Blk.msg; split <;> rfl
@[simp] theorem Blk.msg_k (n : Nat) : (b.msg n).k = b.k := by unfold Blk.msg; split <;> rfl
@[simp] theorem Blk.msg_poison (n : Nat) : (b.msg n).poison = b.poison := by unfold Blk.msg; split <;> rfl
@[simp] theorem Blk.msg_nfree (n : Nat) : (b.msg n).nfree = b.nfree := by unfold Blk.msg; split <;> rfl

@[simp] theorem Blk.writeReg_locks (a : Nat) (v : W32) : (b.writeReg a v).locks = b.locks := by unfold Blk.writeReg; split <;> rfl
@[simp] theorem Blk.writeReg_clk (a : Nat) (v : W32) : (b.writeReg a v).clk = b.clk := by unfold Blk.writeReg; split <;> rfl
@[simp] theorem Blk.writeReg_tb0 (a : Nat) (v : W32) : (b.writeReg a v).tb0 = b.tb0 := by unfold Blk.writeReg; split <;> rfl
@[simp] theorem Blk.writeReg_resp (a : Nat) (v : W32) : (b.writeReg a v).resp = b.resp := by unfold Blk.writeReg; split <;> rfl
@[simp] theorem Blk.writeReg_kc (a : Nat) (v : W32) : (b.writeReg a v).kc = b.kc := by unfold Blk.writeReg; split <;> rfl
@[simp] theorem Blk.writeReg_mark (a : Nat) (v : W32) : (b.writeReg a v).mark = b.mark := by unfold Blk.writeReg; split <;> rfl
@[simp] theorem Blk.writeReg_own (a : Nat) (v : W32) : (b.writeReg a v).own = b.own := by unfold Blk.writeReg; split <;> rfl
@[simp] theorem Blk.writeReg_ownF (a : Nat) (v : W32) : (b.writeReg a v).ownF = b.ownF := by unfold Blk.writeReg; split <;> rfl
@[simp] theorem Blk.writeReg_fcuIn (a : Nat) (v : W32) : (b.writeReg a v).fcuIn = b.fcuIn := by unfold Blk.writeReg; split <;> rfl
@[simp] theorem Blk.writeReg_held (a : Nat) (v : W32) : (b.writeReg a v).held = b.held := by unfold Blk.writeReg; split <;> rfl
@[simp] theorem Blk.writeReg_msgOut (a : Nat) (v : W32) : (b.writeReg a v).msgOut = b.msgOut := by unfold Blk.writeReg; split <;> rfl
@[simp] theorem Blk.writeReg_hart (a : Nat) (v : W32) : (b.writeReg a v).hart = b.hart := by unfold Blk.writeReg; split <;> rfl
@[simp] theorem Blk.writeReg_chan (a : Nat) (v : W32) : (b.writeReg a v).chan = b.chan := by unfold Blk.writeReg; split <;> rfl
@[simp] theorem Blk.writeReg_die (a : Nat) (v : W32) : (b.writeReg a v).die = b.die := by unfold Blk.writeReg; split <;> rfl
@[simp] theorem Blk.writeReg_input (a : Nat) (v : W32) : (b.writeReg a v).input = b.input := by unfold Blk.writeReg; split <;> rfl
@[simp] theorem Blk.writeReg_keeper (a : Nat) (v : W32) : (b.writeReg a v).keeper = b.keeper := by unfold Blk.writeReg; split <;> rfl
@[simp] theorem Blk.writeReg_ring (a : Nat) (v : W32) : (b.writeReg a v).ring = b.ring := by unfold Blk.writeReg; split <;> rfl
@[simp] theorem Blk.writeReg_wkFifo (a : Nat) (v : W32) : (b.writeReg a v).wkFifo = b.wkFifo := by unfold Blk.writeReg; split <;> rfl
@[simp] theorem Blk.writeReg_wakeDue (a : Nat) (v : W32) : (b.writeReg a v).wakeDue = b.wakeDue := by unfold Blk.writeReg; split <;> rfl
@[simp] theorem Blk.writeReg_slp (a : Nat) (v : W32) : (b.writeReg a v).slp = b.slp := by unfold Blk.writeReg; split <;> rfl
@[simp] theorem Blk.writeReg_pwr (a : Nat) (v : W32) : (b.writeReg a v).pwr = b.pwr := by unfold Blk.writeReg; split <;> rfl
@[simp] theorem Blk.writeReg_k (a : Nat) (v : W32) : (b.writeReg a v).k = b.k := by unfold Blk.writeReg; split <;> rfl
@[simp] theorem Blk.writeReg_poison (a : Nat) (v : W32) : (b.writeReg a v).poison = b.poison := by unfold Blk.writeReg; split <;> rfl
@[simp] theorem Blk.writeReg_nfree (a : Nat) (v : W32) : (b.writeReg a v).nfree = b.nfree := by unfold Blk.writeReg; split <;> rfl

@[simp] theorem Blk.incSat_locks (f : Fld) (n : Nat) : (b.incSat f n).locks = b.locks := rfl
@[simp] theorem Blk.incSat_clk (f : Fld) (n : Nat) : (b.incSat f n).clk = b.clk := rfl
@[simp] theorem Blk.incSat_tb0 (f : Fld) (n : Nat) : (b.incSat f n).tb0 = b.tb0 := rfl
@[simp] theorem Blk.incSat_resp (f : Fld) (n : Nat) : (b.incSat f n).resp = b.resp := rfl
@[simp] theorem Blk.incSat_kc (f : Fld) (n : Nat) : (b.incSat f n).kc = b.kc := rfl
@[simp] theorem Blk.incSat_mark (f : Fld) (n : Nat) : (b.incSat f n).mark = b.mark := rfl
@[simp] theorem Blk.incSat_own (f : Fld) (n : Nat) : (b.incSat f n).own = b.own := rfl
@[simp] theorem Blk.incSat_ownF (f : Fld) (n : Nat) : (b.incSat f n).ownF = b.ownF := rfl
@[simp] theorem Blk.incSat_fcuIn (f : Fld) (n : Nat) : (b.incSat f n).fcuIn = b.fcuIn := rfl
@[simp] theorem Blk.incSat_held (f : Fld) (n : Nat) : (b.incSat f n).held = b.held := rfl
@[simp] theorem Blk.incSat_msgOut (f : Fld) (n : Nat) : (b.incSat f n).msgOut = b.msgOut := rfl
@[simp] theorem Blk.incSat_hart (f : Fld) (n : Nat) : (b.incSat f n).hart = b.hart := rfl
@[simp] theorem Blk.incSat_chan (f : Fld) (n : Nat) : (b.incSat f n).chan = b.chan := rfl
@[simp] theorem Blk.incSat_die (f : Fld) (n : Nat) : (b.incSat f n).die = b.die := rfl
@[simp] theorem Blk.incSat_input (f : Fld) (n : Nat) : (b.incSat f n).input = b.input := rfl
@[simp] theorem Blk.incSat_keeper (f : Fld) (n : Nat) : (b.incSat f n).keeper = b.keeper := rfl
@[simp] theorem Blk.incSat_ring (f : Fld) (n : Nat) : (b.incSat f n).ring = b.ring := rfl
@[simp] theorem Blk.incSat_wkFifo (f : Fld) (n : Nat) : (b.incSat f n).wkFifo = b.wkFifo := rfl
@[simp] theorem Blk.incSat_wakeDue (f : Fld) (n : Nat) : (b.incSat f n).wakeDue = b.wakeDue := rfl
@[simp] theorem Blk.incSat_slp (f : Fld) (n : Nat) : (b.incSat f n).slp = b.slp := rfl
@[simp] theorem Blk.incSat_pwr (f : Fld) (n : Nat) : (b.incSat f n).pwr = b.pwr := rfl
@[simp] theorem Blk.incSat_k (f : Fld) (n : Nat) : (b.incSat f n).k = b.k := rfl
@[simp] theorem Blk.incSat_poison (f : Fld) (n : Nat) : (b.incSat f n).poison = b.poison := rfl
@[simp] theorem Blk.incSat_nfree (f : Fld) (n : Nat) : (b.incSat f n).nfree = b.nfree := rfl

@[simp] theorem Blk.incWrap_locks (f : Fld) (n : Nat) : (b.incWrap f n).locks = b.locks := rfl
@[simp] theorem Blk.incWrap_clk (f : Fld) (n : Nat) : (b.incWrap f n).clk = b.clk := rfl
@[simp] theorem Blk.incWrap_tb0 (f : Fld) (n : Nat) : (b.incWrap f n).tb0 = b.tb0 := rfl
@[simp] theorem Blk.incWrap_resp (f : Fld) (n : Nat) : (b.incWrap f n).resp = b.resp := rfl
@[simp] theorem Blk.incWrap_kc (f : Fld) (n : Nat) : (b.incWrap f n).kc = b.kc := rfl
@[simp] theorem Blk.incWrap_mark (f : Fld) (n : Nat) : (b.incWrap f n).mark = b.mark := rfl
@[simp] theorem Blk.incWrap_own (f : Fld) (n : Nat) : (b.incWrap f n).own = b.own := rfl
@[simp] theorem Blk.incWrap_ownF (f : Fld) (n : Nat) : (b.incWrap f n).ownF = b.ownF := rfl
@[simp] theorem Blk.incWrap_fcuIn (f : Fld) (n : Nat) : (b.incWrap f n).fcuIn = b.fcuIn := rfl
@[simp] theorem Blk.incWrap_held (f : Fld) (n : Nat) : (b.incWrap f n).held = b.held := rfl
@[simp] theorem Blk.incWrap_msgOut (f : Fld) (n : Nat) : (b.incWrap f n).msgOut = b.msgOut := rfl
@[simp] theorem Blk.incWrap_hart (f : Fld) (n : Nat) : (b.incWrap f n).hart = b.hart := rfl
@[simp] theorem Blk.incWrap_chan (f : Fld) (n : Nat) : (b.incWrap f n).chan = b.chan := rfl
@[simp] theorem Blk.incWrap_die (f : Fld) (n : Nat) : (b.incWrap f n).die = b.die := rfl
@[simp] theorem Blk.incWrap_input (f : Fld) (n : Nat) : (b.incWrap f n).input = b.input := rfl
@[simp] theorem Blk.incWrap_keeper (f : Fld) (n : Nat) : (b.incWrap f n).keeper = b.keeper := rfl
@[simp] theorem Blk.incWrap_ring (f : Fld) (n : Nat) : (b.incWrap f n).ring = b.ring := rfl
@[simp] theorem Blk.incWrap_wkFifo (f : Fld) (n : Nat) : (b.incWrap f n).wkFifo = b.wkFifo := rfl
@[simp] theorem Blk.incWrap_wakeDue (f : Fld) (n : Nat) : (b.incWrap f n).wakeDue = b.wakeDue := rfl
@[simp] theorem Blk.incWrap_slp (f : Fld) (n : Nat) : (b.incWrap f n).slp = b.slp := rfl
@[simp] theorem Blk.incWrap_pwr (f : Fld) (n : Nat) : (b.incWrap f n).pwr = b.pwr := rfl
@[simp] theorem Blk.incWrap_k (f : Fld) (n : Nat) : (b.incWrap f n).k = b.k := rfl
@[simp] theorem Blk.incWrap_poison (f : Fld) (n : Nat) : (b.incWrap f n).poison = b.poison := rfl
@[simp] theorem Blk.incWrap_nfree (f : Fld) (n : Nat) : (b.incWrap f n).nfree = b.nfree := rfl

@[simp] theorem Blk.setBit_locks (f : Fld) (n : Nat) : (b.setBit f n).locks = b.locks := rfl
@[simp] theorem Blk.setBit_clk (f : Fld) (n : Nat) : (b.setBit f n).clk = b.clk := rfl
@[simp] theorem Blk.setBit_tb0 (f : Fld) (n : Nat) : (b.setBit f n).tb0 = b.tb0 := rfl
@[simp] theorem Blk.setBit_resp (f : Fld) (n : Nat) : (b.setBit f n).resp = b.resp := rfl
@[simp] theorem Blk.setBit_kc (f : Fld) (n : Nat) : (b.setBit f n).kc = b.kc := rfl
@[simp] theorem Blk.setBit_mark (f : Fld) (n : Nat) : (b.setBit f n).mark = b.mark := rfl
@[simp] theorem Blk.setBit_own (f : Fld) (n : Nat) : (b.setBit f n).own = b.own := rfl
@[simp] theorem Blk.setBit_ownF (f : Fld) (n : Nat) : (b.setBit f n).ownF = b.ownF := rfl
@[simp] theorem Blk.setBit_fcuIn (f : Fld) (n : Nat) : (b.setBit f n).fcuIn = b.fcuIn := rfl
@[simp] theorem Blk.setBit_held (f : Fld) (n : Nat) : (b.setBit f n).held = b.held := rfl
@[simp] theorem Blk.setBit_msgOut (f : Fld) (n : Nat) : (b.setBit f n).msgOut = b.msgOut := rfl
@[simp] theorem Blk.setBit_hart (f : Fld) (n : Nat) : (b.setBit f n).hart = b.hart := rfl
@[simp] theorem Blk.setBit_chan (f : Fld) (n : Nat) : (b.setBit f n).chan = b.chan := rfl
@[simp] theorem Blk.setBit_die (f : Fld) (n : Nat) : (b.setBit f n).die = b.die := rfl
@[simp] theorem Blk.setBit_input (f : Fld) (n : Nat) : (b.setBit f n).input = b.input := rfl
@[simp] theorem Blk.setBit_keeper (f : Fld) (n : Nat) : (b.setBit f n).keeper = b.keeper := rfl
@[simp] theorem Blk.setBit_ring (f : Fld) (n : Nat) : (b.setBit f n).ring = b.ring := rfl
@[simp] theorem Blk.setBit_wkFifo (f : Fld) (n : Nat) : (b.setBit f n).wkFifo = b.wkFifo := rfl
@[simp] theorem Blk.setBit_wakeDue (f : Fld) (n : Nat) : (b.setBit f n).wakeDue = b.wakeDue := rfl
@[simp] theorem Blk.setBit_slp (f : Fld) (n : Nat) : (b.setBit f n).slp = b.slp := rfl
@[simp] theorem Blk.setBit_pwr (f : Fld) (n : Nat) : (b.setBit f n).pwr = b.pwr := rfl
@[simp] theorem Blk.setBit_k (f : Fld) (n : Nat) : (b.setBit f n).k = b.k := rfl
@[simp] theorem Blk.setBit_poison (f : Fld) (n : Nat) : (b.setBit f n).poison = b.poison := rfl
@[simp] theorem Blk.setBit_nfree (f : Fld) (n : Nat) : (b.setBit f n).nfree = b.nfree := rfl

@[simp] theorem Blk.clrBit_locks (f : Fld) (n : Nat) : (b.clrBit f n).locks = b.locks := by unfold Blk.clrBit; split <;> rfl
@[simp] theorem Blk.clrBit_clk (f : Fld) (n : Nat) : (b.clrBit f n).clk = b.clk := by unfold Blk.clrBit; split <;> rfl
@[simp] theorem Blk.clrBit_tb0 (f : Fld) (n : Nat) : (b.clrBit f n).tb0 = b.tb0 := by unfold Blk.clrBit; split <;> rfl
@[simp] theorem Blk.clrBit_resp (f : Fld) (n : Nat) : (b.clrBit f n).resp = b.resp := by unfold Blk.clrBit; split <;> rfl
@[simp] theorem Blk.clrBit_kc (f : Fld) (n : Nat) : (b.clrBit f n).kc = b.kc := by unfold Blk.clrBit; split <;> rfl
@[simp] theorem Blk.clrBit_mark (f : Fld) (n : Nat) : (b.clrBit f n).mark = b.mark := by unfold Blk.clrBit; split <;> rfl
@[simp] theorem Blk.clrBit_own (f : Fld) (n : Nat) : (b.clrBit f n).own = b.own := by unfold Blk.clrBit; split <;> rfl
@[simp] theorem Blk.clrBit_ownF (f : Fld) (n : Nat) : (b.clrBit f n).ownF = b.ownF := by unfold Blk.clrBit; split <;> rfl
@[simp] theorem Blk.clrBit_fcuIn (f : Fld) (n : Nat) : (b.clrBit f n).fcuIn = b.fcuIn := by unfold Blk.clrBit; split <;> rfl
@[simp] theorem Blk.clrBit_held (f : Fld) (n : Nat) : (b.clrBit f n).held = b.held := by unfold Blk.clrBit; split <;> rfl
@[simp] theorem Blk.clrBit_msgOut (f : Fld) (n : Nat) : (b.clrBit f n).msgOut = b.msgOut := by unfold Blk.clrBit; split <;> rfl
@[simp] theorem Blk.clrBit_hart (f : Fld) (n : Nat) : (b.clrBit f n).hart = b.hart := by unfold Blk.clrBit; split <;> rfl
@[simp] theorem Blk.clrBit_chan (f : Fld) (n : Nat) : (b.clrBit f n).chan = b.chan := by unfold Blk.clrBit; split <;> rfl
@[simp] theorem Blk.clrBit_die (f : Fld) (n : Nat) : (b.clrBit f n).die = b.die := by unfold Blk.clrBit; split <;> rfl
@[simp] theorem Blk.clrBit_input (f : Fld) (n : Nat) : (b.clrBit f n).input = b.input := by unfold Blk.clrBit; split <;> rfl
@[simp] theorem Blk.clrBit_keeper (f : Fld) (n : Nat) : (b.clrBit f n).keeper = b.keeper := by unfold Blk.clrBit; split <;> rfl
@[simp] theorem Blk.clrBit_ring (f : Fld) (n : Nat) : (b.clrBit f n).ring = b.ring := by unfold Blk.clrBit; split <;> rfl
@[simp] theorem Blk.clrBit_wkFifo (f : Fld) (n : Nat) : (b.clrBit f n).wkFifo = b.wkFifo := by unfold Blk.clrBit; split <;> rfl
@[simp] theorem Blk.clrBit_wakeDue (f : Fld) (n : Nat) : (b.clrBit f n).wakeDue = b.wakeDue := by unfold Blk.clrBit; split <;> rfl
@[simp] theorem Blk.clrBit_slp (f : Fld) (n : Nat) : (b.clrBit f n).slp = b.slp := by unfold Blk.clrBit; split <;> rfl
@[simp] theorem Blk.clrBit_pwr (f : Fld) (n : Nat) : (b.clrBit f n).pwr = b.pwr := by unfold Blk.clrBit; split <;> rfl
@[simp] theorem Blk.clrBit_k (f : Fld) (n : Nat) : (b.clrBit f n).k = b.k := by unfold Blk.clrBit; split <;> rfl
@[simp] theorem Blk.clrBit_poison (f : Fld) (n : Nat) : (b.clrBit f n).poison = b.poison := by unfold Blk.clrBit; split <;> rfl
@[simp] theorem Blk.clrBit_nfree (f : Fld) (n : Nat) : (b.clrBit f n).nfree = b.nfree := by unfold Blk.clrBit; split <;> rfl

@[simp] theorem Blk.event_locks (f g : Fld) (k n : Nat) : (b.event f g k n).locks = b.locks := by unfold Blk.event; dsimp only; split <;> simp
@[simp] theorem Blk.event_clk (f g : Fld) (k n : Nat) : (b.event f g k n).clk = b.clk := by unfold Blk.event; dsimp only; split <;> simp
@[simp] theorem Blk.event_tb0 (f g : Fld) (k n : Nat) : (b.event f g k n).tb0 = b.tb0 := by unfold Blk.event; dsimp only; split <;> simp
@[simp] theorem Blk.event_resp (f g : Fld) (k n : Nat) : (b.event f g k n).resp = b.resp := by unfold Blk.event; dsimp only; split <;> simp
@[simp] theorem Blk.event_kc (f g : Fld) (k n : Nat) : (b.event f g k n).kc = b.kc := by unfold Blk.event; dsimp only; split <;> simp
@[simp] theorem Blk.event_mark (f g : Fld) (k n : Nat) : (b.event f g k n).mark = b.mark := by unfold Blk.event; dsimp only; split <;> simp
@[simp] theorem Blk.event_own (f g : Fld) (k n : Nat) : (b.event f g k n).own = b.own := by unfold Blk.event; dsimp only; split <;> simp
@[simp] theorem Blk.event_ownF (f g : Fld) (k n : Nat) : (b.event f g k n).ownF = b.ownF := by unfold Blk.event; dsimp only; split <;> simp
@[simp] theorem Blk.event_fcuIn (f g : Fld) (k n : Nat) : (b.event f g k n).fcuIn = b.fcuIn := by unfold Blk.event; dsimp only; split <;> simp
@[simp] theorem Blk.event_held (f g : Fld) (k n : Nat) : (b.event f g k n).held = b.held := by unfold Blk.event; dsimp only; split <;> simp
@[simp] theorem Blk.event_hart (f g : Fld) (k n : Nat) : (b.event f g k n).hart = b.hart := by unfold Blk.event; dsimp only; split <;> simp
@[simp] theorem Blk.event_chan (f g : Fld) (k n : Nat) : (b.event f g k n).chan = b.chan := by unfold Blk.event; dsimp only; split <;> simp
@[simp] theorem Blk.event_die (f g : Fld) (k n : Nat) : (b.event f g k n).die = b.die := by unfold Blk.event; dsimp only; split <;> simp
@[simp] theorem Blk.event_input (f g : Fld) (k n : Nat) : (b.event f g k n).input = b.input := by unfold Blk.event; dsimp only; split <;> simp
@[simp] theorem Blk.event_keeper (f g : Fld) (k n : Nat) : (b.event f g k n).keeper = b.keeper := by unfold Blk.event; dsimp only; split <;> simp
@[simp] theorem Blk.event_ring (f g : Fld) (k n : Nat) : (b.event f g k n).ring = b.ring := by unfold Blk.event; dsimp only; split <;> simp
@[simp] theorem Blk.event_wkFifo (f g : Fld) (k n : Nat) : (b.event f g k n).wkFifo = b.wkFifo := by unfold Blk.event; dsimp only; split <;> simp
@[simp] theorem Blk.event_wakeDue (f g : Fld) (k n : Nat) : (b.event f g k n).wakeDue = b.wakeDue := by unfold Blk.event; dsimp only; split <;> simp
@[simp] theorem Blk.event_slp (f g : Fld) (k n : Nat) : (b.event f g k n).slp = b.slp := by unfold Blk.event; dsimp only; split <;> simp
@[simp] theorem Blk.event_pwr (f g : Fld) (k n : Nat) : (b.event f g k n).pwr = b.pwr := by unfold Blk.event; dsimp only; split <;> simp
@[simp] theorem Blk.event_k (f g : Fld) (k n : Nat) : (b.event f g k n).k = b.k := by unfold Blk.event; dsimp only; split <;> simp
@[simp] theorem Blk.event_poison (f g : Fld) (k n : Nat) : (b.event f g k n).poison = b.poison := by unfold Blk.event; dsimp only; split <;> simp
@[simp] theorem Blk.event_nfree (f g : Fld) (k n : Nat) : (b.event f g k n).nfree = b.nfree := by unfold Blk.event; dsimp only; split <;> simp

/-- A raising while KC is present travels to the FCU. -/
theorem Blk.raise_fcuIn (src det : Nat) (c n : Option Nat) (h : b.kc ≠ .down) :
    (b.raise src det c n).fcuIn = b.fcuIn ++ [⟨src, c, n, det⟩] := by simp [Blk.raise, h]

/-- A raising of UH or of a die is on its way or held. -/
theorem Blk.raiseF_mem (src det : Nat) :
    ∃ r ∈ (b.raiseF src det).fcuIn ++ (b.raiseF src det).held, r.src = src := by
  unfold Blk.raiseF
  split
  · next h =>
    have hk : b.kc ≠ .down := by intro hc; simp [Blk.kcRun, hc] at h
    exact ⟨⟨src, none, none, det⟩, by simp [b.raise_fcuIn src det none none hk], rfl⟩
  · split
    · next h =>
      obtain ⟨r, hr, he⟩ := List.any_eq_true.mp h
      exact ⟨r, by simp [hr], by simpa using he⟩
    · exact ⟨⟨src, none, none, det⟩, by simp, rfl⟩

/-- The bit that an event sets reads 1 at once. -/
theorem Blk.setBit_fld (f : Fld) (n : Nat) (hf : f.Ok) (hn : n < f.width) :
    ((b.setBit f n).fld f).testBit n = true := by
  unfold Blk.setBit
  rw [b.fld_put_same f _ hf, Nat.testBit_mod_two_pow]
  simp [hn, Nat.testBit_two_pow_self]

theorem Blk.event_regs (f g : Fld) (k n : Nat) : (b.event f g k n).regs = (b.setBit f k).regs := by
  unfold Blk.event
  dsimp only
  split <;> simp

end Sys2Proof.Machine
end

