-- ==== Sys2Proof/Laws/Transform.lean ====
section
/-!
SUPPORT. Laws/Transform.lean: pass two mirrors pass one (R503). Every datapath of pass two gives the complement of
what pass one gives on the complemented operands, so an instruction keeps the two files each other's mirror.
-/

namespace Sys2Proof.Machine

/-! ## Datapaths -/

theorem shamt_not (b : W32) : 31 - (~~~b).toNat % 32 = b.toNat % 32 := by
  rw [BitVec.toNat_not]
  have := b.isLt
  omega

theorem not_ult (a b : W32) : (~~~b).ult (~~~a) = a.ult b := by
  simp only [BitVec.ult, BitVec.toNat_not]
  have := a.isLt
  have := b.isLt
  exact decide_eq_decide.2 (by omega)

theorem not_toInt (a : W32) : (~~~a).toInt = -a.toInt - 1 := by
  have := a.isLt
  simp only [BitVec.toInt, BitVec.toNat_not]
  split <;> split <;> omega

theorem not_slt (a b : W32) : (~~~b).slt (~~~a) = a.slt b := by
  simp only [BitVec.slt, not_toInt]
  exact decide_eq_decide.2 (by omega)

/-- The adder, logic unit and shifter of pass two mirror those of pass one. -/
theorem alu2_not (op : AluOp) (a b : W32) : alu2 op (~~~a) (~~~b) = ~~~alu op a b := by
  have ha := a.isLt
  have hb := b.isLt
  have h1 : (1 : W32).toNat = 1 := rfl
  have hn : b.toNat % 32 < 32 := Nat.mod_lt _ (by decide)
  cases op <;> simp only [alu2, alu, shamt_not, not_ult, not_slt]
  · apply BitVec.eq_of_toNat_eq; simp only [BitVec.toNat_add, BitVec.toNat_not, h1]; omega
  · apply BitVec.eq_of_toNat_eq; simp only [BitVec.toNat_sub, BitVec.toNat_not, h1]; omega
  · ext i; simp
  · ext i; simp
  · ext i; simp
  · ext i hi
    have e : (0xffffffff#32) = BitVec.allOnes 32 := by decide
    simp only [e, BitVec.getElem_or, BitVec.getElem_not, BitVec.getElem_shiftLeft, BitVec.getElem_allOnes]
    by_cases h : i < b.toNat % 32 <;> simp [h]
  · ext i hi
    have e : (0xffffffff#32) = BitVec.allOnes 32 := by decide
    simp only [e, BitVec.getElem_or, BitVec.getElem_not, BitVec.getElem_ushiftRight, BitVec.getLsbD_not,
      BitVec.getLsbD_allOnes]
    by_cases h : b.toNat % 32 + i < 32
    · simp [h]
    · simp [h, BitVec.getLsbD_of_ge a _ (by omega : 32 ≤ b.toNat % 32 + i)]
  · ext i hi
    simp only [BitVec.getElem_not, BitVec.getElem_sshiftRight, BitVec.msb_not]
    by_cases h : b.toNat % 32 + i < 32 <;> simp [h]
  · split <;> decide
  · split <;> decide

/-- The branch comparator of pass two decides as that of pass one does. -/
theorem cmp2_not (op : CmpOp) (a b : W32) : cmp2 op (~~~a) (~~~b) = cmp op a b := by
  cases op <;> simp [cmp2, cmp, not_ult, not_slt, bne]

/-- Multiply and divide of pass two mirror those of pass one. -/
theorem mulDiv2_not (op : MulOp) (a b : W32) : mulDiv2 op (~~~a) (~~~b) = ~~~mulDiv op a b := by
  cases op <;> simp only [mulDiv2, mulDiv, BitVec.not_not, mul_comm]

/-! ## Files -/

/-- The files `q` of pass two mirror the files `r` of pass one. -/
def Files.Mirrors (r q : Files) : Prop :=
  (∀ i < 32, q.getX2 i = ~~~r.getX i) ∧ (∀ i < 32, q.getF2 i = ~~~r.getF i) ∧ q.fcsr = r.fcsr ∧ q.pc = r.pc

theorem phys_inj {i j : Nat} : phys i = phys j ↔ i = j := Nat.xor_left_inj

@[simp] theorem Files.getX_setX (r : Files) (i j : Nat) (v : W32) :
    (r.setX i v).getX j = if j = i ∧ i ≠ 0 then v else r.getX j := by
  by_cases h : i = 0
  · simp [setX, h]
  · by_cases hj : j = 0
    · subst hj; simp [getX, Ne.symm h]
    · simp [setX, getX, h, hj]

@[simp] theorem Files.getX2_setX2 (r : Files) (i j : Nat) (v : W32) :
    (r.setX2 i v).getX2 j = if j = i ∧ i ≠ 0 then v else r.getX2 j := by
  by_cases h : i = 0
  · simp [setX2, h]
  · by_cases hj : j = 0
    · subst hj; simp [getX2, readPhys, Ne.symm h]
    · simp [setX2, getX2, readPhys, h, hj, phys_inj]

@[simp] theorem Files.getF_setF (r : Files) (i j : Nat) (v : W32) :
    (r.setF i v).getF j = if j = i then v else r.getF j := by simp [setF, getF]

@[simp] theorem Files.getF2_setF2 (r : Files) (i j : Nat) (v : W32) :
    (r.setF2 i v).getF2 j = if j = i then v else r.getF2 j := by simp [setF2, getF2, phys_inj]

@[simp] theorem Files.getF_setX (r : Files) (i j : Nat) (v : W32) : (r.setX i v).getF j = r.getF j := by
  unfold setX; split <;> rfl
@[simp] theorem Files.getF2_setX2 (r : Files) (i j : Nat) (v : W32) : (r.setX2 i v).getF2 j = r.getF2 j := by
  unfold setX2; split <;> rfl
@[simp] theorem Files.fcsr_setX (r : Files) (i : Nat) (v : W32) : (r.setX i v).fcsr = r.fcsr := by
  unfold setX; split <;> rfl
@[simp] theorem Files.fcsr_setX2 (r : Files) (i : Nat) (v : W32) : (r.setX2 i v).fcsr = r.fcsr := by
  unfold setX2; split <;> rfl
@[simp] theorem Files.pc_setX (r : Files) (i : Nat) (v : W32) : (r.setX i v).pc = r.pc := by
  unfold setX; split <;> rfl
@[simp] theorem Files.pc_setX2 (r : Files) (i : Nat) (v : W32) : (r.setX2 i v).pc = r.pc := by
  unfold setX2; split <;> rfl
@[simp] theorem Files.pc_setF (r : Files) (i : Nat) (v : W32) : (r.setF i v).pc = r.pc := rfl
@[simp] theorem Files.pc_setF2 (r : Files) (i : Nat) (v : W32) : (r.setF2 i v).pc = r.pc := rfl
@[simp] theorem Files.getX_setF (r : Files) (i j : Nat) (v : W32) : (r.setF i v).getX j = r.getX j := rfl
@[simp] theorem Files.getX2_setF2 (r : Files) (i j : Nat) (v : W32) : (r.setF2 i v).getX2 j = r.getX2 j := rfl
@[simp] theorem Files.fcsr_setF (r : Files) (i : Nat) (v : W32) : (r.setF i v).fcsr = r.fcsr := rfl
@[simp] theorem Files.fcsr_setF2 (r : Files) (i : Nat) (v : W32) : (r.setF2 i v).fcsr = r.fcsr := rfl

theorem Files.Mirrors.setX {r q : Files} (h : r.Mirrors q) (i : Nat) (v : W32) :
    (r.setX i v).Mirrors (q.setX2 i (~~~v)) := by
  refine ⟨fun j hj => ?_, fun j hj => ?_, ?_⟩
  · rw [getX2_setX2, getX_setX]; split
    · rfl
    · exact h.1 j hj
  · simpa using h.2.1 j hj
  · simpa using h.2.2

theorem Files.Mirrors.setF {r q : Files} (h : r.Mirrors q) (i : Nat) (v : W32) :
    (r.setF i v).Mirrors (q.setF2 i (~~~v)) := by
  refine ⟨fun j hj => ?_, fun j hj => ?_, ?_⟩
  · simpa using h.1 j hj
  · rw [getF2_setF2, getF_setF]; split
    · rfl
    · exact h.2.1 j hj
  · simpa using h.2.2

theorem Files.Mirrors.fcsr {r q : Files} (h : r.Mirrors q) (v : W32) :
    ({ r with fcsr := v } : Files).Mirrors { q with fcsr := v } := ⟨h.1, h.2.1, rfl, h.2.2.2⟩

/-- The start phase's copy mirrors what it copies (R500, R503). -/
theorem Files.mirrors_transform (r : Files) : r.Mirrors r.transform := by
  have key : ∀ (d : Sparse W32) (n i : Nat), i < n →
      ((List.range n).foldl (fun t i => t.set (fun _ => 0xffffffff) (phys i) (~~~d.get (fun _ => 0) i)) []
        : Sparse W32).get (fun _ => 0xffffffff) (phys i) = ~~~d.get (fun _ => 0) i := by
    intro d n
    induction n with
    | zero => intro i h; omega
    | succ n ih =>
      intro i h
      rw [List.range_succ, List.foldl_append]
      simp only [List.foldl_cons, List.foldl_nil, Sparse.get_set, phys_inj]
      split
      · subst_vars; rfl
      · exact ih i (by omega)
  refine ⟨fun i hi => ?_, fun i hi => ?_, rfl, rfl⟩
  · by_cases h : i = 0
    · subst h; simp [getX2, readPhys, getX]
    · simpa [getX2, readPhys, getX, h, phys_inj, transform, Machine.transform] using key r.x 32 i hi
  · simpa [getF2, getF, transform, Machine.transform] using key r.f 32 i hi

/-! ## Passes -/

/-- Two passes mirror each other: their files do, and they have formed the same outputs. -/
def Pass.Mirrors (p q : Pass) : Prop := p.r.Mirrors q.r ∧ q.outs = p.outs

theorem Pass.Mirrors.setX {p q : Pass} (h : p.Mirrors q) (i : Nat) (v : W32) :
    (p.setX i v).Mirrors (q.setX2 i (~~~v)) := ⟨h.1.setX i v, h.2⟩
theorem Pass.Mirrors.setF {p q : Pass} (h : p.Mirrors q) (i : Nat) (v : W32) :
    (p.setF i v).Mirrors (q.setF2 i (~~~v)) := ⟨h.1.setF i v, h.2⟩
theorem Pass.Mirrors.setFcsr {p q : Pass} (h : p.Mirrors q) (v : W32) : (p.setFcsr v).Mirrors (q.setFcsr v) :=
  ⟨h.1.fcsr v, h.2⟩
theorem Pass.Mirrors.out {p q : Pass} (h : p.Mirrors q) (e : Echo) : (p.out e).Mirrors (q.out e) :=
  ⟨h.1, by simp [Pass.out, h.2]⟩
theorem Pass.Mirrors.next {p q : Pass} (h : p.Mirrors q) (o : RegOp) (t : Bool) :
    (p.next o t).Mirrors (q.next o t) :=
  ⟨⟨h.1.1, h.1.2.1, h.1.2.2.1, by simp only [Pass.next, h.1.2.2.2]⟩, h.2⟩

/-- The pc moves on before or after a register is written. -/
theorem Pass.setX_next (p : Pass) (i : Nat) (v : W32) (o : RegOp) (t : Bool) :
    (p.next o t).setX i v = (p.setX i v).next o t := by
  unfold Pass.next Pass.setX Files.setX; cases o <;> split <;> rfl
theorem Pass.setF_next (p : Pass) (i : Nat) (v : W32) (o : RegOp) (t : Bool) :
    (p.next o t).setF i v = (p.setF i v).next o t := by
  unfold Pass.next Pass.setF Files.setF; cases o <;> rfl

/-- One instruction keeps the two passes each other's mirror (R503, R504). -/
theorem Pass.two_mirrors {p q : Pass} (h : p.Mirrors q) (rets : Nat → W32) (o : RegOp) :
    (p.served rets o).Mirrors (q.two rets o) := by
  have hx (i : Fin 32) : q.r.getX2 i = ~~~p.r.getX i := h.1.1 i i.isLt
  have hg (i : Fin 32) : q.r.getF2 i = ~~~p.r.getF i := h.1.2.1 i i.isLt
  cases o <;> simp only [served, one, two, hx, hg, h.1.2.2.1, h.2, alu2_not, mulDiv2_not, cmp2_not, boundary,
    BitVec.not_not]
  case alu => exact (h.setX _ _).next _ _
  case alui => exact (h.setX _ _).next _ _
  case mul => exact (h.setX _ _).next _ _
  case set => exact (h.setX _ _).next _ _
  case fp =>
    split
    · exact ((h.setX _ _).setFcsr _).next _ _
    · exact ((h.setF _ _).setFcsr _).next _ _
  case fromX => exact ((h.setF _ _).setFcsr _).next _ _
  case branch => exact h.next _ _
  case cmd => exact h.next _ _
  case access =>
    split
    · split
      · rw [setF_next]; exact ((h.out _).setF _ _).next _ _
      · rw [setX_next]; exact ((h.out _).setX _ _).next _ _
    · exact (h.out _).next _ _
  case csrr => exact ((h.out _).setX _ _).next _ _
  case trap => exact (h.out _).next _ _

/-- So do any instructions. -/
theorem Pass.run_mirrors (rets : Nat → W32) (l : List RegOp) {p q : Pass} (h : p.Mirrors q) :
    (l.foldl (served rets) p).Mirrors (l.foldl (two rets) q) := by
  induction l generalizing p q with
  | nil => exact h
  | cons o l ih => exact ih (two_mirrors h rets o)

/-- What mirrors, transformed back, is equal. -/
theorem Files.Mirrors.words {r q : Files} (h : r.Mirrors q) : q.words2 = r.words := by
  have hx : (List.range 32).map (fun i => ~~~q.getX2 i) = (List.range 32).map r.getX :=
    List.map_congr_left fun i hi => by rw [h.1 i (List.mem_range.1 hi), BitVec.not_not]
  have hf : (List.range 32).map (fun i => ~~~q.getF2 i) = (List.range 32).map r.getF :=
    List.map_congr_left fun i hi => by rw [h.2.1 i (List.mem_range.1 hi), BitVec.not_not]
  unfold Files.words2 Files.words
  rw [hx, hf, h.2.2.1, h.2.2.2]

end Sys2Proof.Machine
end

