-- ==== Sys2Proof/Tests/Slice0.lean ====
section
/-!
SUPPORT. Tests/Slice0.lean: the model's own tests. The check of WellFormed refuses an ill-formed command of each kind;
values written out from the worked examples and tables of the spec; and, for each statement that has hypotheses,
a state that meets them at the bounds of their ranges.
-/

namespace Sys2Proof.Tests

set_option Elab.async false

open Sys2Proof Sys2Proof.Machine

/-- KC runs and the boot ROM may access: the state of the tests. -/
def demo : State := { State.reset with blk := { State.reset.blk with kc := .run, mark := true } }

/-- `demo` with a changed block. -/
def demoWith (f : Blk → Blk) : State := { demo with blk := f demo.blk }

/-- Hart `h` runs. -/
def running (h : Nat) (b : Blk) : Blk := b.put (F.SYSCTL_HART_STAT_STATE h) 1

/-- The block after a step, if the step answers a next state. -/
def after (c : Instr) (s : State) : Option Blk :=
  match step (s.withCommand c) with
  | .next t => some t.blk
  | _ => none

/-! ## Well-formed commands -/

theorem test_wellFormed_refuses : [Instr.on .boot 192, .pgPeriodWrite .boot 12 0 0, .pgPeriodWrite .boot 0 4 0,
    .debounceExpiry 48, .dispatch 8, .periodicRelease 7 1024, .gateEntryBoundary 29, .phyLinkChange 26 true,
    .trainingRetry 4, .tc10SleepAccepted 20, .duplicateNodeId 19, .hostTxFrame 2, .qpCoalesceTimeout 128,
    .txReq .boot 4 64 0, .txReq .boot 3 72 0, .linSlotStart 12, .linResponseUpdate .boot 0 64 0, .timeBaseWrap 2,
    .ringTypTimer 16, .fence 8, .recutBegin 24, .hvctxWrite 8 2, .gateChangeComplete 29, .gateRequest .boot 0x3c 0,
    .macReadEntry .boot 32768, .recoveryFunctionReset 512, .stop .boot 256, .gen 4, .quietPeriodExpiry 384,
    .deviceDmaRequest 5 0 0 0 false [] 4, .seteipnumWrite .boot 0x44108 false 1, .interruptEnableWrite .boot 0xf0 0,
    .memoryLoad .boot false 0 3 none, .registerWrite .boot 0 24 0, .linkFrameResend 13 false, .tamperAlarm 8 0 false,
    .pwmPeriodBoundary 0 4].all (fun c => !wellFormed c) = true := by decide +kernel

theorem test_wellFormed_accepts : [Instr.on .boot 191, .pgPeriodWrite .boot 11 3 0, .debounceExpiry 47, .dispatch 7,
    .gateEntryBoundary 28, .txReq .boot 3 71 0, .txReq .boot 15 63 0, .linSlotStart 11, .fence 7, .fence 16,
    .recutBegin 23, .gateRequest .boot 0x50 0, .macReadEntry .boot 32767, .stop .boot 255, .quietPeriodExpiry 383,
    .memoryLoad .boot false 0 8 none, .registerWrite .boot 0 32 0, .limpBadOpcode 6 0 0 0 []].all wellFormed = true := by
  decide +kernel

theorem test_no_encodings : decodeTableWord 32 0 = none := rfl

/-! ## Values from the spec -/

/-- The worked example of chapter 1: the registers of CH150 lie at 0x00_5190_1600. -/
theorem test_channel_150 : R.CH_CMD 150 = 0x51901600 ∧ bankOf (150 / 16) = 4 := by decide +kernel

/-- The check values of R595, over the bytes 0x31 to 0x39. -/
theorem test_crc_check_values :
    [crc32c, crc32, crc16, crc8, ⟨8, 0x1d, 0xff, false, false, 0xff, false⟩,
      ⟨32, 0xf4acfb13, 0xffffffff, true, true, 0xffffffff, false⟩].map
        (fun c => c.of [0x31, 0x32, 0x33, 0x34, 0x35, 0x36, 0x37, 0x38, 0x39]) =
      [0xe3069283, 0xcbf43926, 0x29b1, 0xf4, 0x4b, 0x1697d06a] := by decide +kernel

/-- The worked example of R536: the entry of page 0x01_2345_6000, and the verdicts on it under R534. -/
theorem test_page_entry : potIndex 0x123456000 = 0x23456 ∧ potOk 0xb1058e00 0x23456 = true ∧
    potOk 0xb1058e00 0x23457 = false ∧
    potJudge 0xb1058e00 0x23456 false 5 .read = .accept ∧ potJudge 0xb1058e00 0x23456 false 1 .read = .accept ∧
    potJudge 0xb1058e00 0x23456 false 6 .read = .refuse 1 193 ∧
    potJudge 0xb1058e00 0x23456 false 5 .fetch = .refuse 6 193 ∧
    potJudge 0xb1058e00 0x23456 true 0 .write = .accept := by decide +kernel

/-- The worked example of R400: BRP 2, TSEG1 63 and TSEG2 16 are a legal nominal bit. -/
theorem test_can_nominal : nominalOk 1 62 15 = true ∧ nominalOk 0 62 0 = false := by decide +kernel

/-- R372 for 01-00-5E-00-00-FB. -/
theorem test_hash : hash372 0x01005e0000fb = 352 := by decide +kernel

/-- R108: before adoption a command is refused with code 3, and a halted die refuses as well. -/
theorem test_not_adopted : (after (.on .boot 191)
    (demoWith (fun b => b.put (F.CH_STAT_ADOPTED 191) 0))).map (fun b => b.fld (F.CH_CMD_STAT_RESULT 191)) = some 3 := by
  decide +kernel

/-- R97: a request with a reserved code sets REFUSED. -/
theorem test_pwr_refused :
    (after (.pwrReqInvalid .boot 5) demo).map (fun b => b.fld F.SYSCTL_PWR_REFUSED) = some 1 := by decide +kernel

/-- An ill-formed command stops by name. -/
theorem test_no_such_unit : step (demo.withCommand (.on .boot 192)) = .fault .noSuchUnit := rfl

/-- R100: a write of AON_RTC_SEC, then its read. -/
theorem test_rtc : (after (.rtcSecRead .boot) (demoWith (fun b => b.put F.AON_RTC_SEC_SEC 77))).map (·.resp) =
    some (.data 77) := by decide +kernel

/-! ## States that meet the hypotheses of the statements: the rules -/

theorem test_hyp_IdleStep : State.reset.blk.fcuIn = [] ∧ State.reset.blk.wakeDue = [] ∧
    (demo.blk.raise 163).fcuIn ≠ [] := by decide +kernel

theorem test_hyp_RunsTakeTheQueueInOrder : (demo.withCommand (.nop .boot 191)).QueueOk := by
  intro c h
  have : c = .nop .boot 191 := by simpa [State.withCommand, demo, State.reset] using h
  subst this; decide +kernel

theorem test_hyp_MemoryStaysCanonical : State.reset.Inv ∧
    (∃ t, step (State.reset.withCommand .vkeepLoss) = .next t) := by
  refine ⟨by unfold State.Inv; decide, ?_⟩
  exact ⟨_, rfl⟩

theorem test_hyp_OnlyMemoryCommandsWriteMemory : mayWriteMemory (.nop .boot 191) = false ∧
    (∃ t, exec (.nop .boot 191) demo = .next t) := ⟨rfl, _, rfl⟩

theorem test_hyp_AcceptedAccess : demo.blk.Accepts .boot .write 0x087ffff8 8 ∧
    regionOf 0x087ffff8 ≠ some .mram ∧ demo.blk.Accepts .boot .read 0x4fffffff8 8 ∧
    demo.blk.Accepts .boot .read 0x0 1 ∧ demo.blk.poisoned 0x4fffffff8 8 = false ∧
    (demoWith (running 16)).blk.Accepts (.hart 16) .fetch 0x3fffc 4 := by
  refine ⟨?_, by decide +kernel, ?_, ?_, by decide +kernel, ?_⟩ <;>
    exact ⟨by decide, by decide, by decide +kernel, by decide +kernel, by decide +kernel, by decide +kernel,
      by decide +kernel, by decide +kernel, true, 0, by decide +kernel, by decide +kernel⟩

/-- Hart 16 holds a reservation of the last block of the safety SRAM. -/
def reserved : State := demoWith (fun b => (running 16 b).setHart 16 { b.hartOf 16 with resv := some (0x087ffff8 / 64) })

theorem test_hyp_AcceptedAccess_atomic : reserved.blk.Accepts (.hart 16) .atomic 0x087ffff8 8 ∧
    reserved.blk.poisoned 0x087ffff8 8 = false ∧ regionOf 0x087ffff8 ≠ some .mram ∧
    reserved.blk.resvOf (.hart 16) = some (0x087ffff8 / 64) ∧ demo.blk.resvOf .boot ≠ some (0x087ffff8 / 64) ∧
    demo.blk.Accepts .boot .atomic 0x087ffff8 4 := by
  refine ⟨?_, by decide +kernel, by decide +kernel, by decide +kernel, by decide +kernel, ?_⟩ <;>
    exact ⟨by decide, by decide, by decide +kernel, by decide +kernel, by decide +kernel, by decide +kernel,
      by decide +kernel, by decide +kernel, true, 0, by decide +kernel, by decide +kernel⟩

/-- SC with its reservation answers 0 (R482). -/
theorem test_atomic : (after (.memoryAtomic (.hart 16) 1 0x087ffff8 4 7 none) reserved).map (fun b => b.resp) =
    some (.data 0) := by decide +kernel

theorem test_hyp_UnassignedAddressIsABusError : isDevice 0x40f00000 = true ∧ isFileReg 0x40f00000 = false ∧
    assigned 0x40f00000 = false ∧ demo.blk.attr .boot ≠ none ∧ demo.blk.hvStop .boot = false ∧
    demo.blk.recutInit .boot = none ∧ demo.blk.pmpOk .boot .write 0x40f00000 4 = true ∧
    demo.blk.pmpOk .boot .read 0x40f00000 4 = true := by decide +kernel

theorem test_hyp_TypedWrite : (locate (R.CH_CMD 191)).isSome = true ∧ (locate (R.FCU_SRC 383)).isSome = true := by
  decide +kernel

theorem test_hyp_RegisterWriteReachesItsTarget : demo.blk.recutInit .boot = none ∧
    (∀ a ∈ [R.SYSCTL_SCRUB, R.ICU_MSI_TGT 5, R.SWC_SA_CFG], demo.blk.writable .boot a = true) := by decide +kernel

/-- Hart 0 runs in the normal world in context 5, which owns nothing; PMP entry 0 lets
it access everything. -/
def normal : State := demoWith (fun b => (running 0 b).setHart 0 { b.hartOf 0 with
  w := false
  ctx := 5
  prv := 1
  c := { reg := [(0x3a0, 0x1f), (0x3b0, 2 ^ 54 - 1)] } })

theorem test_hyp_OwnerRefusal : normal.blk.attr (.hart 0) = some (false, 5) ∧
    normal.blk.judge (.hart 0) (R.TB_OFFS 0) true = .refuse (some 9) (some 194) ∧
    normal.blk.recutInit (.hart 0) = none := by decide +kernel

theorem test_hyp_FieldWriteNonPosted : demo.blk.attr .boot = some (true, 0) ∧
    demo.blk.judge .boot (R.CH_CMD 191) true = .accept ∧ demo.blk.fld F.BPL_STATUS_APPLIED = 0 ∧ demo.blk.tags < 32 ∧
    (demo.blk.put F.BRG_CTL_NP_ALL 1).fld F.BRG_CTL_NP_ALL = 1 := by decide +kernel

/-- Input 47 is digital, its level active for one second, STUCK_T one second. -/
def stuck : State := demoWith (fun b => { ((b.put (F.DI_CFG_MODE 47) 1).put F.DI_GCFG_STUCK_T 1).put
  (F.DI_STAT_LEVEL 47) 1 with clk := tickSec })

theorem test_hyp_StuckInput : stuck.blk.fld (F.DI_CFG_MODE 47) = 1 ∧ stuck.blk.fld F.DI_GCFG_STUCK_T ≠ 0 ∧
    stuck.blk.fld (F.DI_STAT_LEVEL 47) = 1 ∧ stuck.blk.fld (F.DI_STAT_STUCK 47) = 0 ∧
    (stuck.blk.inputOf 47).actAt + stuck.blk.fld F.DI_GCFG_STUCK_T * tickSec ≤ stuck.blk.clk ∧
    stuck.blk.fld (F.DI_STAT_CHATTER 47) = 0 ∧ (stuck.blk.inputOf 47).raw = false ∧
    (stuck.blk.inputOf 47).rawAt + stuck.blk.diDeb 47 ≤ stuck.blk.clk ∧
    (stuck.blk.put (F.DI_STAT_CHATTER 47) 1).fld (F.DI_STAT_CHATTER 47) = 1 ∧
    (stuck.blk.inputOf 47).sampAt + 10 * tickMs ≤ stuck.blk.clk := by decide +kernel

theorem test_hyp_TableWriteAtRunTime : demo.blk.writable .boot (R.DISP_ENT 7 1023 3) = true ∧
    demo.blk.ctxSecure (demo.blk.ownOf 0x01 2).ctx = true ∧
    1023 ∈ ((demo.blk.setDisp 7 { demo.blk.dispOf 7 with ready := [1023] }).dispOf 7).ready := by decide +kernel

theorem test_hyp_PowerRequests : demo.blk.writable .boot R.SYSCTL_PWR = true ∧ demo.blk.fld F.SYSCTL_PWR_BUSY = 0 ∧
    (demo.blk.put F.SYSCTL_PWR_STATE 0).fld F.SYSCTL_PWR_STATE = 0 ∧
    (demo.blk.put F.SYSCTL_PWR_STATE 0).writable .boot R.SYSCTL_PWR = true ∧
    (demo.blk.put F.SYSCTL_PWR_BUSY 1).fld F.SYSCTL_PWR_BUSY = 1 ∧
    (demo.blk.put F.SYSCTL_PWR_BUSY 1).writable .boot R.SYSCTL_PWR = true := by decide +kernel

/-- KC runs on good rails. -/
def railed : State := demoWith (fun b => { b with pwr := { b.pwr with
  vkeep := true
  ready := true
  railEn := true
  railGood := true } })

theorem test_hyp_RailLossResetsKc : railed.blk.pwr.railGood = true ∧ railed.blk.kcRun = true ∧
    railed.blk.k.brg.tx = [] ∧ railed.blk.slp.armed = false := by decide +kernel

theorem test_hyp_PowerUpKeepsMram : State.reset.blk.pwr.ready = false := by decide +kernel

/-- Hart 0 in the normal world, in context CTX001; CTX005 is a partition. -/
def hyper : State := demoWith (fun b => ((running 0 b).setHart 0 { b.hartOf 0 with
  w := false
  ctx := 1
  prv := 1 }).put (F.SEC_CTX_EXISTS 5) 1)

theorem test_hyp_HvctxWrite : isApp 0 = true ∧ isApp 7 = true ∧ hyper.blk.runs 0 = true ∧ (hyper.blk.hartOf 0).v = false ∧
    (hyper.blk.hartOf 0).prv ≠ 0 ∧ (hyper.blk.hartOf 0).w = false ∧ (hyper.blk.hartOf 0).ctx = 1 ∧
    hyper.blk.ctxNormalPart (5 % 256) = true ∧ hyper.blk.ctxNormalPart (1 % 256) = false := by decide +kernel

theorem test_hyp_RefusedChannelCommand : demo.blk.writable .boot (R.CH_CMD 191) = true ∧
    (demo.blk.put (F.CH_STAT_ADOPTED 191) 0).preCheck 191 = some 3 ∧
    (demo.blk.put (F.DIE_PSTAT_HALT 11) 1).preCheck 191 = some 3 := by decide +kernel

/-- CH191 is adopted, as after VKEEP power-up, and its declared inrush is within the exemption. -/
def adopted : State := demoWith (fun b => (b.put (F.CH_INRUSH_PEAK 191) 0).put (F.CH_INRUSH_ENERGY 191) 0)

theorem test_hyp_OnAndOffTakeEffect : adopted.blk.writable .boot (R.CH_CMD 191) = true ∧
    adopted.blk.preCheck 191 = none ∧ adopted.blk.timedNow 191 = false ∧
    (adopted.blk.put (F.CH_STAT_LATCH 191) 1).fld (F.CH_STAT_LATCH 191) = 1 ∧
    adopted.blk.fld (F.CH_STAT_LATCH 191) = 0 ∧ adopted.blk.bankLow 191 = false ∧ adopted.blk.mode 191 = 0 ∧
    adopted.blk.fld (F.CH_PROT_STAT_PEND 191) = 0 ∧ adopted.blk.needsLeave 191 = false ∧
    adopted.blk.outranked 191 14 = false ∧ adopted.blk.dueEntry 11 = none ∧
    (adopted.blk.put (F.CH_STAT_MODE 191) 1).mode 191 = 1 := by decide +kernel

/-- ON turns CH191 on. -/
theorem test_on : (after (.on .boot 191) adopted).map (fun b => b.mode 191) = some 1 := by decide +kernel

/-- The plan is applied. -/
def planned : State := demoWith (fun b => b.setFcu (fun f => { f with plan := true }))

theorem test_hyp_LowSeverityRaising : faultNamed 163 = true ∧ planned.blk.kcRun = true ∧ planned.blk.k.fcu.plan = true ∧
    planned.blk.sevOf 163 < 2 ∧ planned.blk.classOpen (faultClass 163) = false ∧ planned.blk.k.fcu.log.length < 64 := by
  decide +kernel

theorem test_hyp_AplicSourceModes : isWired 1 = true ∧ isWired 95 = true ∧ isWired 75 = false ∧
    (6 : Nat).testBit 10 = false := by decide +kernel

theorem test_hyp_CommandFrames : demo.blk.writable .boot R.KV_CMD = true ∧ demo.blk.writable .boot R.ATU_INV = true ∧
    demo.blk.writable .boot (R.ATU_CTX_CTL 255) = true ∧ demo.blk.writable .boot (R.ATU_DIRTY_CTL 255) = true ∧
    demo.blk.writable .boot (R.QP_CTL 127) = true ∧ demo.blk.writable .boot (R.RING_CTL 15) = true ∧
    gateExists 0x50 = true ∧ demo.blk.writable .boot (R.SYSCTL_GATE 0x50) = true := by decide +kernel

/-! ## States that meet the hypotheses of the statements: the families -/

theorem test_hyp_SupplyEvents : State.reset.blk.pwr.ready = false ∧ railed.blk.pwr.vkeep = true ∧
    ({ railed.blk.pwr with ready := false } : Power).ready = false ∧ railed.blk.pwr.railEn = true ∧
    ({ railed.blk.pwr with railGood := false } : Power).railGood = false ∧ railed.blk.pwr.railGood = true ∧
    railed.blk.kc ≠ .down ∧ railed.blk.pwr.rcOsc = false := by decide +kernel

theorem test_hyp_KcStart : ({ railed.blk with kc := .down, clk := tickUs * 500 } : Blk).kcMayStart = true ∧
    railed.blk.keeper.sv4Late ≠ some true ∧
    (railed.blk.put F.KV_STAT_DBG_LEVEL 1).fld F.KV_STAT_DBG_LEVEL ≠ 0 := by decide +kernel

theorem test_hyp_channels_not_halted : demo.blk.halted (191 / 16) = false := by decide +kernel

theorem test_hyp_interruptEnableWrite : (msgEnable 0).isSome = true ∧ (msgEnable 0xef).isSome = true ∧
    (msgEnable 0xc0).map (fun x => demo.blk.writable .boot x.2.1) = some true := by decide +kernel

theorem test_hyp_dispEnd : demo.blk.recutInit .boot = none := by decide +kernel

theorem test_hyp_gateListSwitch : ((demo.blk.shapeAll 28).qbvSwitch 28).txOf 28 = [] := by decide +kernel

theorem test_hyp_can_clocked : demo.blk.gateOff (0x20 + 15) = false := by decide +kernel

theorem test_hyp_seteipnum : isFile 0x44100 = true ∧ demo.blk.attr .boot = some (true, 0) ∧
    demo.blk.hvStop .boot = false ∧ demo.blk.recutInit .boot = none ∧ demo.blk.pmpOk .boot .write (0x44100 * 4096) 4 = true ∧
    demo.blk.pmpOk .boot .write (0x44100 * 4096 + 4) 4 = true ∧ icuAccepts (0x44100 * 4096) true 0 = true ∧
    icuAccepts (0x44100 * 4096 + 4) true 0 = true := by decide +kernel

theorem test_hyp_harts : isApp 7 = true ∧ isHart 23 = true ∧ (demoWith (running 23)).blk.runs 23 = true ∧
    demo.blk.kcRun = true := by decide +kernel

/-- SC7 runs in Recut mode, in pass one. -/
def slicing : State := demoWith (fun b => ((running 23 b).put (F.RCX_STAT_MODE 7) 1).put (F.RCX_STAT_PHASE 7) 2)

theorem test_hyp_recut : slicing.blk.runs 23 = true ∧ slicing.blk.recut 23 = true ∧ slicing.blk.passOne 23 = true ∧
    slicing.blk.fld (F.RCX_STAT_GROUP (23 - 16)) = 0 ∧ (slicing.blk.hartOf 23).prv = 3 ∧
    slicing.blk.atInstr 23 ∧ (demoWith (running 23)).blk.recut 23 = false ∧
    (demoWith (running 23)).blk.waits 23 = false ∧
    (demoWith (running 23)).blk.fld (F.RCX_STAT_SWITCHABLE (23 - 16)) ≠ 0 ∧
    ((demoWith (running 23)).blk.put (F.RCX_STAT_SWITCHABLE (23 - 16)) 0).fld (F.RCX_STAT_SWITCHABLE (23 - 16)) = 0 := by
  decide +kernel

theorem test_hyp_recutTrap : slicing.blk.attr (.hart 23) ≠ none ∧ slicing.blk.hvStop (.hart 23) = false ∧
    slicing.blk.recutInit (.hart 23) = some 23 ∧ slicing.blk.passOne 23 = true ∧
    slicing.blk.atInstr 23 ∧ slicing.blk.heldAt 23 0x40f00000 4 = false ∧ isSafety 23 = true ∧
    (demoWith (running 23)).blk.runs 23 = true ∧ slicing.blk.pmpOk (.hart 23) .write 0x40f00000 4 = true := by
  decide +kernel

theorem test_hyp_gateRet : (demo.blk.hartOf 23).w = true ∧ (demo.blk.hartOf 23).prv = 3 ∧
    (demoWith (running 23)).blk.irq 23 = none ∧ (demoWith (running 7)).blk.irq 7 = none ∧
    demo.blk.scrubDue 3 = true ∧ demo.blk.scrubDue 5 = true := by decide +kernel

/-- SC7 has run a slice of no instruction and is in pass two. -/
def second : State := demoWith (fun b => ((running 23 b).put (F.RCX_STAT_MODE 7) 1).put (F.RCX_STAT_PHASE 7) 4
  |>.setHart 23 (b.hartOf 23).startSlice)

theorem test_hyp_passTwo : second.blk.passTwoNow 23 = true ∧ (second.blk.hartOf 23).badAt = none ∧
    (second.blk.hartOf 23).rawEnd = false ∧ (second.blk.hartOf 23).sigEnd = false := by
  have h : second.blk.hartOf 23 = (demo.blk.hartOf 23).startSlice := by decide +kernel
  have e : (demo.blk.hartOf 23).startSlice.passTwo.r.words2 = (demo.blk.hartOf 23).startSlice.p1.words :=
    (Files.mirrors_transform (demo.blk.hartOf 23).p1).words
  refine ⟨by decide +kernel, by decide +kernel, ?_, ?_⟩
  · simp only [h, Hart.rawEnd, e]; simp [Hart.startSlice]
  · simp only [h, Hart.sigEnd, e]; simp [Hart.startSlice]

theorem test_hyp_invalidations : ({ demo.blk.k with inv := some (0, 1) } : KcPart).inv = some (0, 1) ∧
    ({ demo.blk.k.atu with inv := some (true, false, 255, 7, 1) } : Atu).inv = some (true, false, 255, 7, 1) := by decide +kernel

theorem test_hyp_device : devExists 1 127 = true ∧ devExists 4 15 = true ∧ 0 < 64 ∧ 64 ≤ burstLen 0x1000 64 ∧
    1 ≤ burstLen 0x103f 64 := by decide +kernel

/-- A BUMP of CTX255 has waited 1 ms for its accesses. -/
def draining : State := demoWith (fun b => { (b.setAtu (fun a => { a with
  bumpAt := a.bumpAt.set (fun _ => 0) 255 1 })).put (F.ATU_CTX_STAT_INFLIGHT 255) 1 with clk := tickMs })

theorem test_hyp_drainTimeout : draining.blk.k.atu.bumpAt.get (fun _ => 0) 255 = 0 + 1 ∧
    0 + tickMs ≤ draining.blk.clk ∧ draining.blk.on (F.ATU_CTX_STAT_INFLIGHT 255) = true := by decide +kernel

/-- Queue 3 of CRY unit 3 is busy and its bulk grant has been revoked. -/
def paused : State := demoWith (fun b => (b.setWb { b.k.wb with
  revoked := [⟨0, 4, 15, 0, 0, 0, 0, 0, 0, 0⟩] }).put (F.CQ_STAT_BUSY 15) 1)

theorem test_hyp_cryptoBulkPause : (List.range 4).find? (fun j => paused.blk.on (F.CQ_STAT_BUSY (4 * 3 + j)) &&
    paused.blk.k.wb.revoked.any (fun a => a.kind == 4 && a.unit == 4 * 3 + j)) = some 3 := by decide +kernel

theorem test_hyp_tamper : ({ railed.blk with dsOffDue := true, kc := .down } : Blk).dsOffDue = true ∧
    ({ railed.blk with kc := .quar } : Blk).kc = .quar ∧ railed.blk.fld F.TAMPER_STAT_COUNT = 0 := by decide +kernel

/-- A restart of CTX255 has been requested for FS163 and not answered. -/
def restarting : State := demoWith (fun b => { b.setFcu (fun f => { f with
  rst := [(255, 0, ⟨163, none, none, 0⟩)] }) with clk := 65535 * tickMs })

theorem test_hyp_restartTimeout : (restarting.blk.restartLate 255).1 = some ⟨163, none, none, 0⟩ := by decide +kernel

theorem test_hyp_responderBlockExpiry : (demo.blk.put F.RESP_STAT_BLOCKED 1).fld F.RESP_STAT_BLOCKED = 1 ∧
    (stuck.blk).keeper.blockedAt + tickSec ≤ stuck.blk.clk := by decide +kernel

theorem test_hyp_PowerStateCommands :
    demo.blk.writable .boot R.SYSCTL_PWR = true ∧
    demo.blk.readable .boot R.AON_RTC_SEC = true ∧
    demo.blk.writable .boot R.AON_RTC_SEC = true ∧
    demo.blk.writable .boot R.WK_ALARM_CTL = true ∧
    demo.blk.writable .boot R.WK_POP = true := by
  decide +kernel

theorem test_hyp_ImmediateChannelCommands :
    demo.blk.writable .boot (R.CH_CMD 191) = true := by
  decide +kernel

theorem test_hyp_TimedChannelCommands :
    demo.blk.writable .boot (R.CH_TCMD_TIME 191) = true ∧
    demo.blk.writable .boot (R.CH_TCMD 191) = true := by
  decide +kernel

theorem test_hyp_StartsAndPwm :
    demo.blk.writable .boot (R.CH_ADOPT 191) = true ∧
    demo.blk.writable .boot (R.PG_PERIOD 11 3) = true ∧
    demo.blk.writable .boot (R.PG_ANCHOR 11 3) = true ∧
    demo.blk.writable .boot (R.CH_PHASE 191) = true := by
  decide +kernel

theorem test_hyp_ProtectionAndKeeperCommands :
    demo.blk.writable .boot (R.CH_PROT_CLR 191) = true ∧
    demo.blk.writable .boot (R.WM_AMB 11) = true ∧
    demo.blk.writable .boot R.KEEP_ALIVE = true := by
  decide +kernel

theorem test_hyp_MeasurementCommands :
    demo.blk.writable .boot (R.CH_WCFG 191) = true ∧
    demo.blk.writable .boot (R.DIE_MEAS 11) = true ∧
    demo.blk.writable .boot (R.CH_MCTL 191) = true := by
  decide +kernel

theorem test_hyp_InputCommands :
    demo.blk.writable .boot (R.DI_EVT 47) = true := by
  decide +kernel

theorem test_hyp_WeighbridgeCommands :
    demo.blk.writable .boot (R.WBG_SLOT_REQ 15) = true ∧
    demo.blk.writable .boot (R.WBG_SLOT_REL 15) = true := by
  decide +kernel

theorem test_hyp_DispatcherCommands :
    demo.blk.writable .boot (R.DISP_RELEASE 7) = true ∧
    demo.blk.writable .boot (R.DISP_END 7) = true ∧
    demo.blk.writable .boot (R.DISP_ENT 7 1023 3) = true := by
  decide +kernel

theorem test_hyp_FabricCommands :
    demo.blk.writable .boot R.SWC_FAB_CTL = true := by
  decide +kernel

theorem test_hyp_ForwardingCommands :
    demo.blk.writable .boot R.MAC_CMD = true ∧
    demo.blk.writable .boot R.FWD_CTL = true := by
  decide +kernel

theorem test_hyp_PortCommands :
    demo.blk.writable .boot (R.QBV_CTL 28) = true ∧
    demo.blk.writable .boot (R.ETH_CT 25) = true := by
  decide +kernel

theorem test_hyp_Tc10AndHostCommands :
    demo.blk.writable .boot (R.ETH_TC10 19) = true ∧
    demo.blk.writable .boot (R.QP_TX_TAIL 127) = true ∧
    demo.blk.writable .boot (R.QP_CTL 127) = true := by
  decide +kernel

theorem test_hyp_CanControlCommands :
    demo.blk.writable .boot (R.CAN_CTL 15) = true ∧
    mbExists 3 71 = true ∧
    demo.blk.writable .boot (mbCs 3 71) = true ∧
    demo.blk.writable .boot (R.CAN_FIFO_POP 15) = true := by
  decide +kernel

theorem test_hyp_LinCommands :
    demo.blk.writable .boot (R.LR_CFG 11 63) = true ∧
    demo.blk.writable .boot (R.LIN_CTL 11) = true := by
  decide +kernel

theorem test_hyp_TimeCommands :
    demo.blk.writable .boot (R.TB_OFFS 1) = true ∧
    demo.blk.writable .boot (R.TB_STEP 1) = true ∧
    demo.blk.writable .boot (R.TB_CMD 1) = true ∧
    demo.blk.readable .boot (R.TB_NS 1) = true ∧
    demo.blk.writable .boot (R.PTS_POP 25) = true ∧
    demo.blk.writable .boot (R.PO_CTL 1) = true ∧
    demo.blk.writable .boot R.TALLY_CTL = true := by
  decide +kernel

theorem test_hyp_RingCommands :
    demo.blk.writable .boot (R.NM_CFG 15) = true ∧
    demo.blk.writable .boot R.NM_CONSENT = true ∧
    demo.blk.writable .boot R.NM_LEDGER_CLR = true := by
  decide +kernel

theorem test_hyp_HartCommands :
    isHart 23 = true ∧
    demo.blk.writable .boot (R.SYSCTL_HART_CTL 23) = true := by
  decide +kernel

theorem test_hyp_RecutCommands :
    isHart 23 = true ∧
    isSafety 23 = true := by
  decide +kernel

theorem test_hyp_MemoryAndWorldCommands :
    isHart 23 = true ∧
    demo.blk.writable .boot R.SEC_POT_CTL = true ∧
    demo.blk.writable .boot R.SEC_POT_INV = true ∧
    gateExists 0x50 = true ∧
    demo.blk.writable .boot (R.SYSCTL_GATE 0x50) = true ∧
    demo.blk.writable .boot (R.SYSCTL_GATE_REL 0x50) = true := by
  decide +kernel

theorem test_hyp_DeviceTranslationCommands :
    demo.blk.writable .boot R.ATU_INV = true ∧
    demo.blk.writable .boot (R.ATU_CTX_CTL 255) = true ∧
    demo.blk.writable .boot (R.ATU_DIRTY_CTL 255) = true := by
  decide +kernel

theorem test_hyp_BridgeCommands :
    isHart 23 = true := by
  decide +kernel

theorem test_hyp_JobCommands :
    demo.blk.writable .boot (R.RING_TAIL 15) = true ∧
    demo.blk.writable .boot (R.RING_CTL 15) = true := by
  decide +kernel

theorem test_hyp_KeyCommands :
    demo.blk.writable .boot R.KV_CMD = true := by
  decide +kernel

theorem test_hyp_FaultCommands :
    demo.blk.writable .boot (R.FCU_SRC 383) = true ∧
    demo.blk.writable .boot R.FCU_TEST = true ∧
    demo.blk.writable .boot R.FCU_LOG_POP = true := by
  decide +kernel

theorem test_hyp_ResponderAndPlanCommands :
    demo.blk.writable .boot R.RESP_FRESH_HI = true ∧
    demo.blk.writable .boot R.BPL_CMD = true := by
  decide +kernel

end Sys2Proof.Tests
end

section
/-!
PROOFS. What a command does to the state: it is one operation on the block and memory, performed if the units that it
names exist. So an ill-formed command stops, and does nothing else (assumption 6).
-/

namespace Sys2Proof.Machine

/-- A command that acts on the block alone is one that leaves memory as it is. -/
theorem onBlk_eq_onMem (ok : Bool) (s : State) (f : Blk → Blk) : onBlk ok s f = onMem ok s (fun b m => (f b, m)) := by
  cases ok <;> rfl

/-! ## Units under two names -/

theorem isSome_msgEnable (src : Nat) : (msgEnable src).isSome = messageNo src := by
  unfold msgEnable messageNo
  split_ifs <;> simp <;> omega

theorem isFile_eq_filePage (p : Nat) : isFile p = filePage p := by
  unfold isFile filePage
  split_ifs with hm hs
  · rfl
  · simp [hs]
  · rw [not_and_or] at hs
    rcases hs with hs | hs <;> simp [hs]

/-! ## Every command is an operation lifted under its well-formedness -/

theorem pwrCmd_eq_onMem (i : Init) (req wfi : Nat) (s : State) : ∃ f, pwrCmd i req wfi s = onMem true s f :=
  ⟨_, onBlk_eq_onMem _ _ _⟩

theorem cmdWrite_eq_onMem (i : Init) (ch op duty : Nat) (s : State) :
    ∃ f, cmdWrite i ch op duty s = onMem (ch < 192) s f := ⟨_, onBlk_eq_onMem _ _ _⟩

theorem tcmdWrite_eq_onMem (i : Init) (ch op duty : Nat) (ep : Bool) (s : State) :
    ∃ f, tcmdWrite i ch op duty ep s = onMem (ch < 192) s f := ⟨_, onBlk_eq_onMem _ _ _⟩

theorem execInterruptEnableWrite_eq_onMem (i : Init) (src : Nat) (v : W32) (s : State) :
    ∃ f, execInterruptEnableWrite i src v s = onMem (messageNo src) s f := by
  rw [← isSome_msgEnable]
  unfold execInterruptEnableWrite
  rcases msgEnable src with _ | ⟨_, a, _⟩
  · exact ⟨_, onBlk_eq_onMem _ _ _⟩
  · exact ⟨_, onBlk_eq_onMem _ _ _⟩

theorem execSeteipnumWrite_eq_onMem (i : Init) (p : Nat) (be : Bool) (v : Nat) (s : State) :
    ∃ f, execSeteipnumWrite i p be v s = onMem (filePage p) s f := by
  rw [← isFile_eq_filePage]
  exact ⟨_, onBlk_eq_onMem _ _ _⟩

/-- Every command performs one operation on the block and memory if it is well formed, and else stops. The first group
are the commands that reach memory; those after it pass through a shared operation or name their unit differently; all
others act on the block alone. -/
theorem exec_eq_onMem (c : Instr) (s : State) : ∃ f, exec c s = onMem (wellFormed c) s f := by
  cases c with
  | vkeepPowerUp | vkeepLoss | kcStart | memoryLoad | memoryStore | memoryAtomic | potFetch | commitComplete
  | deviceDmaRequest | pageWalkComplete | ctxOpDone | hostTxFrame | hostRxFrame | canTxComplete | canFrameReceive
  | frameTransmitEnd | gen | append | check | strip | cvuBadArgument | gcmEnc | gcmDec | cmacGen | cmacVer | sha384
  | sign | verify | cryBadOpcode | kvCommandComplete | tamperAlarm | planCheckComplete =>
    dsimp only [exec]
    exact ⟨_, rfl⟩
  | pwrReqRun | pwrReqIdle | pwrReqStandby | pwrReqSleep | pwrReqKcReset | pwrReqInvalid => exact pwrCmd_eq_onMem ..
  | nop | off | on | pwm | cap | duty | cancel | cmdReservedOpcode => exact cmdWrite_eq_onMem ..
  | timedOff | timedOn | timedPwm | timedCap | timedDuty | timedReservedOpcode => exact tcmdWrite_eq_onMem ..
  | interruptEnableWrite => exact execInterruptEnableWrite_eq_onMem ..
  | seteipnumWrite => exact execSeteipnumWrite_eq_onMem ..
  | _ =>
    dsimp only [exec]
    exact ⟨_, onBlk_eq_onMem _ _ _⟩

/-- Settles O4: a command is lifted under its well-formedness, and a lift whose units do not exist is the fault. -/
theorem illFormedCommandsStop : Obligations.IllFormedCommandsStop := by
  intro c s hc
  obtain ⟨f, hf⟩ := exec_eq_onMem c s
  rw [hf, hc, onMem_false]

end Sys2Proof.Machine
end

section
/-!
PROOFS. The typed write of R8, bit by bit. It rests on one fact about the register map: the fields of a register do not
overlap.
-/

namespace Sys2Proof.Machine

/-! ## The register map -/

/-- Bit `k` lies in the field. -/
abbrev FieldSpec.Has (f : FieldSpec) (k : Nat) : Prop := f.lo ≤ k ∧ k ≤ f.hi

/-- The field lies within a register. -/
abbrev FieldSpec.Ok (f : FieldSpec) : Prop := f.lo ≤ f.hi ∧ f.hi < 32

/-- The two fields share no bit. -/
abbrev FieldSpec.Apart (f g : FieldSpec) : Prop := f.hi < g.lo ∨ g.hi < f.lo

/-- The fields of a register lie within it, and no two share a bit. -/
abbrev RegSpec.FieldsOk (r : RegSpec) : Prop := (∀ f ∈ r.fields, f.Ok) ∧ r.fields.Pairwise FieldSpec.Apart

/-- So it is with every register of a table. -/
def TableOk (l : List RegSpec) : Prop := ∀ r ∈ l, r.FieldsOk

theorem TableOk.ite {c : Prop} [Decidable c] {l m : List RegSpec} (hl : TableOk l) (hm : TableOk m) :
    TableOk (if c then l else m) := by
  split
  · exact hl
  · exact hm

/-- The tables are finite: each is looked through. -/
theorem tableOk_blockRegs (a : Nat) : TableOk (blockRegs a) := by
  unfold blockRegs
  repeat' apply TableOk.ite
  all_goals
    unfold TableOk
    decide +kernel

theorem mem_of_locateIn {l : List RegSpec} {a : Nat} {r : RegSpec} {ix : List Nat}
    (h : locateIn l a = some (r, ix)) : r ∈ l := by
  induction l with
  | nil => simp [locateIn] at h
  | cons q l ih =>
    rw [locateIn] at h
    split at h
    · split at h
      · cases h; exact List.mem_cons_self
      · exact List.mem_cons_of_mem _ (ih h)
    · exact List.mem_cons_of_mem _ (ih h)

theorem fieldsOk_of_locate {a : Nat} {r : RegSpec} {ix : List Nat} (h : locate a = some (r, ix)) : r.FieldsOk := by
  unfold locate at h
  split at h
  · cases h
  · exact tableOk_blockRegs a r (mem_of_locateIn h)

/-! ## Bits of a typed write -/

/-- What a write of the bit `v` leaves of the bit `old` of a field of each type; `lock` says whether the bit is locked
(R7, R8). -/
def FieldTy.written (ty : FieldTy) (lock old v : Bool) : Bool :=
  match ty with
  | .rw => v
  | .ro | .wo => old
  | .w1c => old && !v
  | .w1s => old || v
  | .rwl => if lock then old else v

theorem FieldSpec.getLsbD_write (f : FieldSpec) (hf : f.Ok) (lock old v : W32) (k : Nat) :
    (f.write lock old v).getLsbD k =
      if f.Has k then f.ty.written (lock.getLsbD k) (old.getLsbD k) (v.getLsbD k) else old.getLsbD k := by
  have hm : (Fld.mask ⟨0, f.hi, f.lo⟩).getLsbD k = decide (f.Has k) := by
    rw [Fld.getLsbD_mask _ _ hf, Bool.decide_and]
  by_cases hk : k < 32
  · unfold FieldSpec.write FieldTy.written
    cases f.ty <;> simp only [BitVec.getLsbD_or, BitVec.getLsbD_and, BitVec.getLsbD_not, hm, hk]
    case rwl => cases lock.getLsbD k <;> by_cases h : f.Has k <;> simp [h]
    all_goals by_cases h : f.Has k <;> simp [h]
  · have hn : ¬ f.Has k := fun h => hk (lt_of_le_of_lt h.2 hf.2)
    rw [if_neg hn, BitVec.getLsbD_of_ge _ k (by omega), BitVec.getLsbD_of_ge _ k (by omega)]

/-- A bit of no field keeps its value (R9). -/
theorem getLsbD_typedWord_other {fs : List FieldSpec} {k : Nat} (hok : ∀ f ∈ fs, f.Ok) (hk : ∀ f ∈ fs, ¬ f.Has k)
    (lock old v : W32) : (typedWord fs lock old v).getLsbD k = old.getLsbD k := by
  induction fs generalizing old with
  | nil => rfl
  | cons g fs ih =>
    rw [List.forall_mem_cons] at hok hk
    exact (ih hok.2 hk.2 _).trans (by rw [g.getLsbD_write hok.1, if_neg hk.1])

/-- A bit of a field becomes what the field's type says: no other field reaches it. -/
theorem getLsbD_typedWord_mem {fs : List FieldSpec} {f : FieldSpec} {k : Nat} (hok : ∀ f ∈ fs, f.Ok)
    (hd : fs.Pairwise FieldSpec.Apart) (hf : f ∈ fs) (hk : f.Has k) (lock old v : W32) :
    (typedWord fs lock old v).getLsbD k = f.ty.written (lock.getLsbD k) (old.getLsbD k) (v.getLsbD k) := by
  induction fs generalizing old with
  | nil => cases hf
  | cons g fs ih =>
    rw [List.forall_mem_cons] at hok
    rw [List.pairwise_cons] at hd
    rcases List.mem_cons.1 hf with rfl | hf
    · have hrest : ∀ e ∈ fs, ¬ e.Has k := fun e he => by
        have := hd.1 e he
        omega
      exact (getLsbD_typedWord_other hok.2 hrest lock _ v).trans (by rw [f.getLsbD_write hok.1, if_pos hk])
    · have hg : ¬ g.Has k := by
        have := hd.1 f hf
        omega
      exact (ih hok.2 hd.2 hf _).trans (by rw [g.getLsbD_write hok.1, if_neg hg])

theorem Blk.reg_writeReg_same {a : Nat} {r : RegSpec} {ix : List Nat} (h : locate a = some (r, ix)) (b : Blk)
    (v : W32) : (b.writeReg a v).reg a = typedWord r.fields (b.lockOf a) (b.reg a) v := by
  simp [Blk.writeReg, h]

/-- Settles O13: the fields of a register do not overlap, so the one that holds a bit alone decides what it becomes. -/
theorem typedWrite : Obligations.TypedWrite := by
  intro b a v r ix hl
  obtain ⟨hok, hd⟩ := fieldsOk_of_locate hl
  rw [b.reg_writeReg_same hl]
  refine ⟨fun f hf k hlo hhi => ?_, fun k hk => getLsbD_typedWord_other hok hk _ _ _, fun x hx => ?_,
    b.writeReg_resp a v, b.writeReg_fcuIn a v⟩
  · rw [getLsbD_typedWord_mem hok hd hf ⟨hlo, hhi⟩]
    cases f.ty <;> rfl
  · exact b.reg_writeReg_other a v x (by simpa using hx)

end Sys2Proof.Machine
end

section
/-!
PROOFS. Stores to device space: those of a wrong width or alignment end in a bus error (R6), and an accepted one to a
register of KC has the effect of its target (R7, R8).
-/

namespace Sys2Proof.Machine

/-! ## The way of a store -/

theorem exec_registerWrite (i : Init) (a v : Nat) (s : State) {w : Nat} (hw : w = 8 ∨ w = 16 ∨ w = 32) :
    exec (.registerWrite i a w v) s = .next (s.withBlk (s.blk.busStore i a (w / 8) v)) := by
  rcases hw with rfl | rfl | rfl <;> rfl

/-- An instruction that does not have to wait for pass one is executed at once. -/
theorem Blk.recutDev_now {b : Blk} {i : Init} (hr : ∀ h, b.recutInit i = some h → b.atInstr h) (f : Blk → Blk) :
    b.recutDev i f = f b := by
  unfold Blk.recutDev
  split
  · rfl
  · next h hh => exact b.atOne_atInstr (hr h hh) f

theorem Blk.writable_iff {b : Blk} {i : Init} {a : Nat} :
    b.writable i a = true ↔ b.judge i a true = .accept ∧ b.copyJudge i a = true ∧ b.recutInit i = none := by
  simp [Blk.writable, and_assoc]

theorem Blk.attr_of_judge_accept {b : Blk} {i : Init} {a : Nat} {wr : Bool} (h : b.judge i a wr = .accept) :
    ∃ p, b.attr i = some p := by
  rw [← Option.ne_none_iff_exists']
  intro hn
  simp [Blk.judge, hn] at h

/-- A store of another size than 8 bytes that is not an aligned word is answered with a bus error (R6, R481). -/
theorem Blk.busStore_badWidth {b : Blk} {i : Init} {a n : Nat} (v : Nat) (hattr : b.attr i ≠ none)
    (hv : b.hvStop i = false) (hr : ∀ h, b.recutInit i = some h → b.atInstr h) (h4 : ¬(n = 4 ∧ a % 4 = 0))
    (h8 : n ≠ 8) : b.busStore i a n v = b.except i 7 a .busError := by
  obtain ⟨p, hp⟩ := Option.ne_none_iff_exists'.1 hattr
  rw [Blk.busStore, Blk.recutDev_now hr]
  simp [Blk.wordsStore, hp, h4, h8, Blk.badWidth, hv]

/-- An accepted store of a word to a register of KC has the effect of its target. -/
theorem Blk.busStore_writable {b : Blk} {i : Init} {a : Nat} (v : Nat) (hw : b.writable i a = true) (ha : a % 4 = 0)
    (hf : isFileReg a = false) (hk : a < 0x50000000) :
    b.busStore i a 4 v = b.acked.storeAt i a (BitVec.ofNat 32 v) := by
  obtain ⟨hj, -, hn⟩ := Blk.writable_iff.1 hw
  obtain ⟨p, hp⟩ := Blk.attr_of_judge_accept hj
  have hd : b.devVerdict i a true = .accept := by simp [Blk.devVerdict, hf, hj]
  have hs : b.sendWord i a v = b.acked.storeAt i a (BitVec.ofNat 32 v) := by
    simp [Blk.sendWord, hf, Nat.not_le.2 hk, Blk.acked]
  rw [Blk.busStore, Blk.recutDev_now (by simp [hn])]
  simp [Blk.wordsStore, hp, ha, Blk.storeWord, hd, hn, hs]

/-! ## The exception of a safety core (R481) -/

/-- A safety core takes every exception in M-mode, with 32-bit CSRs and a free pc (assumption 106). -/
theorem Blk.hartOf_trap_safety {h : Nat} (hs : isSafety h = true) (b : Blk) (c v : Nat) :
    (b.trap h c v).hartOf h =
      { (b.hartOf h).trapIn 32 3 false c b.draw.1 v with ffWait := none } := by
  have ha : isApp h = false := by
    simp only [isSafety, isApp, Bool.and_eq_true, decide_eq_true_eq, decide_eq_false_iff_not] at hs ⊢
    omega
  have hm : (b.hartOf h).trapMode false c = 3 := by simp [Hart.trapMode]
  have hx : xlen h = 32 := by simp [xlen, ha]
  have hb : b.draw.2.hartOf h = b.hartOf h := rfl
  simp [Blk.trap, Blk.trapAt, hb, ha, hm, hx]

/-- The CSRs that a trap to M-mode saves. -/
theorem Hart.trapIn_csrs (x : Hart) (cause epc tval : Nat) :
    let c := (x.trapIn 32 3 false cause epc tval).c
    c.get 0x342 = cause ∧ c.get 0x343 = tval % 2 ^ 32 ∧ c.mpp = x.prv ∧ c.mpie = x.mie := by
  simp [Hart.trapIn, Hart.goTo, Csrs.get, Csrs.set]

/-- Where a trap to M-mode goes on, and what it leaves. -/
theorem Hart.trapIn_status (x : Hart) (cause epc tval : Nat) :
    let y := x.trapIn 32 3 false cause epc tval
    y.mie = false ∧ y.prv = 3 ∧ y.pc = x.c.get 0x305 / 4 * 4 ∧ y.w = x.w ∧ y.ctx = x.ctx := by
  simp [Hart.trapIn, Hart.goTo, tvecPc]

/-- Settles O12: the store ends in the exception of R481, which a safety core in Single mode takes at once. -/
theorem narrowAccessIsABusError : Obligations.NarrowAccessIsABusError := by
  intro i addr v w s hattr hv hw hr
  constructor
  · rw [exec_registerWrite i addr v s (by omega), Blk.busStore_badWidth v hattr hv hr (by omega) (by omega)]
  · rintro h rfl hs hrun hrec
    rw [s.blk.except_single hrun hrec]
    have hh : ({ s.blk.trap h 7 addr with resp := .busError } : Blk).hartOf h = (s.blk.trap h 7 addr).hartOf h := rfl
    obtain ⟨hcause, htval, hmpp, hmpie⟩ := (s.blk.hartOf h).trapIn_csrs 7 s.blk.draw.1 addr
    obtain ⟨hmie, hprv, hpc, hworld, hctx⟩ := (s.blk.hartOf h).trapIn_status 7 s.blk.draw.1 addr
    rw [hh, Blk.hartOf_trap_safety hs]
    exact ⟨rfl, rfl, hcause, htval, hmpp, hmpie, hmie, hprv, hpc, hworld, hctx⟩

/-- No rule gives a write of these registers an effect besides the types of their fields. -/
theorem Blk.storeAt_plain (b : Blk) (i : Init) (v : W32) :
    ∀ a ∈ [R.SYSCTL_SCRUB, R.ICU_MSI_TGT 5, R.SWC_SA_CFG], b.storeAt i a v = b.writeReg a v := by
  simp only [List.forall_mem_cons]
  exact ⟨rfl, rfl, rfl, by simp⟩

/-- Settles O14: the three lie in KC and have no effect of their own. -/
theorem registerWriteReachesItsTarget : Obligations.RegisterWriteReachesItsTarget := by
  intro i v s _ a ha hw
  have hplace : ∀ a ∈ [R.SYSCTL_SCRUB, R.ICU_MSI_TGT 5, R.SWC_SA_CFG],
      a % 4 = 0 ∧ isFileReg a = false ∧ a < 0x50000000 := by decide
  obtain ⟨halign, hfile, hkc⟩ := hplace a ha
  rw [exec_registerWrite i a v s (by omega), Blk.busStore_writable v hw halign hfile hkc, Blk.storeAt_plain _ _ _ a ha]

end Sys2Proof.Machine
end

section
/-!
PROOFS. What an access of a hart leaves of memory: it writes no byte but its own, and a load or a fetch writes none.

Goals are freed of their `let`s outside binders alone (`extract_lets -underBinder`), and a result that is matched on is
made a variable: the kernel then never has to run an operation to compare two matches on it.
-/

namespace Sys2Proof.Machine

/-- The memory that an operation leaves beside the block satisfies `P`. A definition of its own, so that no proof
compares the blocks of two results. -/
def Leaves (P : List Host.Cell → Prop) (r : Blk × List Host.Cell) : Prop := P r.2

theorem leaves_mk {P : List Host.Cell → Prop} {b : Blk} {m : List Host.Cell} (h : P m) : Leaves P (b, m) := h

/-! ## What holds of memory before an access and after a write of its bytes holds at its end -/

section
variable {b : Blk} {m : List Host.Cell} {P : List Host.Cell → Prop} {x : MemAcc}

theorem Blk.leaves_memStore {a n v : Nat} (h : P (memWrite m a (leBytes n v))) (own : Option Nat) :
    Leaves P (b.memStore m a n v own) := leaves_mk h

variable (hm : P m) (hw : accWrites x.kind = true → ∀ v, P (memWrite m x.addr (leBytes x.size v)))
include hm hw

theorem Blk.leaves_perform : Leaves P (b.perform m x) := by
  unfold Blk.perform
  extract_lets
  split
  · exact leaves_mk hm
  split
  · exact leaves_mk hm
  split
  · next hk => exact leaves_mk (Blk.leaves_memStore (hw (by rw [hk]; rfl) _) _)
  · next hk => exact leaves_mk (Blk.leaves_memStore (hw (by rw [hk]; rfl) _) _)
  · next hk =>
    have hw := hw (by rw [hk]; rfl)
    split
    · exact leaves_mk hm
    split
    · split
      · exact leaves_mk (Blk.leaves_memStore (hw _) _)
      · exact leaves_mk hm
    · exact leaves_mk (Blk.leaves_memStore (hw _) _)
  · exact leaves_mk hm

theorem Blk.leaves_endAcc (j : Judged) : Leaves P (b.endAcc m x j) := by
  cases j with
  | accept => exact Blk.leaves_perform hm hw
  | busError | refuse | byEntry => exact leaves_mk hm

theorem Blk.leaves_memAccess : Leaves P (b.memAccess m x) := by
  unfold Blk.memAccess
  split
  · exact leaves_mk hm
  split
  · exact leaves_mk hm
  split
  · exact leaves_mk hm
  split
  · exact leaves_mk hm
  split
  · extract_lets
    split
    · exact Blk.leaves_endAcc hm hw _
    · exact leaves_mk hm
  · exact Blk.leaves_endAcc hm hw _

theorem Blk.leaves_recutPerform (h : Nat) : Leaves P (b.recutPerform m h x) := by
  unfold Blk.recutPerform
  split
  · exact leaves_mk hm
  · exact leaves_mk hm
  · exact leaves_mk hm
  · exact leaves_mk (Blk.leaves_perform hm hw)
  · extract_lets
    split
    · exact leaves_mk (Blk.leaves_perform hm hw)
    · exact leaves_mk (Blk.leaves_perform hm hw)

theorem Blk.leaves_recutAccess (h : Nat) : Leaves P (b.recutAccess m h x) := by
  unfold Blk.recutAccess
  split
  · exact leaves_mk hm
  split
  · exact leaves_mk hm
  split
  · exact leaves_mk hm
  split
  · exact Blk.leaves_recutPerform hm hw h
  · exact leaves_mk (Blk.leaves_endAcc hm hw _)

/-- An access writes no byte but its own. -/
theorem Blk.leaves_access : Leaves P (b.access m x) := by
  unfold Blk.access
  split
  · exact leaves_mk hm
  split
  · exact leaves_mk hm
  split
  · extract_lets
    split
    · exact Blk.leaves_recutAccess hm hw _
    · exact leaves_mk hm
  · exact leaves_mk (Blk.leaves_memAccess hm hw)

end

/-- A load or a fetch leaves memory as it is. -/
theorem Blk.access_mem_of_not_accWrites {x : MemAcc} (hx : accWrites x.kind = false) (b : Blk) (m : List Host.Cell) :
    (b.access m x).2 = m :=
  Blk.leaves_access (P := (· = m)) rfl (by simp [hx])

end Sys2Proof.Machine
end

section
/-!
PROOFS. Memory stays in its canonical form (assumption 5), unit by unit: every operation that reaches memory writes bytes
of it or drops bytes from it, and both keep the form. A result with an answer beside the block is matched on by its
callers; `AnswersWf.wf_of_eq` says what they find.
-/

namespace Sys2Proof.Machine

/-- The memory that an operation leaves is canonical. -/
abbrev KeepsWf : Blk × List Host.Cell → Prop := Leaves Memory.wf

/-- So is that of an operation that gives an answer too. -/
def AnswersWf {α : Type} (r : α × Blk × List Host.Cell) : Prop := Memory.wf r.2.2

theorem answersWf_mk {α : Type} {a : α} {b : Blk} {m : List Host.Cell} (h : Memory.wf m) : AnswersWf (a, b, m) := h

/-- What a match on an answer finds as its memory. -/
theorem AnswersWf.wf_of_eq {α : Type} {r : α × Blk × List Host.Cell} {a : α} {b : Blk} {m : List Host.Cell}
    (h : AnswersWf r) (e : r = (a, b, m)) : Memory.wf m := by
  subst e
  exact h

section
variable {b : Blk} {m : List Host.Cell}

/-! ## Accesses of harts -/

theorem Blk.keepsWf_memStore (hm : Memory.wf m) (a n v : Nat) (own : Option Nat) : KeepsWf (b.memStore m a n v own) :=
  leaves_mk (Memory.wf_write hm _ _)

theorem Blk.keepsWf_devStore (hm : Memory.wf m) (a : Nat) (l : List Byte) : KeepsWf (b.devStore m a l) :=
  leaves_mk (Memory.wf_write hm _ _)

theorem Blk.keepsWf_perform (hm : Memory.wf m) (x : MemAcc) : KeepsWf (b.perform m x) :=
  Blk.leaves_perform hm fun _ _ => Memory.wf_write hm _ _

theorem Blk.keepsWf_access (hm : Memory.wf m) (x : MemAcc) : KeepsWf (b.access m x) :=
  Blk.leaves_access hm fun _ _ => Memory.wf_write hm _ _

theorem Blk.keepsWf_potArrive (hm : Memory.wf m) : KeepsWf (b.potArrive m) := by
  unfold Blk.potArrive
  split
  · exact leaves_mk hm
  extract_lets
  split
  · exact leaves_mk hm
  · exact leaves_mk (Blk.leaves_endAcc hm (fun _ _ => Memory.wf_write hm _ _) _)

theorem Blk.keepsWf_drainStall (hm : Memory.wf m) : KeepsWf (b.drainStall m) := by
  unfold Blk.drainStall
  split
  · exact leaves_mk hm
  extract_lets
  split
  · exact Blk.keepsWf_perform hm _
  · exact leaves_mk hm

/-! ## Bursts of devices -/

theorem Blk.answersWf_dirtyMark (hm : Memory.wf m) (x : Dma) (pa : Nat) : AnswersWf (b.dirtyMark m x pa) := by
  unfold Blk.dirtyMark
  extract_lets -underBinder
  split
  · split
    · split
      · exact answersWf_mk (Blk.keepsWf_memStore hm ..)
      · exact answersWf_mk hm
    · exact answersWf_mk hm
  · exact answersWf_mk hm

theorem Blk.answersWf_atTarget (hm : Memory.wf m) (x : Dma) (pa : Nat) : AnswersWf (b.atTarget m x pa) := by
  have hd := b.answersWf_dirtyMark hm x pa
  unfold Blk.atTarget
  extract_lets
  split
  · split
    · split
      · exact answersWf_mk (Blk.keepsWf_devStore hd ..)
      · split
        · exact answersWf_mk hd
        · exact answersWf_mk hd
    · exact answersWf_mk hd
  · exact answersWf_mk hd

theorem Blk.answersWf_toTarget (hm : Memory.wf m) (x : Dma) (pa : Nat) : AnswersWf (b.toTarget m x pa) := by
  unfold Blk.toTarget
  split
  · extract_lets
    split
    · exact answersWf_mk hm
    · exact answersWf_mk hm
  · exact Blk.answersWf_atTarget hm ..

/-- A burst whose translation is known ends in a fault or at its target. -/
theorem Blk.answersWf_burst (hm : Memory.wf m) (x : Dma) : AnswersWf (b.burst m x) := by
  unfold Blk.burst
  extract_lets vpn go
  have hgo (b : Blk) (e : TlbEntry) : AnswersWf (go b e) := by
    simp only [go]
    split
    · exact Blk.answersWf_toTarget hm ..
    · exact answersWf_mk hm
  clear_value go vpn
  split
  · exact answersWf_mk hm
  split
  · exact answersWf_mk hm
  split
  · exact answersWf_mk hm
  split
  · exact answersWf_mk hm
  cases b.tlbHit x.ctx vpn with
  | some e => exact hgo ..
  | none =>
    rcases b.walkLevel m x.ctx vpn x.write 2 (b.rootOf x.ctx) with ⟨e | r, b1⟩
    · exact hgo ..
    · exact answersWf_mk hm

theorem Blk.answersWf_dmaRead (hm : Memory.wf m) (src u va n fuel : Nat) :
    AnswersWf (b.dmaRead m src u va n fuel) := by
  induction fuel generalizing b m va n with
  | zero => exact answersWf_mk hm
  | succ fuel ih =>
    rw [Blk.dmaRead]
    split
    · exact answersWf_mk hm
    extract_lets
    split
    · next hb =>
      have h1 := (Blk.answersWf_burst hm _).wf_of_eq hb
      split
      · next h => exact answersWf_mk ((ih h1 ..).wf_of_eq h)
      · exact ih h1 ..
    · exact Blk.answersWf_burst hm _

theorem Blk.answersWf_dmaWrite (hm : Memory.wf m) (src u va : Nat) (l : List Byte) (fuel : Nat) :
    AnswersWf (b.dmaWrite m src u va l fuel) := by
  induction fuel generalizing b m va l with
  | zero => exact answersWf_mk hm
  | succ fuel ih =>
    rw [Blk.dmaWrite]
    split
    · exact answersWf_mk hm
    extract_lets
    split
    · next hb => exact ih ((Blk.answersWf_burst hm _).wf_of_eq hb) ..
    · exact Blk.answersWf_burst hm _

theorem Blk.answersWf_rd (hm : Memory.wf m) (src u va n : Nat) : AnswersWf (b.rd m src u va n) :=
  Blk.answersWf_dmaRead hm ..

theorem Blk.answersWf_wr (hm : Memory.wf m) (src u va : Nat) (l : List Byte) : AnswersWf (b.wr m src u va l) :=
  Blk.answersWf_dmaWrite hm ..

/-! ## Bursts one by one -/

theorem Blk.keepsWf_flyTo (hm : Memory.wf m) (x : Dma) (pa : Nat) : KeepsWf (b.flyTo m x pa) := by
  have h := b.answersWf_atTarget hm x pa
  unfold Blk.flyTo
  extract_lets r
  change AnswersWf r at h
  clear_value r
  split
  · exact leaves_mk h
  · exact leaves_mk h

theorem Blk.keepsWf_launch (hm : Memory.wf m) (x : Dma) (e : TlbEntry) : KeepsWf (b.launch m x e) := by
  unfold Blk.launch
  split
  · exact leaves_mk hm
  extract_lets
  split
  · exact leaves_mk hm
  · exact Blk.keepsWf_flyTo hm ..

theorem Blk.keepsWf_drainDma (hm : Memory.wf m) : KeepsWf (b.drainDma m) := by
  unfold Blk.drainDma
  split
  · exact leaves_mk hm
  split
  · exact Blk.keepsWf_flyTo hm ..
  · exact leaves_mk hm

theorem Blk.keepsWf_dmaArrive (hm : Memory.wf m) (x : Dma) : KeepsWf (b.dmaArrive m x) := by
  unfold Blk.dmaArrive
  split
  · exact leaves_mk hm
  split
  · exact leaves_mk hm
  split
  · exact leaves_mk hm
  split
  · exact leaves_mk hm
  split
  · exact Blk.keepsWf_launch hm ..
  · exact leaves_mk hm

theorem Blk.keepsWf_walkEnd (hm : Memory.wf m) : KeepsWf (b.walkEnd m) := by
  unfold Blk.walkEnd
  split
  · exact leaves_mk hm
  split
  · exact leaves_mk hm
  extract_lets
  split
  · exact leaves_mk hm
  split
  · exact Blk.keepsWf_launch hm ..
  · exact leaves_mk hm

theorem keepsWf_foldl {α : Type} {f : Blk × List Host.Cell → α → Blk × List Host.Cell}
    (hf : ∀ r x, KeepsWf r → KeepsWf (f r x)) (l : List α) {r : Blk × List Host.Cell} (hr : KeepsWf r) :
    KeepsWf (l.foldl f r) := by
  induction l generalizing r with
  | nil => exact hr
  | cons x l ih => exact ih (hf r x hr)

theorem Blk.keepsWf_unhold (hm : Memory.wf m) (c : Nat) : KeepsWf (b.unhold m c) :=
  keepsWf_foldl (fun _ x h => Blk.keepsWf_dmaArrive h x) _ (leaves_mk hm)

theorem Blk.keepsWf_ctxOp (hm : Memory.wf m) (c op : Nat) : KeepsWf (b.ctxOp m c op) := by
  unfold Blk.ctxOp
  split
  · exact leaves_mk hm
  · split
    · exact Blk.keepsWf_unhold hm c
    · exact leaves_mk hm
  · split
    · exact leaves_mk hm
    · exact leaves_mk hm
  · split
    · exact leaves_mk hm
    · exact leaves_mk hm

theorem Blk.keepsWf_ctxDone (hm : Memory.wf m) (c : Nat) : KeepsWf (b.ctxDone m c) := by
  unfold Blk.ctxDone
  split
  · exact leaves_mk hm
  · exact Blk.keepsWf_ctxOp hm ..

/-! ## Check-value jobs -/

theorem Blk.answersWf_cvuRecord (hm : Memory.wf m) (r : Nat) (d : CvuDesc) (c : Crc) (i : Nat) (a : CvuAcc) :
    AnswersWf (b.cvuRecord m r d c i a).2 := by
  unfold Blk.cvuRecord
  extract_lets -underBinder
  split
  · next h =>
    have h1 := (Blk.answersWf_rd hm ..).wf_of_eq h
    extract_lets -underBinder
    split
    · split
      next h => exact answersWf_mk ((Blk.answersWf_wr h1 ..).wf_of_eq h)
    split
    · split
      next h => exact answersWf_mk ((Blk.answersWf_wr h1 ..).wf_of_eq h)
    split
    · split
      · split
        next h => exact answersWf_mk ((Blk.answersWf_wr h1 ..).wf_of_eq h)
      · exact answersWf_mk h1
    · exact answersWf_mk h1
  · next h => exact answersWf_mk ((Blk.answersWf_rd hm ..).wf_of_eq h)

theorem Blk.answersWf_cvuRecords (hm : Memory.wf m) (r : Nat) (d : CvuDesc) (c : Crc) (n i : Nat) (a : CvuAcc) :
    AnswersWf (b.cvuRecords m r d c n i a).2 := by
  induction n generalizing b m i a with
  | zero => exact answersWf_mk hm
  | succ n ih =>
    rw [Blk.cvuRecords]
    have h1 := b.answersWf_cvuRecord hm r d c i a
    split
    · next h => exact ih (h1.wf_of_eq (congrArg Prod.snd h)) ..
    · exact h1

theorem Blk.keepsWf_cvuEnd (hm : Memory.wf m) (r : Nat) (l : List Byte) (d : CvuDesc) (a : CvuAcc) (status : Nat) :
    KeepsWf (b.cvuEnd m r l d a status) := by
  unfold Blk.cvuEnd
  extract_lets -underBinder f
  split
  · next h =>
    have h1 := (Blk.answersWf_wr hm ..).wf_of_eq h
    extract_lets -underBinder
    split
    · exact leaves_mk h1
    · exact leaves_mk h1
  · next h => exact leaves_mk ((Blk.answersWf_wr hm ..).wf_of_eq h)
  · next h => exact leaves_mk ((Blk.answersWf_wr hm ..).wf_of_eq h)

theorem Blk.keepsWf_cvuRun (hm : Memory.wf m) (k : Nat) (p : Nat → Bool → Bool) : KeepsWf (b.cvuRun m k p) := by
  unfold Blk.cvuRun
  split
  · exact leaves_mk hm
  split
  · exact leaves_mk hm
  split
  · next h => exact leaves_mk ((Blk.answersWf_rd hm ..).wf_of_eq h)
  · next h => exact leaves_mk ((Blk.answersWf_rd hm ..).wf_of_eq h)
  · next h =>
    have h1 := (Blk.answersWf_rd hm ..).wf_of_eq h
    extract_lets -underBinder
    split
    · exact leaves_mk h1
    split
    · exact leaves_mk hm
    split
    · exact Blk.keepsWf_cvuEnd h1 ..
    split
    · next h => exact Blk.keepsWf_cvuEnd ((Blk.answersWf_cvuRecords h1 ..).wf_of_eq (congrArg Prod.snd h)) ..
    · next h => exact Blk.keepsWf_cvuEnd ((Blk.answersWf_cvuRecords h1 ..).wf_of_eq (congrArg Prod.snd h)) ..
    · next h => exact leaves_mk ((Blk.answersWf_cvuRecords h1 ..).wf_of_eq (congrArg Prod.snd h))

/-! ## The key vault -/

theorem Blk.keepsWf_kvWrites (hm : Memory.wf m) (l : List (Nat × List Byte)) : KeepsWf (b.kvWrites m l) :=
  keepsWf_foldl (fun _ _ h => leaves_mk (Memory.wf_write h _ _)) l (leaves_mk hm)

theorem Blk.keepsWf_storePart (hm : Memory.wf m) (sk : List Byte) (un : Bool) (n attr owner : Nat) (key : List Byte)
    (w : Nat) : KeepsWf (b.storePart m sk un n attr owner key w) := by
  unfold Blk.storePart
  split
  · exact leaves_mk hm
  · exact Blk.keepsWf_kvWrites hm _

theorem Blk.keepsWf_mend (hm : Memory.wf m) : KeepsWf (b.mend m) := by
  unfold Blk.mend
  split
  · exact leaves_mk hm
  · exact leaves_mk (Blk.keepsWf_storePart hm ..)

theorem Blk.answersWf_store (hm : Memory.wf m) (n : Nat) : AnswersWf (b.store m n) := by
  unfold Blk.store
  split
  · exact answersWf_mk hm
  split
  · exact answersWf_mk hm
  extract_lets -underBinder
  split
  · exact answersWf_mk hm
  · exact answersWf_mk (Blk.keepsWf_kvWrites hm _)

theorem Blk.answersWf_unstore (hm : Memory.wf m) (n : Nat) : AnswersWf (b.unstore m n) := by
  unfold Blk.unstore
  split
  · exact answersWf_mk hm
  extract_lets -underBinder
  split
  · exact answersWf_mk hm
  · exact answersWf_mk (Blk.keepsWf_kvWrites hm _)

/-- Only STORE and UNSTORE write memory. -/
theorem Blk.answersWf_kvDo (hm : Memory.wf m) (op n : Nat) (srcDs : Bool) (src arg : Nat) :
    AnswersWf (b.kvDo m op n srcDs src arg) := by
  unfold Blk.kvDo
  extract_lets -underBinder keep
  have hk (r : Nat × Blk) : AnswersWf (keep r) := answersWf_mk hm
  clear_value keep
  split
  · exact answersWf_mk hm
  split
  case h_4 => exact Blk.answersWf_store hm n
  case h_5 => exact Blk.answersWf_unstore hm n
  case h_3 | h_11 => exact hk _
  case h_1 | h_9 | h_10 | h_12 => exact answersWf_mk hm
  case h_2 =>
    extract_lets -underBinder
    split
    · exact answersWf_mk hm
    · exact answersWf_mk hm
  case h_8 =>
    split
    · exact answersWf_mk hm
    · exact answersWf_mk hm
  case h_6 =>
    split
    · exact answersWf_mk hm
    · exact hk _
  case h_7 =>
    split
    · exact answersWf_mk hm
    split
    · exact answersWf_mk hm
    · exact hk _

theorem Blk.keepsWf_kvComplete (hm : Memory.wf m) : KeepsWf (b.kvComplete m) := by
  unfold Blk.kvComplete
  split
  · exact leaves_mk hm
  · exact leaves_mk (Blk.answersWf_kvDo hm ..)

/-! ## Cryptographic jobs and the tamper alarm -/

theorem Blk.keepsWf_cryEnd (hm : Memory.wf m) (q : Nat) (l : List Byte) (irq : Bool) (status : Nat)
    (tag : Option (List Byte)) : KeepsWf (b.cryEnd m q l irq status tag) := by
  unfold Blk.cryEnd
  extract_lets -underBinder
  split
  · next h =>
    have h1 := (Blk.answersWf_wr hm ..).wf_of_eq h
    extract_lets -underBinder
    split
    · exact leaves_mk h1
    · exact leaves_mk h1
  · next h => exact leaves_mk ((Blk.answersWf_wr hm ..).wf_of_eq h)
  · next h => exact leaves_mk ((Blk.answersWf_wr hm ..).wf_of_eq h)

theorem Blk.keepsWf_job (hm : Memory.wf m) (q : Nat) (l : List Byte) (d : CryDesc) : KeepsWf (b.job m q l d) := by
  unfold Blk.job
  split
  · next h => exact leaves_mk ((Blk.answersWf_rd hm ..).wf_of_eq h)
  · next h => exact Blk.keepsWf_cryEnd ((Blk.answersWf_rd hm ..).wf_of_eq h) ..
  next h =>
  have h1 := (Blk.answersWf_rd hm ..).wf_of_eq h
  split
  · next h => exact leaves_mk ((Blk.answersWf_rd h1 ..).wf_of_eq h)
  · next h => exact Blk.keepsWf_cryEnd ((Blk.answersWf_rd h1 ..).wf_of_eq h) ..
  next h =>
  have h2 := (Blk.answersWf_rd h1 ..).wf_of_eq h
  split
  · split
    · next h => exact leaves_mk ((Blk.answersWf_wr h2 ..).wf_of_eq h)
    · next h => exact Blk.keepsWf_cryEnd ((Blk.answersWf_wr h2 ..).wf_of_eq h) ..
    · next h => exact Blk.keepsWf_cryEnd (Blk.answersWf_wr ((Blk.answersWf_wr h2 ..).wf_of_eq h) ..) ..
  · split
    · next h => exact leaves_mk ((Blk.answersWf_wr h2 ..).wf_of_eq h)
    · next h => exact Blk.keepsWf_cryEnd ((Blk.answersWf_wr h2 ..).wf_of_eq h) ..
    · next h => exact Blk.keepsWf_cryEnd ((Blk.answersWf_wr h2 ..).wf_of_eq h) ..

theorem Blk.keepsWf_cryRun (hm : Memory.wf m) (k : Nat) (p : Nat → Bool → Bool) : KeepsWf (b.cryRun m k p) := by
  unfold Blk.cryRun
  split
  · exact leaves_mk hm
  split
  · exact leaves_mk hm
  split
  · next h => exact leaves_mk ((Blk.answersWf_rd hm ..).wf_of_eq h)
  · next h => exact leaves_mk ((Blk.answersWf_rd hm ..).wf_of_eq h)
  next h =>
  have h1 := (Blk.answersWf_rd hm ..).wf_of_eq h
  extract_lets -underBinder
  split
  · exact leaves_mk h1
  split
  · exact leaves_mk hm
  split
  · exact Blk.keepsWf_cryEnd h1 ..
  split
  · exact Blk.keepsWf_cryEnd h1 ..
  split
  · exact leaves_mk h1
  · exact Blk.keepsWf_job h1 ..

theorem Blk.keepsWf_cryAbort (hm : Memory.wf m) (q : Nat) : KeepsWf (b.cryAbort m q) := by
  unfold Blk.cryAbort
  split
  · split
    · next h => exact Blk.keepsWf_cryEnd ((Blk.answersWf_rd hm ..).wf_of_eq h) ..
    · next h => exact leaves_mk ((Blk.answersWf_rd hm ..).wf_of_eq h)
  · exact leaves_mk hm

theorem Blk.keepsWf_zeroPath (hm : Memory.wf m) (stuck : Bool) : KeepsWf (b.zeroPath m stuck) := by
  unfold Blk.zeroPath
  extract_lets -underBinder b0 r b1
  have hr : KeepsWf r := keepsWf_foldl (fun _ q h => Blk.keepsWf_cryAbort h q) _ (leaves_mk hm)
  clear_value r
  split
  · exact leaves_mk hr
  · exact leaves_mk hm

theorem Blk.keepsWf_tearNow (hm : Memory.wf m) : KeepsWf (b.tearNow m) := by
  unfold Blk.tearNow
  split
  · exact Blk.keepsWf_storePart hm ..
  · exact leaves_mk hm

theorem Blk.keepsWf_tamperAlarm (hm : Memory.wf m) (c live : Nat) (stuck : Bool) :
    KeepsWf (b.tamperAlarm m c live stuck) := by
  unfold Blk.tamperAlarm
  extract_lets -underBinder
  split
  · exact leaves_mk hm
  split
  · exact leaves_mk hm
  split
  · exact leaves_mk hm
  split
  · exact Blk.keepsWf_zeroPath (Blk.keepsWf_tearNow hm) _
  split
  · exact leaves_mk (Blk.keepsWf_zeroPath hm _)
  · exact Blk.keepsWf_zeroPath hm _

/-! ## CAN frames -/

theorem Blk.keepsWf_canLog (hm : Memory.wf m) (n q : Nat) (f : CanFrame) : KeepsWf (b.canLog m n q f) := by
  unfold Blk.canLog
  extract_lets -underBinder
  split
  · exact leaves_mk hm
  split
  · exact leaves_mk hm
  split
  · next h => exact leaves_mk ((Blk.answersWf_wr hm ..).wf_of_eq h)
  · next h => exact leaves_mk ((Blk.answersWf_wr hm ..).wf_of_eq h)
  · next h => exact leaves_mk ((Blk.answersWf_wr hm ..).wf_of_eq h)

theorem Blk.keepsWf_canStore (hm : Memory.wf m) (n : Nat) (f : CanFrame) : KeepsWf (b.canStore m n f) := by
  unfold Blk.canStore
  split
  · exact Blk.keepsWf_canLog hm ..
  · exact leaves_mk hm

theorem Blk.keepsWf_canReceive (hm : Memory.wf m) (n : Nat) (f : CanFrame) : KeepsWf (b.canReceive m n f) := by
  unfold Blk.canReceive
  split
  · exact leaves_mk hm
  split
  · exact leaves_mk hm
  split
  · exact leaves_mk (Blk.keepsWf_canStore hm ..)
  · exact leaves_mk hm

theorem Blk.keepsWf_canSent (hm : Memory.wf m) (n ns : Nat) : KeepsWf (b.canSent m n ns) := by
  unfold Blk.canSent
  extract_lets -underBinder
  split
  · exact leaves_mk hm
  split
  · exact leaves_mk hm
  next q _ =>
  extract_lets -underBinder f b0 b1 b2 b3 ts a b4 loop r
  have hr : KeepsWf r := by
    simp only [r]
    cases f with
    | some f =>
      dsimp only
      split
      · exact Blk.keepsWf_canStore hm ..
      · exact leaves_mk hm
    | none => exact leaves_mk hm
  exact leaves_mk hr

/-! ## Host queue pairs -/

theorem Blk.keepsWf_txBack (hm : Memory.wf m) (q k st n : Nat) : KeepsWf (b.txBack m q k st n) := by
  induction n generalizing b m k with
  | zero => exact leaves_mk hm
  | succ n ih =>
    rw [Blk.txBack]
    split
    · next h =>
      have h1 := (Blk.answersWf_rd hm ..).wf_of_eq h
      split
      · next h => exact ih ((Blk.answersWf_wr h1 ..).wf_of_eq h) _
      · next h => exact leaves_mk ((Blk.answersWf_wr h1 ..).wf_of_eq h)
      · next h => exact leaves_mk ((Blk.answersWf_wr h1 ..).wf_of_eq h)
    · next h => exact leaves_mk ((Blk.answersWf_rd hm ..).wf_of_eq h)
    · next h => exact leaves_mk ((Blk.answersWf_rd hm ..).wf_of_eq h)

theorem keepsWf_hostBack (l : List (Nat × Nat × Nat)) {r : Blk × List Host.Cell} (hr : KeepsWf r) :
    KeepsWf (hostBack l r) := by
  induction l generalizing r with
  | nil => exact hr
  | cons e l ih =>
    obtain ⟨q, k, n⟩ := e
    exact ih (leaves_mk (Blk.keepsWf_txBack hr ..))

theorem Blk.keepsWf_hostBack {r : Blk × List Host.Cell} (hr : KeepsWf r) : KeepsWf (Blk.hostBack r) :=
  Machine.keepsWf_hostBack _ (leaves_mk hr)

theorem Blk.answersWf_txFetch (hm : Memory.wf m) (q k n : Nat) : AnswersWf (b.txFetch m q k n) := by
  induction n generalizing b m k with
  | zero => exact answersWf_mk hm
  | succ n ih =>
    rw [Blk.txFetch]
    split
    · exact answersWf_mk hm
    split
    · next h =>
      have h1 := (Blk.answersWf_rd hm ..).wf_of_eq h
      extract_lets -underBinder
      split
      · exact answersWf_mk h1
      split
      · exact answersWf_mk h1
      split
      · next h => exact answersWf_mk ((ih h1 _).wf_of_eq h)
      · exact ih h1 _
    · next h => exact answersWf_mk ((Blk.answersWf_rd hm ..).wf_of_eq h)
    · next h => exact answersWf_mk ((Blk.answersWf_rd hm ..).wf_of_eq h)

theorem Blk.answersWf_txGather (hm : Memory.wf m) (q : Nat) (l : List Desc) : AnswersWf (b.txGather m q l) := by
  induction l generalizing b m with
  | nil => exact answersWf_mk hm
  | cons d l ih =>
    rw [Blk.txGather]
    split
    · next h =>
      have h1 := (Blk.answersWf_rd hm ..).wf_of_eq h
      split
      · next h => exact answersWf_mk ((ih h1).wf_of_eq h)
      · exact ih h1
    · exact Blk.answersWf_rd hm ..

theorem Blk.keepsWf_txFrame (hm : Memory.wf m) (q : Nat) : KeepsWf (b.txFrame m q) := by
  unfold Blk.txFrame
  extract_lets -underBinder
  split
  · next h => exact leaves_mk (Blk.keepsWf_txBack ((Blk.answersWf_txFetch hm ..).wf_of_eq h) ..)
  · next h => exact leaves_mk ((Blk.answersWf_txFetch hm ..).wf_of_eq h)
  next b1 m1 h =>
  have h1 := (Blk.answersWf_txFetch hm ..).wf_of_eq h
  extract_lets -underBinder n skip fail len first lt at' ahead
  have hfail (st : Nat) : KeepsWf (fail b1 m1 st) := leaves_mk (Blk.keepsWf_txBack h1 ..)
  clear_value fail
  split
  · exact hfail 1
  split
  · exact hfail 3
  split
  · next h => exact leaves_mk (Blk.keepsWf_txBack ((Blk.answersWf_txGather h1 ..).wf_of_eq h) ..)
  · next h => exact leaves_mk ((Blk.answersWf_txGather h1 ..).wf_of_eq h)
  · next h =>
    have h2 := (Blk.answersWf_txGather h1 ..).wf_of_eq h
    extract_lets -underBinder
    split
    · exact leaves_mk h2
    · exact leaves_mk h2

theorem Blk.keepsWf_hostTx (hm : Memory.wf m) (hp : Nat) : KeepsWf (b.hostTx m hp) := by
  unfold Blk.hostTx
  split
  · exact leaves_mk hm
  split
  · exact Blk.keepsWf_hostBack (leaves_mk hm)
  · exact Blk.keepsWf_hostBack (Blk.keepsWf_txFrame hm _)

theorem Blk.answersWf_rxFetch (hm : Memory.wf m) (q k n fuel : Nat) : AnswersWf (b.rxFetch m q k n fuel) := by
  induction fuel generalizing b m k n with
  | zero => exact answersWf_mk hm
  | succ fuel ih =>
    rw [Blk.rxFetch]
    split
    · exact answersWf_mk hm
    split
    · next h =>
      have h1 := (Blk.answersWf_rd hm ..).wf_of_eq h
      extract_lets -underBinder
      split
      · exact answersWf_mk h1
      split
      · exact answersWf_mk h1
      split
      · next h => exact answersWf_mk ((ih h1 ..).wf_of_eq h)
      · next h => exact answersWf_mk ((ih h1 ..).wf_of_eq h)
      · exact ih h1 ..
    · next h => exact answersWf_mk ((Blk.answersWf_rd hm ..).wf_of_eq h)
    · next h => exact answersWf_mk ((Blk.answersWf_rd hm ..).wf_of_eq h)

theorem Blk.answersWf_rxFill (hm : Memory.wf m) (q : Nat) (ds : List Desc) (l : List Byte) :
    AnswersWf (b.rxFill m q ds l) := by
  induction ds generalizing b m l with
  | nil => exact answersWf_mk hm
  | cons d ds ih =>
    rw [Blk.rxFill]
    split
    · next h => exact ih ((Blk.answersWf_wr hm ..).wf_of_eq h) _
    · exact Blk.answersWf_wr hm ..

theorem Blk.answersWf_rxBack (hm : Memory.wf m) (q k ts left st : Nat) (ds : List Desc) :
    AnswersWf (b.rxBack m q k ts left st ds) := by
  induction ds generalizing b m k left with
  | nil => exact answersWf_mk hm
  | cons d ds ih =>
    rw [Blk.rxBack]
    split
    · next h => exact ih ((Blk.answersWf_wr hm ..).wf_of_eq h) ..
    · exact Blk.answersWf_wr hm ..

theorem Blk.keepsWf_hostRx (hm : Memory.wf m) (hp : Nat) : KeepsWf (b.hostRx m hp) := by
  unfold Blk.hostRx
  split
  · exact leaves_mk hm
  extract_lets -underBinder
  split
  · exact leaves_mk hm
  split
  · next h => exact leaves_mk ((Blk.answersWf_rxFetch hm ..).wf_of_eq h)
  · next h => exact leaves_mk (Blk.answersWf_rxBack ((Blk.answersWf_rxFetch hm ..).wf_of_eq h) ..)
  · next h => exact leaves_mk ((Blk.answersWf_rxFetch hm ..).wf_of_eq h)
  next h =>
  have h1 := (Blk.answersWf_rxFetch hm ..).wf_of_eq h
  extract_lets -underBinder fin
  have hfin : AnswersWf fin := by
    simp only [fin]
    split
    · next h => exact Blk.answersWf_rxBack ((Blk.answersWf_rxFill h1 ..).wf_of_eq h) ..
    · next h => exact answersWf_mk (Blk.answersWf_rxBack ((Blk.answersWf_rxFill h1 ..).wf_of_eq h) ..)
    · exact Blk.answersWf_rxFill h1 ..
  clear_value fin
  split
  · exact leaves_mk hfin
  · exact leaves_mk hfin
  · exact leaves_mk hfin

/-! ## Commits of cores in Recut mode -/

theorem Blk.keepsWf_leave (hm : Memory.wf m) (h : Nat) (w : Held) : KeepsWf (b.leave m h w) := by
  unfold Blk.leave
  extract_lets -underBinder i c late
  clear_value late
  split
  · split
    · exact leaves_mk hm
    · exact leaves_mk hm
    · exact leaves_mk hm
  split
  · exact leaves_mk hm
  split
  · exact Blk.keepsWf_perform hm _
  · exact leaves_mk hm
  · exact leaves_mk hm

theorem keepsWf_leaveAll (h : Nat) (l : List Held) {r : Blk × List Host.Cell} (hr : KeepsWf r) :
    KeepsWf (leaveAll h l r) := by
  induction l generalizing r with
  | nil => exact hr
  | cons w l ih =>
    obtain ⟨b, m⟩ := r
    rw [leaveAll]
    split
    · exact leaves_mk hr
    · exact ih (leaves_mk (Blk.keepsWf_leave hr ..))

theorem Blk.keepsWf_commitAtomic (hm : Memory.wf m) (h a n v op : Nat) : KeepsWf (b.commitAtomic m h a n v op) := by
  unfold Blk.commitAtomic
  extract_lets -underBinder r
  have hr : KeepsWf r := by
    simp only [r]
    split
    · exact leaves_mk hm
    split
    · exact leaves_mk hm
    · exact Blk.keepsWf_perform hm _
  clear_value r
  split
  · exact leaves_mk hr
  · exact leaves_mk hr

/-- Only an atomic of the slice's end writes memory besides the held writes. -/
theorem Blk.keepsWf_commitAct (hm : Memory.wf m) (h : Nat) : KeepsWf (b.commitAct m h) := by
  unfold Blk.commitAct
  extract_lets -underBinder x
  split
  case h_8 => exact Blk.keepsWf_commitAtomic hm ..
  all_goals exact leaves_mk hm

theorem Blk.keepsWf_commit (hm : Memory.wf m) (h : Nat) : KeepsWf (b.commit m h) := by
  unfold Blk.commit
  split
  · have hr := keepsWf_leaveAll h (b.hartOf h).held (leaves_mk (b := b) hm)
    extract_lets -underBinder
    split
    · exact leaves_mk hr
    split
    · exact Blk.keepsWf_commitAct hr h
    · exact leaves_mk (Blk.keepsWf_commitAct hr h)
  · exact leaves_mk hm

/-! ## A start of KC -/

theorem Blk.keepsWf_loadImage (hm : Memory.wf m) (a : Nat) (l : List Byte) : KeepsWf (b.loadImage m a l) := by
  induction l generalizing b m a with
  | nil => exact leaves_mk hm
  | cons x l ih =>
    rw [Blk.loadImage]
    split
    · exact ih (Memory.wf_set hm a x) _
    · exact ih (Memory.wf_set hm a x) _
    · exact ih (Memory.wf_set hm a x) _
    · exact ih hm _

theorem keepsWf_loadEarly (l : List (List Byte)) {r : Blk × List Host.Cell} (hr : KeepsWf r) :
    KeepsWf (loadEarly l r) :=
  keepsWf_foldl (fun _ _ h => Blk.keepsWf_loadImage h ..) l hr

theorem Blk.wf_apply7 (hm : Memory.wf m) (p : Plan) (kind : Nat) (step rec : Bool) (w : Nat) :
    Memory.wf (b.apply7 m p kind step rec w) := by
  unfold Blk.apply7
  extract_lets -underBinder
  split
  · exact hm
  · exact Memory.wf_write hm _ _

/-- The memory with which an application of a plan ends. -/
def Applied.KeepsWf : Applied → Prop
  | .done _ m _ | .stop _ m => Memory.wf m
  | .fail _ _ => True

theorem Blk.keepsWf_applyEnd (hm : Memory.wf m) (p : Plan) (k : Nat) (step rec recov : Bool) (x : Mishap) :
    (b.applyEnd m p k step rec recov x).KeepsWf := by
  unfold Blk.applyEnd
  extract_lets -underBinder at' b6 log b8 b9
  have hlog (w : Nat) : Memory.wf (log w) := Blk.wf_apply7 hm ..
  split
  · exact hm
  split
  · exact hlog _
  split
  · exact hlog _
  · exact hlog _

theorem Blk.keepsWf_applyPlan (hm : Memory.wf m) (p : Plan) (k : Nat) (step rec recov : Bool) (x : Mishap) :
    (b.applyPlan m p k step rec recov x).KeepsWf := by
  unfold Blk.applyPlan
  extract_lets -underBinder no field b2
  split
  · exact hm
  · exact hm
  split
  · exact hm
  · trivial
  split
  · exact hm
  · trivial
  split
  · exact hm
  · trivial
  extract_lets -underBinder
  split
  · exact hm
  · exact Blk.keepsWf_applyEnd hm ..

/-- The memory with which a stage of the boot ROM ends. -/
def BootEnd.KeepsWf : BootEnd → Prop
  | .go _ m _ | .stop _ m => Memory.wf m

theorem Blk.keepsWf_recoverPlan (hm : Memory.wf m) (fail : Bool) (x : Mishap) : (b.recoverPlan m fail x).KeepsWf := by
  unfold Blk.recoverPlan
  extract_lets -underBinder a res r
  clear_value r
  split
  · exact hm
  extract_lets -underBinder v
  clear_value v
  split
  · exact hm
  extract_lets -underBinder k copy
  have hc (w : Nat) : Memory.wf (copy w) := Memory.wf_write hm _ _
  clear_value copy
  split
  · exact hc _
  · next p _ _ _ =>
    have ha := r.2.keepsWf_applyPlan (hc 0x200000) p k v.2.1 v.2.2.1 true x
    generalize r.2.applyPlan (copy 0x200000) p k v.2.1 v.2.2.1 true x = e at ha ⊢
    cases e with
    | done | stop => exact ha
    | fail => exact hc _

theorem Blk.keepsWf_bootPlan (hm : Memory.wf m) (x : Mishap) : (b.bootPlan m x).KeepsWf := by
  unfold Blk.bootPlan
  extract_lets -underBinder b0 v ra rb b1 b2 b3 try' choose
  have htry (y : Blk) (k : Nat) (p : Plan) (r : Nat × Bool × Bool × Option Plan) : (try' y k p r).KeepsWf := by
    have ha := y.keepsWf_applyPlan hm p k r.2.1 r.2.2.1 false x
    simp only [try']
    generalize y.applyPlan m p k r.2.1 r.2.2.1 false x = e at ha ⊢
    cases e with
    | done | stop => exact ha
    | fail => exact Blk.keepsWf_recoverPlan hm ..
  clear_value try'
  have hchoose (k : Nat) (p : Plan) (r o : Nat × Bool × Bool × Option Plan) : (choose k p r o).KeepsWf := by
    simp only [choose]
    split
    · split
      · split
        · exact htry ..
        · exact Blk.keepsWf_recoverPlan hm ..
      · exact Blk.keepsWf_recoverPlan hm ..
    · exact htry ..
  clear_value choose ra rb
  split
  · exact Blk.keepsWf_recoverPlan hm ..
  · exact hchoose ..
  · exact hchoose ..
  · split
    · exact hchoose ..
    · exact hchoose ..

theorem Blk.answersWf_bootImages (hm : Memory.wf m) : AnswersWf (b.bootImages m) := by
  unfold Blk.bootImages
  extract_lets -underBinder b0
  clear_value b0
  split
  · exact answersWf_mk hm
  extract_lets -underBinder
  split
  · exact keepsWf_loadEarly _ (leaves_mk hm)
  · exact answersWf_mk hm

theorem Blk.keepsWf_kcStart (hm : Memory.wf m) (x : Mishap) : KeepsWf (b.kcStart m x) := by
  unfold Blk.kcStart
  have hr := b.keepsWf_mend (Memory.wf_keep hm)
  extract_lets -underBinder r m0 b1
  change Memory.wf m0 at hr
  clear_value b1 m0
  split
  · exact leaves_mk hr
  split
  · exact leaves_mk hr
  have hp := b1.bootKeys.keepsWf_bootPlan hr x
  generalize b1.bootKeys.bootPlan m0 x = e at hp ⊢
  cases e with
  | stop => exact leaves_mk hp
  | go b2 m2 p =>
    have hi := b2.answersWf_bootImages hp
    dsimp only
    split
    · next h => exact leaves_mk (hi.wf_of_eq h)
    · next h => exact leaves_mk (hi.wf_of_eq h)

/-! ## A step without a command -/

theorem Blk.keepsWf_passTick (hm : Memory.wf m) : KeepsWf (b.passTick m) :=
  Blk.keepsWf_drainDma (Blk.keepsWf_drainStall hm)

theorem Blk.keepsWf_idle (hm : Memory.wf m) : KeepsWf (b.idle m) := by
  unfold Blk.idle
  split
  · exact leaves_mk hm
  split
  · exact leaves_mk hm
  · exact Blk.keepsWf_passTick hm

end

end Sys2Proof.Machine
end

section
/-!
PROOFS. Which commands change memory, and what every command and every step keep of it.
-/

namespace Sys2Proof.Machine

/-! ## Commands that leave memory alone -/

/-- A command on the block alone leaves memory as it is. -/
theorem onBlk_mem {ok : Bool} {s t : State} {f : Blk → Blk} (h : onBlk ok s f = .next t) : t.mem = s.mem := by
  obtain ⟨-, -, hmem, -⟩ := onBlk_next h
  exact hmem

theorem pwrCmd_mem {i : Init} {req wfi : Nat} {s t : State} (h : pwrCmd i req wfi s = .next t) : t.mem = s.mem :=
  onBlk_mem h

theorem cmdWrite_mem {i : Init} {ch op duty : Nat} {s t : State} (h : cmdWrite i ch op duty s = .next t) :
    t.mem = s.mem := onBlk_mem h

theorem tcmdWrite_mem {i : Init} {ch op duty : Nat} {ep : Bool} {s t : State}
    (h : tcmdWrite i ch op duty ep s = .next t) : t.mem = s.mem := onBlk_mem h

theorem execInterruptEnableWrite_mem {i : Init} {src : Nat} {v : W32} {s t : State}
    (h : execInterruptEnableWrite i src v s = .next t) : t.mem = s.mem := by
  unfold execInterruptEnableWrite at h
  split at h
  · exact onBlk_mem h
  · exact onBlk_mem h

/-- Settles O8: every other command acts on the block alone, but for a load, which writes no byte, and the end of a plan
check, which only reads memory. -/
theorem onlyMemoryCommandsWriteMemory : Obligations.OnlyMemoryCommandsWriteMemory := by
  intro c s t hc h
  cases c with dsimp only [exec] at h
  | vkeepPowerUp | vkeepLoss | kcStart | memoryStore | memoryAtomic | potFetch | commitComplete
  | deviceDmaRequest | pageWalkComplete | ctxOpDone | hostTxFrame | hostRxFrame | canTxComplete | canFrameReceive
  | frameTransmitEnd | gen | append | check | strip | cvuBadArgument | gcmEnc | gcmDec | cmacGen | cmacVer | sha384
  | sign | verify | cryBadOpcode | kvCommandComplete | tamperAlarm => cases hc
  | memoryLoad i fetch addr n err =>
    obtain ⟨-, -, hmem, -⟩ := onMem_next h
    rw [hmem]
    refine Blk.access_mem_of_not_accWrites ?_ ..
    cases fetch <;> rfl
  | planCheckComplete =>
    obtain ⟨-, -, hmem, -⟩ := onMem_next h
    exact hmem
  | pwrReqRun | pwrReqIdle | pwrReqStandby | pwrReqSleep | pwrReqKcReset | pwrReqInvalid => exact pwrCmd_mem h
  | nop | off | on | pwm | cap | duty | cancel | cmdReservedOpcode => exact cmdWrite_mem h
  | timedOff | timedOn | timedPwm | timedCap | timedDuty | timedReservedOpcode => exact tcmdWrite_mem h
  | interruptEnableWrite => exact execInterruptEnableWrite_mem h
  | _ => exact onBlk_mem h

/-! ## Every step keeps memory canonical -/

theorem inv_of_onMem {ok : Bool} {s t : State} {f : Blk → List Host.Cell → Blk × List Host.Cell}
    (h : onMem ok s f = .next t) (hs : s.Inv) (hf : ∀ b m, Memory.wf m → KeepsWf (f b m)) : t.Inv := by
  obtain ⟨-, -, hmem, -⟩ := onMem_next h
  rw [State.Inv, hmem]
  exact hf _ _ hs

theorem keepsWf_ite {c : Prop} [Decidable c] {r q : Blk × List Host.Cell} (hr : KeepsWf r) (hq : KeepsWf q) :
    KeepsWf (if c then r else q) := by
  split
  · exact hr
  · exact hq

theorem inv_exec_of_mayWriteMemory {c : Instr} {s t : State} (hc : mayWriteMemory c = true) (hs : s.Inv)
    (h : exec c s = .next t) : t.Inv := by
  cases c with dsimp only [exec] at h
  | vkeepPowerUp =>
    exact inv_of_onMem h hs fun b m hm => keepsWf_ite (leaves_mk hm) (leaves_mk (Memory.wf_keep hm))
  | vkeepLoss =>
    exact inv_of_onMem h hs fun b m hm => keepsWf_ite (leaves_mk (Memory.wf_keep hm)) (leaves_mk hm)
  | kcStart =>
    exact inv_of_onMem h hs fun b m hm =>
      keepsWf_ite (keepsWf_ite (leaves_mk hm) (Blk.keepsWf_kcStart hm _)) (leaves_mk hm)
  | memoryStore | memoryAtomic => exact inv_of_onMem h hs fun b m hm => Blk.keepsWf_access hm _
  | potFetch => exact inv_of_onMem h hs fun b m hm => Blk.keepsWf_potArrive hm
  | commitComplete => exact inv_of_onMem h hs fun b m hm => Blk.keepsWf_commit hm _
  | deviceDmaRequest =>
    exact inv_of_onMem h hs fun b m hm => keepsWf_ite (Blk.keepsWf_dmaArrive hm _) (leaves_mk hm)
  | pageWalkComplete => exact inv_of_onMem h hs fun b m hm => Blk.keepsWf_walkEnd hm
  | ctxOpDone => exact inv_of_onMem h hs fun b m hm => Blk.keepsWf_ctxDone hm _
  | hostTxFrame => exact inv_of_onMem h hs fun b m hm => Blk.keepsWf_hostTx hm _
  | hostRxFrame => exact inv_of_onMem h hs fun b m hm => Blk.keepsWf_hostBack (Blk.keepsWf_hostRx hm _)
  | frameTransmitEnd => exact inv_of_onMem h hs fun b m hm => Blk.keepsWf_hostBack (leaves_mk hm)
  | canTxComplete =>
    exact inv_of_onMem h hs fun b m hm => keepsWf_ite (leaves_mk hm) (Blk.keepsWf_canSent hm ..)
  | canFrameReceive =>
    exact inv_of_onMem h hs fun b m hm => keepsWf_ite (leaves_mk hm) (Blk.keepsWf_canReceive hm ..)
  | gen | append | check | strip | cvuBadArgument =>
    exact inv_of_onMem h hs fun b m hm => Blk.keepsWf_cvuRun hm ..
  | gcmEnc | gcmDec | cmacGen | cmacVer | sha384 | sign | verify | cryBadOpcode =>
    exact inv_of_onMem h hs fun b m hm => Blk.keepsWf_cryRun hm ..
  | kvCommandComplete => exact inv_of_onMem h hs fun b m hm => Blk.keepsWf_kvComplete hm
  | tamperAlarm => exact inv_of_onMem h hs fun b m hm => Blk.keepsWf_tamperAlarm hm ..
  | _ => cases hc

theorem inv_exec {c : Instr} {s t : State} (hs : s.Inv) (h : exec c s = .next t) : t.Inv := by
  cases hc : mayWriteMemory c with
  | true => exact inv_exec_of_mayWriteMemory hc hs h
  | false => rwa [State.Inv, onlyMemoryCommandsWriteMemory c s t hc h]

/-- Settles O6: a tick lets held writes proceed, a command writes memory or leaves it, and each keeps the form. -/
theorem memoryStaysCanonical : Obligations.MemoryStaysCanonical := by
  intro s t hs h
  unfold step at h
  split at h
  · cases h
    exact Blk.keepsWf_idle hs
  · next c rest _ => exact inv_exec (s := ⟨s.blk, s.mem, rest⟩) hs h

/-- Settles O7: an empty list is canonical. -/
theorem resetIsCanonical : Obligations.ResetIsCanonical :=
  ⟨Memory.wf_nil, fun _ hc => absurd hc List.not_mem_nil⟩

/-! ## Memory over a loss of supply -/

theorem memByte_memKeep (m : List Host.Cell) (a : Nat) :
    memByte (memKeep m) a = if inMram a || decide (2 ^ 40 ≤ a) then memByte m a else 0 :=
  Sparse.get_keep memDefault _ m a

theorem exec_vkeepPowerUp {s : State} (hr : s.blk.pwr.ready = false) :
    exec .vkeepPowerUp s = .next (s.withMem (s.blk.bare.calCheck, memKeep s.mem)) := by
  dsimp only [exec, execVkeepPowerUp]
  rw [onMem_true, hr]
  rfl

/-- Settles O21: a byte outside MRAM and the boot storage reads as one that nothing has written. -/
theorem powerUpKeepsMram : Obligations.PowerUpKeepsMram := by
  intro s hr
  exact ⟨_, exec_vkeepPowerUp hr, rfl, memByte_memKeep s.mem⟩

end Sys2Proof.Machine
end

section
/-!
PROOFS. The commands of leaves, starts, PWM generators and charging (R30, R31, R117, R119 to R123).
-/

namespace Sys2Proof.Machine

/-- A command on the block whose units exist ends in the state with the block that its operation makes. -/
theorem onBlk_withBlk {ok : Bool} (hok : ok = true) (s : State) (f : Blk → Blk) :
    onBlk ok s f = .next (s.withBlk (f s.blk)) := by
  subst hok
  rfl

/-- So does an accepted write, on the block that has acknowledged it. -/
theorem onBlk_onWrite {ok : Bool} (hok : ok = true) {s : State} {i : Init} {a : Nat}
    (hw : s.blk.writable i a = true) (v : W32) (f : Blk → Blk) :
    onBlk ok s (fun b => b.onWrite i a v f) = .next (s.withBlk (f s.blk.acked)) := by
  rw [onBlk_withBlk hok, Blk.onWrite_accepted hw, Blk.acked]

/-- Settles O36: an event performs its operation where its unit exists, an accepted write performs it on the block
that has acknowledged the access. -/
theorem startsAndPwm : Obligations.StartsAndPwm := by
  have hone {n k : Nat} (h : n < k) : decide (n < k) = true := decide_eq_true h
  have hboth {n g : Nat} (hn : n < 12) (hg : g < 4) : (decide (n < 12) && decide (g < 4)) = true := by simp [hn, hg]
  dsimp only [Obligations.StartsAndPwm, exec]
  refine ⟨?leaveRequestSend, ?leaveGrantArrival, ?leaveRefusalArrival, ?uhLeaveRequest, ?inrushPhaseEnd, ?channelAdopt,
    ?pwmPeriodBoundary, ?pwmRisingEdge, ?pwmFallingEdge, ?pgPeriodWrite, ?pgAnchorWrite, ?chPhaseWrite,
    ?chargeLevelReached, ?chargeComplete, ?chargeTimeout⟩
  case uhLeaveRequest => exact fun s => onBlk_withBlk rfl s _
  case pwmPeriodBoundary => exact fun n g s hn hg => onBlk_withBlk (hboth hn hg) s _
  case channelAdopt => exact fun i ch tag mode s hch hw => onBlk_onWrite (hone hch) hw _ _
  case pgPeriodWrite | pgAnchorWrite => exact fun i n g v s hn hg hw => onBlk_onWrite (hboth hn hg) hw _ _
  case chPhaseWrite => exact fun i ch v s hch hw => onBlk_onWrite (hone hch) hw _ _
  case leaveRequestSend | leaveGrantArrival | leaveRefusalArrival | inrushPhaseEnd | pwmRisingEdge | pwmFallingEdge
      | chargeLevelReached | chargeComplete | chargeTimeout => exact fun k s hk => onBlk_withBlk (hone hk) s _

end Sys2Proof.Machine
end

section
/-!
PROOFS. Accesses to an address that no table assigns (R23).
-/

namespace Sys2Proof.Machine

/-- The verdict of R23 on an address that no table assigns: a bus error without log or fault. -/
theorem Blk.devVerdict_unassigned {b : Blk} {i : Init} {a : Nat} {wr : Bool} (hf : isFileReg a = false)
    (ha : assigned a = false) (hattr : b.attr i ≠ none) (hv : b.hvStop i = false)
    (hp : b.pmpOk i (if wr then .write else .read) a 4 = true) : b.devVerdict i a wr = .refuse none none := by
  obtain ⟨p, hp'⟩ := Option.ne_none_iff_exists'.1 hattr
  simp [Blk.devVerdict, hf, Blk.judge, hp', hv, hp, ha]

theorem Blk.devRefused_unassigned (b : Blk) (i : Init) (a : Nat) (wr : Bool) :
    b.devRefused i a wr (.refuse none none) =
      ({ b with resp := .busError } : Blk).except i (if wr then 7 else 5) a .busError := rfl

theorem Blk.busStore_unassigned {b : Blk} {i : Init} {a : Nat} (v : Nat) (ha4 : a % 4 = 0) (hattr : b.attr i ≠ none)
    (hr : ∀ h, b.recutInit i = some h → b.atInstr h) (hd : b.devVerdict i a true = .refuse none none) :
    b.busStore i a 4 v = ({ b with resp := .busError } : Blk).except i 7 a .busError := by
  obtain ⟨p, hp⟩ := Option.ne_none_iff_exists'.1 hattr
  rw [Blk.busStore, Blk.recutDev_now hr]
  simp [Blk.wordsStore, hp, ha4, Blk.storeWord, hd, Blk.devRefused_unassigned]

theorem Blk.busLoad_unassigned {b : Blk} {i : Init} {a : Nat} (ha4 : a % 4 = 0) (hattr : b.attr i ≠ none)
    (hr : ∀ h, b.recutInit i = some h → b.atInstr h ∧ b.heldAt h a 4 = false)
    (hd : b.devVerdict i a false = .refuse none none) :
    b.busLoad i a 4 = ({ b with resp := .busError } : Blk).except i 5 a .busError := by
  obtain ⟨p, hp⟩ := Option.ne_none_iff_exists'.1 hattr
  have hl : b.wordsLoad i a 4 = ({ b with resp := .busError } : Blk).except i 5 a .busError := by
    simp [Blk.wordsLoad, hp, ha4, Blk.loadWord, hd, Blk.devRefused_unassigned]
  rw [Blk.busLoad, Blk.recutDev_now fun h hh => (hr h hh).1, ← hl]
  split
  · next h hh => simp [(hr h hh).2]
  · rfl

theorem Blk.access_deviceLoad {b : Blk} {i : Init} {a : Nat} (hv : b.hvStop i = false) (hdev : isDevice a = true)
    (n : Nat) (err : Option (Nat × Bool)) (m : List Host.Cell) :
    b.access m { init := i, kind := .read, addr := a, size := n, err := err } = (b.busLoad i a n, m) := by
  simp [Blk.access, hv, hdev, Blk.devAccess]

theorem exec_memoryLoad {n : Nat} (hn : widthOk n = true) (i : Init) (fetch : Bool) (a : Nat)
    (err : Option (Nat × Bool)) (s : State) :
    exec (.memoryLoad i fetch a n err) s = .next (s.withMem (s.blk.access s.mem
      { init := i, kind := if fetch then .fetch else .read, addr := a, size := n, err := err })) := by
  dsimp only [exec]
  rw [execMemoryLoad, hn]
  rfl

/-- Settles O11: the verdict is a refusal without a reason, which nothing logs; the access ends in the exception of its
direction (R481). -/
theorem unassignedAddressIsABusError : Obligations.UnassignedAddressIsABusError := by
  intro i a v s hdev ha4 hf ha hattr hv hr
  constructor
  · intro hp
    have hd := Blk.devVerdict_unassigned (wr := true) hf ha hattr hv hp
    rw [exec_registerWrite i a v s (by omega),
      Blk.busStore_unassigned v ha4 hattr (fun h hh => (hr h hh).1) hd]
  · intro hp
    have hd := Blk.devVerdict_unassigned (wr := false) hf ha hattr hv hp
    have hacc := Blk.access_deviceLoad hv hdev 4 none s.mem
    rw [Blk.busLoad_unassigned ha4 hattr hr hd] at hacc
    rw [exec_memoryLoad rfl, if_neg Bool.false_ne_true, hacc]
    rfl

end Sys2Proof.Machine
end

section
/-!
PROOFS. What the events of supplies and clocks, the requests of SYSCTL_PWR and the wakes make of the state (R80 to R82,
R84, R95 to R100, R456 to R460, R467, R494, R672).
-/

namespace Sys2Proof.Machine

/-- An accepted read has its effect on the block that has acknowledged it. -/
theorem Blk.onRead_accepted {b : Blk} {i : Init} {a : Nat} (h : b.readable i a = true) (f : Blk → Blk) :
    b.onRead i a f = f b.acked := by
  simp only [Blk.readable, Bool.and_eq_true, beq_iff_eq, Option.isNone_iff_eq_none] at h
  obtain ⟨⟨hjudge, hcopy⟩, hnow⟩ := h
  simp [Blk.onRead, Blk.recutDev, hjudge, hcopy, hnow, Blk.acked]

/-- A command whose read is accepted has that effect on the block alone. -/
theorem onBlk_onRead {ok : Bool} (hok : ok = true) {s : State} {i : Init} {a : Nat}
    (hr : s.blk.readable i a = true) (f : Blk → Blk) :
    onBlk ok s (fun b => b.onRead i a f) = .next (s.withBlk (f s.blk.acked)) := by
  rw [onBlk_withBlk hok, Blk.onRead_accepted hr]

/-- A command on the block and memory ends in the state with what its operation makes of both. -/
theorem onMem_withMem (s : State) (f : Blk → List Host.Cell → Blk × List Host.Cell) :
    onMem true s f = .next (s.withMem (f s.blk s.mem)) := rfl

/-- The state in which a command on the block ends, by what its operation makes of the block. -/
theorem onBlk_of_eq {s : State} {f : Blk → Blk} {b : Blk} (hf : f s.blk = b) :
    onBlk true s f = .next (s.withBlk b) := hf ▸ onBlk_withBlk rfl s f

theorem exec_railLoss {s : State} (hgood : s.blk.pwr.railGood = true) :
    exec .railLoss s = .next (s.withBlk s.blk.railFall) := onBlk_of_eq (if_pos hgood)

theorem Blk.railFall_up {b : Blk} (hup : b.kc ≠ .down) :
    b.railFall = { b.kcReset (if b.kc = .held then 2 else 3) with
      pwr := { (b.kcReset (if b.kc = .held then 2 else 3)).pwr with railGood := false } } := by
  rw [Blk.railFall, if_neg hup]

theorem exec_vkeepLoss {s : State} (hkeep : s.blk.pwr.vkeep = true) :
    exec .vkeepLoss s = .next (s.withMem ({ s.blk.bridgeFlush.bare.put F.AON_PSTATE_STATE 5 with
      pwr := { (s.blk.bridgeFlush.bare.put F.AON_PSTATE_STATE 5).pwr with vkeep := false } }, memKeep s.mem)) := by
  dsimp only [exec, execVkeepLoss]
  rw [onMem_withMem, if_pos hkeep]

theorem exec_kcStart {s : State} (hmay : s.blk.kcMayStart = true) (hlate : s.blk.keeper.sv4Late ≠ some true)
    (set step reason : Nat) :
    exec (.kcStart set step reason) s = .next (s.withMem (s.blk.kcStart s.mem ⟨set, reason, step⟩)) := by
  dsimp only [exec, execKcStart]
  rw [onMem_withMem, if_pos hmay, if_neg hlate]

theorem pwrCmd_writable {i : Init} {s : State} (hw : s.blk.writable i R.SYSCTL_PWR = true) (req wfi : Nat) :
    pwrCmd i req wfi s = .next (s.withBlk (s.blk.acked.pwrWrite (pwrWord req) wfi)) := onBlk_onWrite rfl hw _ _

/-- Settles O32: an event whose guard holds performs its operation; the others carry their guard into it. -/
theorem supplyEvents : Obligations.SupplyEvents := by
  refine ⟨?vkeepPowerUp, ?uhReady, ?railGoodRise, ?railLoss, ?vkeepLoss, ?fieldLinkClockLoss, ?alignmentPulse,
    ?crystalStop, ?powerTransitionComplete, ?idleWakeInterrupt⟩
  case vkeepPowerUp => exact fun s hready => exec_vkeepPowerUp hready
  case vkeepLoss => exact fun s hkeep => exec_vkeepLoss hkeep
  case railLoss => exact fun s hgood hup => by rw [exec_railLoss hgood, Blk.railFall_up hup]
  case uhReady => exact fun s hkeep hready => onBlk_of_eq (if_pos (by simp [hkeep, hready]))
  case railGoodRise => exact fun s hen hgood => onBlk_of_eq (if_pos (by simp [hen, hgood]))
  case crystalStop => exact fun s hkeep hosc => onBlk_of_eq (if_pos (by simp [hkeep, hosc]))
  case fieldLinkClockLoss | alignmentPulse | powerTransitionComplete | idleWakeInterrupt =>
    exact fun s => onBlk_withBlk rfl s _

/-- Settles O33: an accepted access performs its operation on the block that has acknowledged it, an event performs its
own on the block as it is. -/
theorem powerStateCommands : Obligations.PowerStateCommands := by
  refine ⟨?kcStart, ?run, ?idle, ?standby, ?sleep, ?kcReset, ?invalid, ?rtcSecRead, ?rtcSecWrite, ?rtcAlarmFire,
    ?alarmEnable, ?kcQuiescent, ?wakeEvent, ?lateWakeRestart, ?failSafeSleep, ?pop, ?debugReset⟩
  case kcStart => exact fun set step reason s hmay hlate => exec_kcStart hmay hlate set step reason
  case run | idle | sleep | kcReset => exact fun i s hw => pwrCmd_writable hw _ _
  case standby => exact fun i wfi s hw => pwrCmd_writable hw _ _
  case invalid => exact fun i req s hw => pwrCmd_writable hw _ _
  case rtcSecRead => exact fun i s hr => onBlk_onRead rfl hr _
  case rtcSecWrite | alarmEnable => exact fun i v s hw => onBlk_onWrite rfl hw _ _
  case pop => exact fun i s hw => onBlk_onWrite rfl hw _ _
  case rtcAlarmFire | kcQuiescent | wakeEvent | lateWakeRestart | failSafeSleep => exact fun s => onBlk_withBlk rfl s _
  case debugReset => exact fun s hkc hlevel => onBlk_of_eq (if_pos (by simpa [hlevel] using hkc))

end Sys2Proof.Machine
end

section
/-!
PROOFS. Requests of SYSCTL_PWR (R95, R97, R98): a request begins its transition or is refused, and reaches no other
register.
-/

namespace Sys2Proof.Machine

/-! ## Registers left alone -/

theorem RegsSame.trans {b c d : Blk} {l : List Nat} (hbc : RegsSame b c l) (hcd : RegsSame c d l) : RegsSame b d l :=
  fun a ha => (hcd a ha).trans (hbc a ha)

theorem Blk.regsSame_put (b : Blk) (f : Fld) (v : Nat) : RegsSame b (b.put f v) [f.a] :=
  fun a ha => b.reg_put_other f v a (by simpa using ha)

theorem Blk.regsSame_writeReg (b : Blk) (a : Nat) (v : W32) : RegsSame b (b.writeReg a v) [a] :=
  fun x hx => b.reg_writeReg_other a v x (by simpa using hx)

/-- A write leaves a read-only field as it is (R7). -/
theorem Blk.fld_writeReg_ro {a : Nat} {r : RegSpec} {ix : List Nat} {f : FieldSpec} (hloc : locate a = some (r, ix))
    (hf : f ∈ r.fields) (hro : f.ty = .ro) (b : Blk) (v : W32) :
    (b.writeReg a v).fld ⟨a, f.hi, f.lo⟩ = b.fld ⟨a, f.hi, f.lo⟩ := by
  obtain ⟨hok, hapart⟩ := fieldsOk_of_locate hloc
  have hlo : f.lo ≤ f.hi := (hok f hf).1
  unfold Blk.fld
  rw [Blk.reg_writeReg_same hloc]
  apply Nat.eq_of_testBit_eq
  intro k
  rw [Fld.testBit_get _ _ _ hlo, Fld.testBit_get _ _ _ hlo]
  by_cases hk : f.lo + k ≤ f.hi
  · rw [getLsbD_typedWord_mem hok hapart hf ⟨Nat.le_add_right _ _, hk⟩, hro]
    rfl
  · simp [hk]

/-! ## The word of a request -/

/-- The word carries the key and the request (R98). -/
theorem pwrWord_fields : ∀ req < 8,
    F.SYSCTL_PWR_KEY.get (pwrWord req) = 0x5a ∧ F.SYSCTL_PWR_REQ.get (pwrWord req) = req := by decide

theorem Blk.pwrWrite_pwrWord {req : Nat} (hreq : req < 8) (b : Blk) (wfi : Nat) :
    b.pwrWrite (pwrWord req) wfi = (b.writeReg R.SYSCTL_PWR (pwrWord req)).pwrReq req wfi := by
  obtain ⟨hkey, hval⟩ := pwrWord_fields req hreq
  rw [Blk.pwrWrite, if_pos hkey, hval]

theorem Blk.fld_busy_writeReg (b : Blk) (v : W32) :
    (b.writeReg R.SYSCTL_PWR v).fld F.SYSCTL_PWR_BUSY = b.fld F.SYSCTL_PWR_BUSY :=
  Blk.fld_writeReg_ro (a := R.SYSCTL_PWR) (f := ⟨6, 6, .ro, 0⟩) rfl (by decide) rfl b v

theorem Blk.fld_state_writeReg (b : Blk) (v : W32) :
    (b.writeReg R.SYSCTL_PWR v).fld F.SYSCTL_PWR_STATE = b.fld F.SYSCTL_PWR_STATE :=
  Blk.fld_writeReg_ro (a := R.SYSCTL_PWR) (f := ⟨5, 3, .ro, 7⟩) rfl (by decide) rfl b v

/-! ## What becomes of a request -/

theorem Blk.pwrReq_of_busy {b : Blk} {req : Nat} (hbusy : b.fld F.SYSCTL_PWR_BUSY = 1) (hreq : req ≠ 0) (wfi : Nat) :
    b.pwrReq req wfi = b.pwrRefuse := by
  simp [Blk.pwrReq, Blk.on, hbusy, hreq]

/-- Code 5 requests nothing, with or without a transition in progress (R97). -/
theorem Blk.pwrReq_reserved (b : Blk) (wfi : Nat) : b.pwrReq 5 wfi = b.pwrRefuse := by
  simp [Blk.pwrReq]

theorem Blk.pwrReq_idle {b : Blk} (hbusy : b.fld F.SYSCTL_PWR_BUSY = 0) (hrun : b.fld F.SYSCTL_PWR_STATE = 0)
    (wfi : Nat) : b.pwrReq 2 wfi = b.pwrBegin 1 := by
  simp [Blk.pwrReq, Blk.on, hbusy, hrun]

/-- A refusal sets REFUSED and leaves the fields beside it. -/
theorem Blk.pwrRefuse_fields (b : Blk) : b.pwrRefuse.fld F.SYSCTL_PWR_REFUSED = 1 ∧
    b.pwrRefuse.fld F.SYSCTL_PWR_BUSY = b.fld F.SYSCTL_PWR_BUSY ∧
    b.pwrRefuse.fld F.SYSCTL_PWR_STATE = b.fld F.SYSCTL_PWR_STATE :=
  ⟨b.fld_put_same _ _ (by decide), b.fld_put_other _ _ _ (by decide) (by decide) (by decide),
    b.fld_put_other _ _ _ (by decide) (by decide) (by decide)⟩

/-- The start of a transition sets BUSY and leaves the state. -/
theorem Blk.pwrBegin_fields (b : Blk) (st : Nat) : (b.pwrBegin st).fld F.SYSCTL_PWR_BUSY = 1 ∧
    (b.pwrBegin st).fld F.SYSCTL_PWR_STATE = b.fld F.SYSCTL_PWR_STATE :=
  ⟨b.fld_put_same F.SYSCTL_PWR_BUSY _ (by decide),
    b.fld_put_other F.SYSCTL_PWR_BUSY _ _ (by decide) (by decide) (by decide)⟩

/-- A write whose request is refused, whatever else the block holds, changes REFUSED alone. -/
theorem pwrCmd_refused {i : Init} {s : State} {req wfi : Nat} (hw : s.blk.writable i R.SYSCTL_PWR = true)
    (hreq : req < 8)
    (href : ∀ b : Blk, b.fld F.SYSCTL_PWR_BUSY = s.blk.fld F.SYSCTL_PWR_BUSY → b.pwrReq req wfi = b.pwrRefuse) :
    ∃ t, pwrCmd i req wfi s = .next t ∧ t.blk.fld F.SYSCTL_PWR_REFUSED = 1 ∧
      t.blk.fld F.SYSCTL_PWR_BUSY = s.blk.fld F.SYSCTL_PWR_BUSY ∧
      t.blk.fld F.SYSCTL_PWR_STATE = s.blk.fld F.SYSCTL_PWR_STATE ∧ t.blk.pwr = s.blk.pwr ∧ t.blk.kc = s.blk.kc ∧
      RegsSame s.blk t.blk [R.SYSCTL_PWR] ∧ t.mem = s.mem ∧ t.pending = s.pending := by
  set c := s.blk.acked.writeReg R.SYSCTL_PWR (pwrWord req) with hc
  obtain ⟨hrefused, hbusy, hstate⟩ := c.pwrRefuse_fields
  have hsame : RegsSame s.blk c.pwrRefuse [R.SYSCTL_PWR] :=
    (s.blk.acked.regsSame_writeReg R.SYSCTL_PWR (pwrWord req)).trans (c.regsSame_put F.SYSCTL_PWR_REFUSED 1)
  refine ⟨s.withBlk c.pwrRefuse, ?_, hrefused, hbusy.trans (Blk.fld_busy_writeReg ..),
    hstate.trans (Blk.fld_state_writeReg ..), s.blk.acked.writeReg_pwr .., s.blk.acked.writeReg_kc .., hsame, rfl, rfl⟩
  rw [pwrCmd_writable hw, Blk.pwrWrite_pwrWord hreq, ← hc, href c (Blk.fld_busy_writeReg ..)]

/-- REQ IDLE in RUN with no transition in progress. -/
theorem pwrReqIdle_begins {i : Init} {s : State} (hw : s.blk.writable i R.SYSCTL_PWR = true)
    (hbusy : s.blk.fld F.SYSCTL_PWR_BUSY = 0) (hrun : s.blk.fld F.SYSCTL_PWR_STATE = 0) :
    exec (.pwrReqIdle i) s =
      .next (s.withBlk ((s.blk.acked.writeReg R.SYSCTL_PWR (pwrWord 2)).pwrBegin 1)) := by
  have hcmd : exec (.pwrReqIdle i) s = pwrCmd i 2 0 s := rfl
  rw [hcmd, pwrCmd_writable hw, Blk.pwrWrite_pwrWord (by decide),
    Blk.pwrReq_idle ((s.blk.acked.fld_busy_writeReg _).trans hbusy) ((s.blk.acked.fld_state_writeReg _).trans hrun)]

/-- Settles O19: the write of the word leaves BUSY and STATE, which are read-only, so the request meets them as they
were. -/
theorem powerRequests : Obligations.PowerRequests := by
  intro i s hw
  refine ⟨fun hbusy hrun => ?idle, fun hbusy => ?reserved, fun hbusy => ?busy⟩
  case idle =>
    set c := s.blk.acked.writeReg R.SYSCTL_PWR (pwrWord 2)
    obtain ⟨hset, hstate⟩ := c.pwrBegin_fields 1
    have htrans : (c.pwrBegin 1).pwr.trans = some (1, s.blk.clk) :=
      congrArg (fun k => some (1, k)) (s.blk.acked.writeReg_clk ..)
    have hsame : RegsSame s.blk (c.pwrBegin 1) [R.SYSCTL_PWR] :=
      (s.blk.acked.regsSame_writeReg R.SYSCTL_PWR (pwrWord 2)).trans (c.regsSame_put F.SYSCTL_PWR_BUSY 1)
    exact ⟨_, pwrReqIdle_begins hw hbusy hrun, hset, (hstate.trans (Blk.fld_state_writeReg ..)).trans hrun, htrans,
      hsame, rfl, rfl⟩
  case reserved =>
    obtain ⟨t, ht, hrefused, hkept, -, hpwr, -, hrest⟩ :=
      pwrCmd_refused (wfi := 0) hw (by decide) fun b _ => b.pwrReq_reserved 0
    exact ⟨t, ht, hrefused, hkept.trans hbusy, hpwr, hrest⟩
  case busy =>
    have hcmd (req : Nat) (h0 : req ≠ 0) (h8 : req < 8) :=
      pwrCmd_refused (wfi := 0) hw h8 fun b hb => Blk.pwrReq_of_busy (hb.trans hbusy) h0 0
    rw [hbusy] at hcmd
    simp only [List.forall_mem_cons]
    exact ⟨hcmd 1 (by decide) (by decide), hcmd 2 (by decide) (by decide), hcmd 3 (by decide) (by decide),
      hcmd 4 (by decide) (by decide), hcmd 7 (by decide) (by decide), hcmd 6 (by decide) (by decide),
      List.forall_mem_nil _⟩

end Sys2Proof.Machine
end

section
/-!
PROOFS. KC's reset as its rails fall (R36, R38, R82, R92).
-/

namespace Sys2Proof.Machine

/-! ## What the stop of KC leaves of the registers and the dies -/

theorem Blk.uhTakesOver_frame (b : Blk) : b.uhTakesOver.regs = b.regs ∧ b.uhTakesOver.chan = b.chan ∧
    b.uhTakesOver.die = b.die ∧ b.uhTakesOver.k = b.k := ⟨rfl, rfl, rfl, rfl⟩

/-- A bridge without a write in progress has none to apply. -/
theorem Blk.bridgeFlush_idle {b : Blk} (hidle : b.k.brg.tx = []) : b.bridgeFlush = b.draw.2 := by
  simp [Blk.bridgeFlush, Blk.uhReceived, hidle]

/-- What a reset of KC makes of a torn write of the key vault reaches no register and no die. -/
theorem Blk.tear_frame (b : Blk) : b.tear.regs = b.regs ∧ b.tear.chan = b.chan ∧ b.tear.die = b.die := by
  unfold Blk.tear
  split
  · split <;> exact ⟨rfl, rfl, rfl⟩
  · exact ⟨rfl, rfl, rfl⟩

theorem Blk.reg_keepRegs (b : Blk) (p : Nat → Bool) (a : Nat) :
    (b.keepRegs p).reg a = if p a = true then b.reg a else regReset a := Sparse.get_keep regReset p b.regs a

/-- The block before KC's own state is cleared, where the bridge is idle. -/
theorem Blk.beforeClear_frame {b : Blk} (hidle : b.k.brg.tx = []) :
    b.uhTakesOver.bridgeFlush.tear.regs = b.regs ∧ b.uhTakesOver.bridgeFlush.tear.chan = b.chan ∧
      b.uhTakesOver.bridgeFlush.tear.die = b.die := by
  obtain ⟨hregs, hchan, hdie, hk⟩ := b.uhTakesOver_frame
  obtain ⟨hregs', hchan', hdie'⟩ := b.uhTakesOver.draw.2.tear_frame
  rw [Blk.bridgeFlush_idle (hk ▸ hidle)]
  exact ⟨hregs'.trans hregs, hchan'.trans hchan, hdie'.trans hdie⟩

theorem Blk.reg_kcDown {b : Blk} (hidle : b.k.brg.tx = []) (a : Nat) :
    b.kcDown.reg a = if keptByKc a = true then b.reg a else regReset a := by
  obtain ⟨hregs, -, -⟩ := Blk.beforeClear_frame hidle
  have hdown : b.kcDown.reg a = (b.uhTakesOver.bridgeFlush.tear.keepRegs keptByKc).reg a := rfl
  rw [hdown, Blk.reg_keepRegs, Blk.reg, hregs, ← Blk.reg]

theorem Blk.kcDown_frame {b : Blk} (hidle : b.k.brg.tx = []) : b.kcDown.chan = b.chan ∧ b.kcDown.die = b.die := by
  obtain ⟨-, hchan, hdie⟩ := Blk.beforeClear_frame hidle
  exact ⟨hchan, hdie⟩

/-! ## The reset -/

theorem Blk.entryDrop_of_not_armed {b : Blk} (h : b.slp.armed = false) : b.entryDrop = b := by
  simp [Blk.entryDrop, h]

/-- The fall of the rails while KC runs and no SLEEP entry is in progress. -/
theorem Blk.railFall_run {b : Blk} (hrun : b.kcRun = true) (harmed : b.slp.armed = false) :
    b.railFall = { (b.kcDown.put F.AON_PSTATE_CAUSE 3).put F.AON_PSTATE_STATE 7 with
      pwr := { b.kcDown.pwr with railGood := false } } := by
  have hkc : b.kc = .run := by simpa [Blk.kcRun] using hrun
  rw [Blk.railFall_up (by simp [hkc]), if_neg (by simp [hkc]), Blk.kcReset, Blk.entryDrop_of_not_armed harmed]
  rfl

theorem Blk.reg_railFall {b : Blk} (hrun : b.kcRun = true) (harmed : b.slp.armed = false) {a : Nat}
    (ha : a ≠ R.AON_PSTATE) : b.railFall.reg a = b.kcDown.reg a := by
  rw [Blk.railFall_run hrun harmed]
  exact ((b.kcDown.put F.AON_PSTATE_CAUSE 3).reg_put_other _ _ _ ha).trans (b.kcDown.reg_put_other _ _ _ ha)

theorem Blk.cause_railFall {b : Blk} (hrun : b.kcRun = true) (harmed : b.slp.armed = false) :
    b.railFall.fld F.AON_PSTATE_CAUSE = 3 := by
  rw [Blk.railFall_run hrun harmed]
  exact ((b.kcDown.put F.AON_PSTATE_CAUSE 3).fld_put_other F.AON_PSTATE_STATE F.AON_PSTATE_CAUSE 7
    (by decide) (by decide) (by decide)).trans (b.kcDown.fld_put_same F.AON_PSTATE_CAUSE 3 (by decide))

theorem Blk.kcMayStart_of_railBad {b : Blk} (h : b.pwr.railGood = false) : b.kcMayStart = false := by
  simp [Blk.kcMayStart, h]

/-- Settles O20: KC's stop keeps the registers of UH, of the dies and the fuses, and the cause is entered in
AON_PSTATE. -/
theorem railLossResetsKc : Obligations.RailLossResetsKc := by
  intro s hgood hrun hidle harmed
  obtain ⟨hchan, hdie⟩ := Blk.kcDown_frame hidle
  have hfall := Blk.railFall_run hrun harmed
  refine ⟨_, exec_railLoss hgood, ?down, Blk.cause_railFall hrun harmed, ?mayStart, fun a ha hfuse hunlock => ?own,
    fun a ha hstate => ?kept, ?chan, ?die, rfl, rfl⟩
  case down => exact congrArg Blk.kc hfall
  case mayStart => exact Blk.kcMayStart_of_railBad (by rw [State.withBlk, hfall])
  case chan => exact (congrArg Blk.chan hfall).trans hchan
  case die => exact (congrArg Blk.die hfall).trans hdie
  case own =>
    have hstate : a ≠ R.AON_PSTATE := by
      rintro rfl
      exact absurd ha (by decide)
    have hnot : ¬ keptByKc a = true := by simp [keptByKc, Nat.not_le.2 ha, hfuse, hunlock]
    exact (Blk.reg_railFall hrun harmed hstate).trans ((Blk.reg_kcDown hidle a).trans (if_neg hnot))
  case kept =>
    have hkeep : keptByKc a = true := by simp [keptByKc, ha]
    exact (Blk.reg_railFall hrun harmed hstate).trans ((Blk.reg_kcDown hidle a).trans (if_pos hkeep))

end Sys2Proof.Machine
end

section
/-!
PROOFS. The clock's reads and its write (R100, R434).
-/

namespace Sys2Proof.Machine

/-- A field that is a whole register holds what is put into it. -/
theorem Blk.fld_put_word (b : Blk) (f : Fld) (hword : f.lo = 0 ∧ f.hi = 31) {v : Nat} (hv : v < 2 ^ 32) :
    (b.put f v).fld f = v := by
  obtain ⟨hlo, hhi⟩ := hword
  rw [b.fld_put_same f v ⟨by omega, by omega⟩, Fld.width, hlo, hhi, Nat.mod_eq_of_lt hv]

theorem Blk.fld_setSec (b : Blk) {sec : Nat} (h : sec < 2 ^ 32) : (b.setSec sec).fld F.AON_RTC_SEC_SEC = sec :=
  b.fld_put_word F.AON_RTC_SEC_SEC ⟨rfl, rfl⟩ h

/-- The always-on tick after a write of the seconds sets the count within the second to 0 (R100). -/
theorem Blk.rtcTick_of_rtcZero {b : Blk} (hzero : b.rtcZero = true) (hfull : 500000000 ≤ b.rtcFrac + 32768) :
    b.rtcTick = { b with rtcFrac := b.rtcFrac + 32768 - 500000000, rtcSub := 0, rtcZero := false } := by
  simp [Blk.rtcTick, Nat.not_lt.2 hfull, hzero]

theorem Blk.ext_lt (b : Blk) (x : Nat) : b.ext x < 2 ^ 64 := by
  unfold Blk.ext
  split <;> exact Nat.mod_lt _ (by decide)

/-- Settles O22: each access reaches one register, and the high half of the extended time fits the register that keeps
it. -/
theorem clockReadsAndWrites : Obligations.ClockReadsAndWrites := by
  intro i v x s
  refine ⟨fun hr => ?read, fun hw => ?write, fun hx hr => ?timeBase⟩
  case read =>
    exact ⟨_, onBlk_onRead rfl hr _, rfl, s.blk.acked.fld_put_same F.AON_RTC_SUB_SUB _ (by decide),
      s.blk.acked.regsSame_put F.AON_RTC_SUB_SUB _, rfl, rfl⟩
  case write =>
    have hsec : (s.blk.acked.rtcSet v.toNat).fld F.AON_RTC_SEC_SEC = v.toNat := s.blk.acked.fld_setSec v.isLt
    refine ⟨_, onBlk_onWrite rfl hw _ _, hsec, fun hfull => ?_, s.blk.acked.regsSame_put F.AON_RTC_SEC_SEC _, rfl, rfl⟩
    have htick := Blk.rtcTick_of_rtcZero (b := s.blk.acked.rtcSet v.toNat) rfl hfull
    exact ⟨congrArg Blk.rtcSub htick, (congrArg (Blk.fld · F.AON_RTC_SEC_SEC) htick).trans hsec⟩
  case timeBase =>
    have hhigh : s.blk.ext x / 2 ^ 32 < 2 ^ 32 := Nat.div_lt_of_lt_mul (s.blk.ext_lt x)
    have hwrap := s.blk.acked.fld_put_word (F.TB_WRAP_LAT_WRAP x) ⟨rfl, rfl⟩ hhigh
    refine ⟨_, _, onBlk_onRead (decide_eq_true hx) hr _, rfl, ?_, s.blk.acked.regsSame_put (F.TB_WRAP_LAT_WRAP x) _,
      rfl, rfl⟩
    exact (congrArg (s.blk.ext x % 2 ^ 32 + 2 ^ 32 * ·) hwrap).trans (Nat.mod_add_div _ _)

end Sys2Proof.Machine
end

section
/-!
PROOFS. Writes of CH_CMD, CH_TCMD and CH_TCMD_TIME (R107 to R115, R133): what an accepted write makes of the state, and
that a command which the first checks refuse leaves all but its result.
-/

namespace Sys2Proof.Machine

/-! ## Accepted writes -/

theorem cmdWrite_writable {i : Init} {ch : Nat} {s : State} (hch : ch < 192)
    (hw : s.blk.writable i (R.CH_CMD ch) = true) (op duty : Nat) :
    cmdWrite i ch op duty s = .next (s.withBlk (s.blk.acked.immediate ch op duty)) :=
  onBlk_onWrite (decide_eq_true hch) hw _ _

theorem tcmdWrite_writable {i : Init} {ch : Nat} {s : State} (hch : ch < 192)
    (hw : s.blk.writable i (R.CH_TCMD ch) = true) (op duty : Nat) (ep : Bool) :
    tcmdWrite i ch op duty ep s = .next (s.withBlk (s.blk.acked.timedWrite ch op duty ep.toNat)) :=
  onBlk_onWrite (decide_eq_true hch) hw _ _

/-- The time is taken, and is fresh for the next timed command, on a die that is not halted (R112, R166). -/
theorem exec_chTcmdTimeWrite {i : Init} {ch : Nat} {time : W32} {s : State} (hch : ch < 192)
    (hw : s.blk.writable i (R.CH_TCMD_TIME ch) = true) (hrun : s.blk.halted (ch / 16) = false) :
    exec (.chTcmdTimeWrite i ch time) s = .next (s.withBlk
      ((s.blk.acked.put (F.CH_TCMD_TIME_TIME ch) time.toNat).setChan ch { s.blk.chanOf ch with fresh := true })) := by
  have hacked : ¬ s.blk.acked.halted (ch / 16) = true := ne_true_of_eq_false hrun
  dsimp only [exec, execChTcmdTimeWrite]
  rw [onBlk_onWrite (decide_eq_true hch) hw, if_neg hacked]
  rfl

/-- Settles O34: each is an accepted write of CH_CMD with its own opcode. -/
theorem immediateChannelCommands : Obligations.ImmediateChannelCommands := by
  dsimp only [Obligations.ImmediateChannelCommands, exec]
  refine ⟨?nop, ?off, ?on, ?pwm, ?cap, ?duty, ?cancel, ?reserved⟩
  case nop | off | on | cap | cancel => exact fun i ch s hch hw => cmdWrite_writable hch hw _ _
  case pwm | duty => exact fun i ch duty s hch hw => cmdWrite_writable hch hw _ _
  case reserved => exact fun i ch op duty s hch hw => cmdWrite_writable hch hw _ _

/-- Settles O35: each is an accepted write of CH_TCMD with its own opcode, but for the write of the time and the event
of a command that is due. -/
theorem timedChannelCommands : Obligations.TimedChannelCommands := by
  dsimp only [Obligations.TimedChannelCommands, exec]
  refine ⟨?time, ?off, ?on, ?pwm, ?cap, ?duty, ?reserved, ?due⟩
  case time => exact fun i ch time s hch hw hrun => exec_chTcmdTimeWrite hch hw hrun
  case off | on | cap => exact fun i ch ep s hch hw => tcmdWrite_writable hch hw _ _ ep
  case pwm | duty => exact fun i ch duty ep s hch hw => tcmdWrite_writable hch hw _ _ ep
  case reserved => exact fun i ch op ep s hch hw => tcmdWrite_writable hch hw _ _ ep
  case due => exact fun n s hn => onBlk_withBlk (decide_eq_true hn) s _

/-! ## Refused commands -/

/-- The first checks answer NOT_ADOPTED or MEMBER (R108). -/
theorem Blk.code_of_preCheck {b : Blk} {ch code : Nat} (h : b.preCheck ch = some code) : code = 3 ∨ code = 4 := by
  unfold Blk.preCheck at h
  split at h
  case isTrue halted => exact .inl (by simpa using h.symm)
  case isFalse running =>
    split at h
    case isTrue member => exact .inr (by simpa using h.symm)
    case isFalse lead =>
      split at h
      case isTrue unadopted => exact .inl (by simpa using h.symm)
      case isFalse adopted => cases h

theorem Blk.immediate_refused {b : Blk} {ch code : Nat} (h : b.preCheck ch = some code) (op duty : Nat) :
    b.immediate ch op duty = b.res ch code := by
  rw [Blk.immediate, h]

/-- A result code is read back as it was recorded (R137). -/
theorem Blk.result_res (b : Blk) (ch : Nat) {code : Nat} (h : code < 16) :
    (b.res ch code).fld (F.CH_CMD_STAT_RESULT ch) = code := by
  rw [Blk.res, b.fld_put_same (F.CH_CMD_STAT_RESULT ch) code (by simp [Fld.Ok, F.CH_CMD_STAT_RESULT])]
  exact Nat.mod_eq_of_lt h

/-- Whatever its opcode, a refused command reaches RESULT alone. -/
theorem cmdWrite_refused {i : Init} {ch code : Nat} {s : State} (hch : ch < 192)
    (hw : s.blk.writable i (R.CH_CMD ch) = true) (hcode : s.blk.preCheck ch = some code) (op duty : Nat) :
    ∃ t, cmdWrite i ch op duty s = .next t ∧ t.blk.fld (F.CH_CMD_STAT_RESULT ch) = code ∧
      RegsSame s.blk t.blk [R.CH_CMD_STAT ch] ∧ t.blk.chan = s.blk.chan ∧ t.mem = s.mem ∧ t.pending = s.pending := by
  have hacked : s.blk.acked.preCheck ch = some code := hcode
  have hlt : code < 16 := by
    have := Blk.code_of_preCheck hcode
    omega
  refine ⟨s.withBlk (s.blk.acked.res ch code), ?_, s.blk.acked.result_res ch hlt,
    s.blk.acked.regsSame_put (F.CH_CMD_STAT_RESULT ch) code, rfl, rfl, rfl⟩
  rw [cmdWrite_writable hch hw, Blk.immediate_refused hacked]

/-- Settles O27: the first checks come before anything that the opcode tells. -/
theorem refusedChannelCommand : Obligations.RefusedChannelCommand := by
  intro i ch duty op code s hch hw hcode
  have hcmd := cmdWrite_refused hch hw hcode
  simp only [List.forall_mem_cons]
  exact ⟨hcmd 0 0, hcmd 1 0, hcmd 2 0, hcmd 3 (duty % 4096), hcmd 4 0, hcmd 5 (duty % 4096), hcmd 6 0,
    hcmd (7 + op % 9) (duty % 4096), List.forall_mem_nil _⟩

end Sys2Proof.Machine
end

section
/-!
PROOFS. The commands of the channels' protection, of its writes and of the keeper (R35, R147, R152, R156 to R159,
R161 to R163, R165, R166).
-/

namespace Sys2Proof.Machine

/-- An event of unit `n`, one of the first `k`, performs its operation on the block. -/
theorem onBlk_unit {n k : Nat} (hn : n < k) (s : State) (f : Blk → Blk) :
    onBlk (n < k) s f = .next (s.withBlk (f s.blk)) := onBlk_withBlk (decide_eq_true hn) s f

/-- An accepted write of a register of unit `n` performs its operation on the block that has acknowledged it. -/
theorem onBlk_unit_onWrite {n k : Nat} (hn : n < k) {s : State} {i : Init} {a : Nat}
    (hw : s.blk.writable i a = true) (v : W32) (f : Blk → Blk) :
    onBlk (n < k) s (fun b => b.onWrite i a v f) = .next (s.withBlk (f s.blk.acked)) :=
  onBlk_onWrite (decide_eq_true hn) hw v f

/-- Settles O37: all are events, each of a channel or of a die that exists. -/
theorem channelProtectionEvents : Obligations.ChannelProtectionEvents := by
  dsimp only [Obligations.ChannelProtectionEvents, exec]
  refine ⟨?shortCircuitDetect, ?overTemperatureDetect, ?autoRestart, ?wireModelUpdate, ?bankLowSet, ?bankLowClear,
    ?bankResume, ?retryQuietExpiry, ?onStateOpenLoad, ?offStateTestStart, ?offStateOpenLoad, ?offStateOpenLoadEnd⟩
  case overTemperatureDetect => exact fun ch t s hch => onBlk_unit hch s _
  case shortCircuitDetect | autoRestart | retryQuietExpiry | onStateOpenLoad | offStateTestStart | offStateOpenLoad
      | offStateOpenLoadEnd => exact fun ch s hch => onBlk_unit hch s _
  case wireModelUpdate | bankLowSet | bankLowClear | bankResume => exact fun n s hn => onBlk_unit hn s _

/-- Settles O38: the clears, AMB and the keepalive are accepted writes, the others events of a die or of the keeper. -/
theorem protectionAndKeeperCommands : Obligations.ProtectionAndKeeperCommands := by
  dsimp only [Obligations.ProtectionAndKeeperCommands, exec]
  refine ⟨?latchClear, ?retryClear, ?ambWrite, ?ambStale, ?keepAlive, ?keeperTimeout, ?sequencerStall, ?configCrcCheck⟩
  case latchClear | retryClear => exact fun i ch s hch hw => onBlk_unit_onWrite hch hw _ _
  case ambWrite => exact fun i n v s hn hw => onBlk_unit_onWrite hn hw v _
  case keepAlive => exact fun i key s hw => onBlk_onWrite rfl hw _ _
  case keeperTimeout => exact fun s => onBlk_withBlk rfl s _
  case ambStale => exact fun n s hn => onBlk_unit hn s _
  case sequencerStall => exact fun n calBad s hn => onBlk_unit hn s _
  case configCrcCheck => exact fun n mismatch calBad s hn => onBlk_unit hn s _

end Sys2Proof.Machine
end

section
/-!
PROOFS. The commands of the measurements and of the general inputs (R186, R189, R191, R195 to R200, R224, R585).
-/

namespace Sys2Proof.Machine

/-- An accepted ECLR is taken for the next sample on a die that is not halted (R166, R191). -/
theorem exec_energyClear {i : Init} {ch : Nat} {s : State} (hch : ch < 192)
    (hw : s.blk.writable i (R.CH_MCTL ch) = true) (hrun : s.blk.halted (ch / 16) = false) :
    exec (.energyClear i ch) s = .next (s.withBlk (s.blk.acked.setChan ch { s.blk.chanOf ch with eclr := true })) := by
  have hacked : ¬ s.blk.acked.halted (ch / 16) = true := ne_true_of_eq_false hrun
  dsimp only [exec, execEnergyClear]
  rw [onBlk_unit_onWrite hch hw, if_neg hacked]
  rfl

/-- Settles O39: samples, windows and reports are events, the others accepted writes. -/
theorem measurementCommands : Obligations.MeasurementCommands := by
  dsimp only [Obligations.MeasurementCommands, exec]
  refine ⟨?currentSample, ?windowClose, ?wcfgWrite, ?dieMeasPhaseWrite, ?energyClear, ?dissipationReport⟩
  case currentSample => exact fun n vbank xs s hn => onBlk_unit hn s _
  case windowClose => exact fun ch s hch => onBlk_unit hch s _
  case wcfgWrite => exact fun i ch v s hch hw => onBlk_unit_onWrite hch hw v _
  case dieMeasPhaseWrite => exact fun i n v s hn hw => onBlk_unit_onWrite hn hw v _
  case energyClear => exact fun i ch s hch hw hrun => exec_energyClear hch hw hrun
  case dissipationReport => exact fun s => onBlk_withBlk rfl s _

/-- The write of a source's enable register is made at the address that the source names (R583, R585). -/
theorem exec_interruptEnableWrite {i : Init} {src a : Nat} {e f : Fld} {s : State}
    (hsrc : msgEnable src = some (e, a, f)) (hw : s.blk.writable i a = true) (v : W32) :
    exec (.interruptEnableWrite i src v) s = .next (s.withBlk (s.blk.acked.enableWrite src v)) := by
  dsimp only [exec, execInterruptEnableWrite]
  rw [hsrc]
  exact onBlk_onWrite rfl hw v _

/-- Settles O40: all are events of an input that exists, but for the writes of DI_EVT and of an enable register. -/
theorem inputCommands : Obligations.InputCommands := by
  dsimp only [Obligations.InputCommands, exec]
  refine ⟨?inputRawEdge, ?debounceExpiry, ?chatterWindowEnd, ?stuckDetect, ?stormPeriodExpiry, ?wakeAcknowledge,
    ?analogInputUpdate, ?interruptEnableWrite, ?chatterLevelSample⟩
  case inputRawEdge | analogInputUpdate => exact fun n mv s hn => onBlk_unit hn s _
  case debounceExpiry | chatterWindowEnd | stuckDetect | stormPeriodExpiry | chatterLevelSample =>
    exact fun n s hn => onBlk_unit hn s _
  case wakeAcknowledge => exact fun i n v s hn hw => onBlk_unit_onWrite hn hw _ _
  case interruptEnableWrite => exact fun i src a v e f s hsrc hw => exec_interruptEnableWrite hsrc hw v

end Sys2Proof.Machine
end

section
/-!
PROOFS. LEVEL and STUCK of a general input (R196 to R198): the events, wakes and timestamps that go with a change of the
accepted level leave both, and STUCK ends with the active level.
-/

namespace Sys2Proof.Machine

theorem RegsSame.mono {b c : Blk} {l m : List Nat} (h : RegsSame b c l) (hlm : l ⊆ m) : RegsSame b c m :=
  fun a ha => h a fun hl => ha (hlm hl)

/-- Registers held alike read alike. -/
theorem regsSame_of_regs {b c : Blk} (h : c.regs = b.regs) : RegsSame b c [] :=
  fun a _ => congrArg (Sparse.get regReset · a) h

theorem RegsSame.fld {b c : Blk} {l : List Nat} (h : RegsSame b c l) {f : Fld} (hf : f.a ∉ l) : c.fld f = b.fld f :=
  congrArg f.get (h f.a hf)

/-! ## Events -/

/-- An event bit of an input, and the message it may send, reach DI_EVT alone. -/
theorem Blk.regsSame_diEvt (b : Blk) (n k : Nat) : RegsSame b (b.diEvt n k) [R.DI_EVT n] :=
  (b.regsSame_put ⟨R.DI_EVT n, 6, 0⟩ _).trans
    ((regsSame_of_regs (b.event_regs ⟨R.DI_EVT n, 6, 0⟩ _ k _)).mono (List.nil_subset _))

/-- The event bit reads 1 at once. -/
theorem Blk.fld_diEvt (b : Blk) (n : Nat) {k : Nat} (hk : k < 7) :
    ((b.diEvt n k).fld ⟨R.DI_EVT n, 6, 0⟩).testBit k = true := by
  have hsame := (regsSame_of_regs (b.event_regs ⟨R.DI_EVT n, 6, 0⟩ (F.DI_EVT_IEN n) k (0xc0 + n))).fld
    (f := ⟨R.DI_EVT n, 6, 0⟩) List.not_mem_nil
  rw [Blk.diEvt, hsame]
  exact b.setBit_fld _ _ ⟨Nat.zero_le _, show 6 < 32 by decide⟩ hk

theorem R.DI_STAT_notMem_DI_EVT (n : Nat) : R.DI_STAT n ∉ [R.DI_EVT n] := by simp [R.DI_STAT, R.DI_EVT]

theorem R.DI_STAT_notMem_DI_TS (n : Nat) : R.DI_STAT n ∉ [R.DI_TS n] := by simp [R.DI_STAT, R.DI_TS]

/-! ## The three state bits of an input -/

/-- LEVEL, CHATTER and STUCK of input `n`, bits 0 to 2 of DI_STAT (R219), are in `c` as in `b`. -/
def SameLevel (n : Nat) (b c : Blk) : Prop :=
  ∀ k < 3, c.fld ⟨R.DI_STAT n, k, k⟩ = b.fld ⟨R.DI_STAT n, k, k⟩

theorem SameLevel.trans {n : Nat} {b c d : Blk} (hbc : SameLevel n b c) (hcd : SameLevel n c d) : SameLevel n b d :=
  fun k hk => (hcd k hk).trans (hbc k hk)

theorem RegsSame.sameLevel {n : Nat} {b c : Blk} {l : List Nat} (h : RegsSame b c l) (hl : R.DI_STAT n ∉ l) :
    SameLevel n b c := fun _ _ => h.fld hl

theorem sameLevel_of_regs {n : Nat} {b c : Blk} (h : c.regs = b.regs) : SameLevel n b c :=
  (regsSame_of_regs h).sameLevel List.not_mem_nil

/-- A field of DI_STAT above the three bits. -/
theorem Blk.sameLevel_put (b : Blk) {n hi lo : Nat} (hlo : 3 ≤ lo) (hf : lo ≤ hi ∧ hi < 32) (v : Nat) :
    SameLevel n b (b.put ⟨R.DI_STAT n, hi, lo⟩ v) :=
  fun _ hk => b.fld_put_other _ _ v hf ⟨le_rfl, hk.trans (by decide)⟩ (.inr (hk.trans_le hlo))

theorem Blk.sameLevel_diEvt (b : Blk) (n k : Nat) : SameLevel n b (b.diEvt n k) :=
  (b.regsSame_diEvt n k).sameLevel (R.DI_STAT_notMem_DI_EVT n)

/-- A wake waits to be taken by UH, outside the registers. -/
theorem Blk.wakeFrom_regs (b : Blk) (code : Nat) : (b.wakeFrom code).regs = b.regs := by
  unfold Blk.wakeFrom
  split <;> rfl

/-- The storm guard counts in STORM_CNT and disables by WAKE_DIS (R200). -/
theorem Blk.sameLevel_diStorm (b : Blk) (n : Nat) : SameLevel n b (b.diStorm n) := by
  unfold Blk.diStorm
  extract_lets k x b1 b2
  have hstart : SameLevel n b b1 := by
    unfold b1
    split <;> exact sameLevel_of_regs rfl
  have hcount : SameLevel n b b2 :=
    hstart.trans (b1.sameLevel_put (hi := 19) (lo := 16) (by decide) (by decide) _)
  split
  case isTrue disables =>
    have hdis : SameLevel n b2 (b2.put (F.DI_STAT_WAKE_DIS n) 1) :=
      b2.sameLevel_put (hi := 3) (lo := 3) (by decide) (by decide) 1
    have hevt := hdis.trans (Blk.sameLevel_diEvt _ n 5)
    refine (hcount.trans hevt).trans (sameLevel_of_regs ?raising)
    exact Blk.raiseF_regs _ 243 n
  case isFalse enabled => exact hcount

/-- A wake of input `n` is an event and a count of the storm guard (R199, R200). -/
theorem Blk.sameLevel_diWake (b : Blk) (n : Nat) (v : Bool) : SameLevel n b (b.diWake n v) := by
  unfold Blk.diWake
  split
  case isTrue wakes =>
    have hdue : SameLevel n b (b.wakeFrom (0x30 + n)) := sameLevel_of_regs (b.wakeFrom_regs (0x30 + n))
    exact (hdue.trans (Blk.sameLevel_diEvt _ n 4)).trans (Blk.sameLevel_diStorm _ n)
  case isFalse unarmed => exact sameLevel_of_regs rfl

/-! ## The accepted level -/

/-- An active level that becomes inactive ends STUCK (R198). -/
theorem Blk.diLevel_inactive {b : Blk} {n : Nat} (hactive : b.fld (F.DI_STAT_LEVEL n) = 1) :
    (b.diLevel n false).fld (F.DI_STAT_STUCK n) = 0 ∧ (b.diLevel n false).fld (F.DI_STAT_LEVEL n) = 0 ∧
      RegsSame b (b.diLevel n false) [R.DI_STAT n] := by
  set c := (b.putB (F.DI_STAT_LEVEL n) false).setInput n { b.inputOf n with actAt := b.clk }
  have hlevel : c.fld (F.DI_STAT_LEVEL n) = 0 :=
    b.fld_put_same (F.DI_STAT_LEVEL n) 0 (by simp [Fld.Ok, F.DI_STAT_LEVEL])
  have hdiff : b.diLevel n false = c.put (F.DI_STAT_STUCK n) 0 := by
    simp [Blk.diLevel, Blk.on, hactive, c]
  rw [hdiff]
  refine ⟨c.fld_put_same _ 0 ?stuckOk, (c.fld_put_other _ _ 0 ?stuckOk ?levelOk ?apart).trans hlevel,
    (b.regsSame_put (F.DI_STAT_LEVEL n) 0).trans (c.regsSame_put (F.DI_STAT_STUCK n) 0)⟩
  all_goals simp [Fld.Ok, F.DI_STAT_LEVEL, F.DI_STAT_STUCK]

/-- An ignition cycle begins with the active level alone (R201). -/
theorem Blk.diIgnition_inactive (b : Blk) (n : Nat) : b.diIgnition n false = b := rfl

/-- What comes with an accepted change of the level to inactive leaves LEVEL and STUCK as the change made them. -/
theorem Blk.diAccept_inactive {b : Blk} {n : Nat} (hdig : b.fld (F.DI_CFG_MODE n) = 1)
    (hactive : b.fld (F.DI_STAT_LEVEL n) = 1) (hcalm : b.fld (F.DI_STAT_CHATTER n) = 0)
    (hraw : (b.inputOf n).raw = false) (hdeb : (b.inputOf n).rawAt + b.diDeb n ≤ b.clk) :
    SameLevel n (b.diLevel n false) (b.diAccept n) := by
  unfold Blk.diAccept
  extract_lets x b1 b2
  have hok : (b.diDigital n && !b.on (F.DI_STAT_CHATTER n) && x.raw != b.on (F.DI_STAT_LEVEL n) &&
      x.rawAt + b.diDeb n ≤ b.clk) = true := by
    simp [Blk.diDigital, Blk.on, x, hdig, hactive, hcalm, hraw, hdeb]
  rw [if_pos hok]
  have hb1 : b1 = b.diLevel n false := congrArg (b.diLevel n) hraw
  have hstamp : SameLevel n b1 b2 := by
    have hvalid (c : Blk) (v : Nat) : SameLevel n c (c.put (F.DI_STAT_TS_VALID n) v) :=
      c.sameLevel_put (hi := 5) (lo := 5) (by decide) (by decide) v
    unfold b2
    split
    case h_1 t _ =>
      have hts : SameLevel n b1 (b1.put (F.DI_TS_TS n) t) :=
        (b1.regsSame_put (F.DI_TS_TS n) t).sameLevel (R.DI_STAT_notMem_DI_TS n)
      have hep : SameLevel n b1 ((b1.put (F.DI_TS_TS n) t).put (F.DI_STAT_TS_EP n) (t / 2 ^ 32)) :=
        hts.trans (Blk.sameLevel_put _ (hi := 7) (lo := 7) (by decide) (by decide) _)
      exact hep.trans (hvalid _ 1)
    case h_2 => exact hvalid b1 0
  have hinactive : x.raw = false := hraw
  rw [← hb1, hinactive, Blk.diIgnition_inactive]
  exact (hstamp.trans (b2.sameLevel_diEvt n _)).trans (Blk.sameLevel_diWake _ n false)

/-- STUCK is reported by its event bit and its fault (R198, R220), and no register but DI_STAT and DI_EVT changes. -/
theorem Blk.stuck_reported (b : Blk) (n : Nat) {c : Blk}
    (hc : c = ((b.put (F.DI_STAT_STUCK n) 1).diEvt n 3).raiseF 244 n) :
    c.fld (F.DI_STAT_STUCK n) = 1 ∧ (c.fld ⟨R.DI_EVT n, 6, 0⟩).testBit 3 = true ∧
      (∃ r ∈ c.fcuIn ++ c.held, r.src = 244) ∧ RegsSame b c [R.DI_STAT n, R.DI_EVT n] := by
  set d := b.put (F.DI_STAT_STUCK n) 1
  have hput : RegsSame b d [R.DI_STAT n] := b.regsSame_put (F.DI_STAT_STUCK n) 1
  have hset : d.fld (F.DI_STAT_STUCK n) = 1 := b.fld_put_same _ 1 (by simp [Fld.Ok, F.DI_STAT_STUCK])
  have hevt : RegsSame d (d.diEvt n 3) [R.DI_EVT n] := d.regsSame_diEvt n 3
  have hraise : RegsSame (d.diEvt n 3) c [] := regsSame_of_regs (hc ▸ Blk.raiseF_regs ..)
  refine ⟨?stuck, ?event, hc ▸ Blk.raiseF_mem .., ?frame⟩
  case stuck => rw [hraise.fld List.not_mem_nil, hevt.fld (R.DI_STAT_notMem_DI_EVT n), hset]
  case event => rw [hraise.fld List.not_mem_nil, d.fld_diEvt n (by decide)]
  case frame => exact ((hput.mono (by simp)).trans (hevt.mono (by simp))).trans (hraise.mono (by simp))

/-- STUCK_T has passed since the level of a digital input became active (R198). -/
theorem Blk.diStuck_eq {b : Blk} {n : Nat} (hdig : b.fld (F.DI_CFG_MODE n) = 1)
    (ht : b.fld F.DI_GCFG_STUCK_T ≠ 0) (hactive : b.fld (F.DI_STAT_LEVEL n) = 1)
    (hfree : b.fld (F.DI_STAT_STUCK n) = 0)
    (hlong : (b.inputOf n).actAt + b.fld F.DI_GCFG_STUCK_T * tickSec ≤ b.clk) :
    b.diStuck n = ((b.put (F.DI_STAT_STUCK n) 1).diEvt n 3).raiseF 244 n := by
  simp [Blk.diStuck, Blk.diDigital, Blk.on, hdig, ht, hactive, hfree, hlong]

/-- The chatter sample takes the raw level (R197). -/
theorem Blk.diSample_eq {b : Blk} {n : Nat} (hdig : b.fld (F.DI_CFG_MODE n) = 1)
    (hchat : b.fld (F.DI_STAT_CHATTER n) = 1) (hdue : (b.inputOf n).sampAt + 10 * tickMs ≤ b.clk) :
    b.diSample n = (b.setInput n { b.inputOf n with sampAt := b.clk }).diLevel n (b.inputOf n).raw := by
  simp [Blk.diSample, Blk.diDigital, Blk.on, hdig, hchat, hdue]

/-- Settles O17: the level's own change writes STUCK, and what the change sets off, by debounce its timestamp, event and
wake, by the chatter sample nothing, leaves STUCK and LEVEL. -/
theorem stuckInput : Obligations.StuckInput := by
  intro n s hn hdig
  obtain ⟨-, hdebounceExpiry, -, hstuckDetect, -, -, -, -, hchatterLevelSample⟩ := inputCommands
  refine ⟨fun ht hactive hfree hlong => ?stuck, fun hactive hcalm hraw hdeb => ?debounce,
    fun hactive hchat hraw hdue => ?sample⟩
  case stuck =>
    obtain ⟨hset, hevt, hraised, hsame⟩ := s.blk.stuck_reported n (Blk.diStuck_eq hdig ht hactive hfree hlong)
    exact ⟨_, hstuckDetect n s hn, hset, hevt, hraised, hsame, rfl, rfl⟩
  case debounce =>
    obtain ⟨hstuck, hlevel, -⟩ := Blk.diLevel_inactive hactive
    have hsame := Blk.diAccept_inactive hdig hactive hcalm hraw hdeb
    exact ⟨_, hdebounceExpiry n s hn, (hsame 2 (by decide)).trans hstuck, (hsame 0 (by decide)).trans hlevel, rfl, rfl⟩
  case sample =>
    have hsample := Blk.diSample_eq hdig hchat hdue
    rw [hraw] at hsample
    obtain ⟨hstuck, hlevel, hsame⟩ :=
      Blk.diLevel_inactive (b := s.blk.setInput n { s.blk.inputOf n with sampAt := s.blk.clk }) hactive
    rw [← hsample] at hstuck hlevel hsame
    exact ⟨_, hchatterLevelSample n s hn, hstuck, hlevel, hsame, rfl, rfl⟩

end Sys2Proof.Machine
end

section
/-!
PROOFS. The commands of the weighbridge and its slots, and of the dispatcher (R223, R228, R233, R238 to R240, R244 to
R248, R261).
-/

namespace Sys2Proof.Machine

/-! ## The weighbridge -/

/-- The row of the other kinds asks for KIND as it stands where KIND is neither 1 nor 2, the kinds that have rows of
their own (R261). -/
theorem exec_slotRequestInvalid {i : Init} {k kind : Nat} {s : State} (hk : k < 16)
    (hw : s.blk.writable i (R.WBG_SLOT_REQ k) = true) (hmin : 3 ≤ kind) (hmax : kind < 16) :
    exec (.slotRequestInvalid i k kind) s = .next (s.withBlk (s.blk.acked.slotReq i k kind 0 0)) := by
  have hasked : (if kind % 16 = 1 ∨ kind % 16 = 2 then 0 else kind % 16) = kind := by
    rw [Nat.mod_eq_of_lt hmax, if_neg (by omega)]
  dsimp only [exec, execSlotRequestInvalid]
  rw [hasked, onBlk_unit_onWrite hk hw]

/-- Settles O41: rounds, measurements, reports and further revocations are events, the requests and releases of a slot
accepted writes. -/
theorem weighbridgeCommands : Obligations.WeighbridgeCommands := by
  dsimp only [Obligations.WeighbridgeCommands, exec]
  refine ⟨?evaluationRound, ?kcPowerMeasurement, ?revocationAction, ?thermalModelUpdate, ?budgetReport,
    ?frequencyStepRequest, ?mramBulkWriteRequest, ?slotRequestInvalid, ?slotRelease⟩
  case evaluationRound | revocationAction => exact fun s => onBlk_withBlk rfl s _
  case kcPowerMeasurement => exact fun p s => onBlk_withBlk rfl s _
  case thermalModelUpdate => exact fun kc uh bf lid s => onBlk_withBlk rfl s _
  case budgetReport => exact fun uh fl s => onBlk_withBlk rfl s _
  case frequencyStepRequest => exact fun i k step s hk hw => onBlk_unit_onWrite hk hw _ _
  case mramBulkWriteRequest => exact fun i k dp s hk hw => onBlk_unit_onWrite hk hw _ _
  case slotRequestInvalid => exact fun i k kind s hk hw hmin hmax => exec_slotRequestInvalid hk hw hmin hmax
  case slotRelease => exact fun i k s hk hw => onBlk_unit_onWrite hk hw _ _

/-! ## The dispatcher -/

/-- The end that an initiator outside Recut mode writes takes effect at once, with no slice to end (R247). -/
theorem exec_dispEnd {i : Init} {n : Nat} {s : State} (hn : n < 8) (hw : s.blk.writable i (R.DISP_END n) = true)
    (hdirect : s.blk.recutInit i = none) :
    exec (.dispEnd i n) s = .next (s.withBlk (s.blk.acked.endTask n)) := by
  dsimp only [exec, execDispEnd]
  rw [onBlk_unit hn, hdirect, Blk.onWrite_accepted hw, Blk.acked]

/-- Settles O42: releases by time and by event and both dispatches are events of a safety core that exists, the others
accepted writes of its dispatcher. -/
theorem dispatcherCommands : Obligations.DispatcherCommands := by
  dsimp only [Obligations.DispatcherCommands, exec]
  refine ⟨?periodicRelease, ?eventRelease, ?dispRelease, ?dispatch, ?deferralBoundDispatch, ?dispEnd, ?dispTableWrite⟩
  case periodicRelease => exact fun n i s hn hi => onBlk_withBlk (by simp [hn, hi]) s _
  case eventRelease => exact fun n id s hn => onBlk_unit hn s _
  case dispRelease => exact fun i n idx s hn hw => onBlk_unit_onWrite hn hw _ _
  case dispatch | deferralBoundDispatch => exact fun n s hn => onBlk_unit hn s _
  case dispEnd => exact fun i n s hn hw hdirect => exec_dispEnd hn hw hdirect
  case dispTableWrite => exact fun i n idx w v s hn hidx hword hw => onBlk_onWrite (by simp [hn, hidx, hword]) hw v _

end Sys2Proof.Machine
end

section
/-!
PROOFS. The commands of the switch fabric (R274, R280, R290 to R292, R295, R296, R300, R344).
-/

namespace Sys2Proof.Machine

/-- An event of a unit that exists performs its operation on the block and memory. -/
theorem onMem_unit {n k : Nat} (hn : n < k) (s : State) (f : Blk → List Host.Cell → Blk × List Host.Cell) :
    onMem (n < k) s f = .next (s.withMem (f s.blk s.mem)) := by
  rw [decide_eq_true hn, onMem_withMem]

/-- Settles O43: all but the accepted write of SWC_FAB_CTL are events, some of a port or of a queue that exists; the end
of a transmission is the one that reaches memory. -/
theorem fabricCommands : Obligations.FabricCommands := by
  dsimp only [Obligations.FabricCommands, exec]
  refine ⟨?fabricEnableWrite, ?fabricSlot, ?resequenceTimeout, ?frameTransmitStart, ?linkDownReport, ?linkUpReport,
    ?graceExpiry, ?spoilAuditStart, ?spoilAuditComplete, ?frameTransmitEnd⟩
  case fabricEnableWrite => exact fun i v s hw => onBlk_onWrite rfl hw v _
  case fabricSlot => exact fun badA badB s => onBlk_withBlk rfl s _
  case resequenceTimeout => exact fun o p s ho hp => onBlk_withBlk (by simp [ho, hp]) s _
  case frameTransmitStart => exact fun p ecc s hp => onBlk_unit hp s _
  case linkDownReport | linkUpReport => exact fun p s hp => onBlk_unit hp s _
  case graceExpiry => exact fun o tc s ho htc => onBlk_withBlk (by simp [ho, htc]) s _
  case spoilAuditStart => exact fun s => onBlk_withBlk rfl s _
  case spoilAuditComplete => exact fun n fix dbl s => onBlk_withBlk rfl s _
  case frameTransmitEnd => exact fun p s hp => onMem_unit hp s _

end Sys2Proof.Machine
end

section
/-!
PROOFS. The commands of the forwarding engine, the MAC table and the gateway (R325, R333, R343, R356, R359, R361).
-/

namespace Sys2Proof.Machine

/-- Settles O44: the commands of the MAC table are accepted writes of MAC_CMD, each with its own OP and the index of an
entry that exists, and the seed is one of FWD_CTL; the others are events. -/
theorem forwardingCommands : Obligations.ForwardingCommands := by
  dsimp only [Obligations.ForwardingCommands, exec]
  refine ⟨?frameLookup, ?agingSweep, ?recoveryFunctionReset, ?macReadEntry, ?macWriteEntry, ?macSearch, ?macInsert,
    ?macDelete, ?macFlushPort, ?macCmdInvalid, ?macCmdComplete, ?seedWrite, ?cgFrameReceive⟩
  case frameLookup => exact fun p head l dur s hp => onBlk_unit hp s _
  case recoveryFunctionReset => exact fun n s hn => onBlk_unit hn s _
  case macReadEntry | macWriteEntry | macSearch | macInsert | macDelete | macFlushPort | macCmdInvalid =>
    exact fun i ix s hix hw => onBlk_unit_onWrite hix hw _ _
  case seedWrite => exact fun i v s hw => onBlk_onWrite rfl hw v _
  case agingSweep | macCmdComplete | cgFrameReceive => exact fun s => onBlk_withBlk rfl s _

end Sys2Proof.Machine
end

section
/-!
PROOFS. The commands of the gate lists and the Ethernet ports (R346, R347, R369 to R371, R373 to R376, R378).
-/

namespace Sys2Proof.Machine

/-- A switch of gate lists overruns no frame where the port sends none (R347). -/
theorem Blk.listSwitch_idle {b : Blk} {p : Nat} (hidle : ((b.shapeAll p).qbvSwitch p).txOf p = []) :
    b.listSwitch p = (b.shapeAll p).qbvSwitch p := by
  simp [Blk.listSwitch, hidle]

/-- So the switch of an idle port counts its shapers up and exchanges its lists, and does no more. -/
theorem exec_gateListSwitch_idle {p : Nat} {s : State} (hp : p < 29)
    (hidle : ((s.blk.shapeAll p).qbvSwitch p).txOf p = []) :
    exec (.gateListSwitch p) s = .next (s.withBlk ((s.blk.shapeAll p).qbvSwitch p)) := by
  dsimp only [exec, execGateListSwitch]
  rw [onBlk_unit hp, Blk.listSwitch_idle hidle]

/-- Settles O45: the change of a gate list and the reset of CT are accepted writes, the others events of a port that
exists, a pause's expiry one of a port and a class. -/
theorem portCommands : Obligations.PortCommands := by
  dsimp only [Obligations.PortCommands, exec]
  refine ⟨?gateEntryBoundary, ?qbvChange, ?gateListSwitch, ?gateListSwitchIdle, ?phyLinkChange, ?linkTrainingDone,
    ?trainingRetry, ?frameReceiveEnd, ?pauseExpiry, ?pauseTransmit, ?pauseRefresh, ?launchTimeReached,
    ?transmitUnderrun, ?ctDecay, ?ctReset, ?preemptionVerify⟩
  case qbvChange => exact fun i p s hp hw => onBlk_unit_onWrite hp hw _ _
  case ctReset => exact fun i p v s hp hw => onBlk_unit_onWrite hp hw v _
  case gateListSwitchIdle => exact fun p s hp hidle => exec_gateListSwitch_idle hp hidle
  case frameReceiveEnd => exact fun p l fcs dur s hp => onBlk_unit hp s _
  case pauseExpiry => exact fun p tc s hp htc => onBlk_withBlk (by simp [hp, htc]) s _
  case phyLinkChange | linkTrainingDone | preemptionVerify => exact fun p result s hp => onBlk_unit hp s _
  case launchTimeReached => exact fun p ecc s hp => onBlk_unit hp s _
  case gateEntryBoundary | gateListSwitch | trainingRetry | pauseTransmit | pauseRefresh | transmitUnderrun | ctDecay =>
    exact fun p s hp => onBlk_unit hp s _

end Sys2Proof.Machine
end

section
/-!
PROOFS. The commands of TC10, of PLCA and of the host ports (R383 to R386, R388, R389, R393).
-/

namespace Sys2Proof.Machine

/-- Settles O46: requests of TC10 and writes of a queue pair are accepted writes, the others events of a port or of a
queue pair that exists; the transfers of host frames are the two that reach memory. -/
theorem tc10AndHostCommands : Obligations.Tc10AndHostCommands := by
  dsimp only [Obligations.Tc10AndHostCommands, exec]
  refine ⟨?tc10SleepRequest, ?tc10SleepAccepted, ?tc10SleepTimeout, ?tc10PartnerSleep, ?tc10WakePulse,
    ?tc10WakeRequest, ?qpTxTailWrite, ?hostTxFrame, ?hostLaunchPass, ?hostRxFrame, ?qpEnableWrite,
    ?qpCoalesceTimeout, ?duplicateNodeId⟩
  case tc10SleepRequest | tc10WakeRequest => exact fun i p v s hp hw => onBlk_unit_onWrite hp hw v _
  case qpTxTailWrite | qpEnableWrite => exact fun i q v s hq hw => onBlk_unit_onWrite hq hw v _
  case tc10SleepAccepted | tc10SleepTimeout | tc10PartnerSleep | tc10WakePulse =>
    exact fun p s hp => onBlk_unit hp s _
  case hostLaunchPass => exact fun hp s hhp => onBlk_unit hhp s _
  case qpCoalesceTimeout => exact fun q s hq => onBlk_unit hq s _
  case hostTxFrame | hostRxFrame => exact fun hp s hhp => onMem_unit hhp s _
  case duplicateNodeId => exact fun p s hmin hmax => onBlk_withBlk (by simp [hmin, hmax]) s _

end Sys2Proof.Machine
end

section
/-!
PROOFS. The pop registers of the wake recorder, of the PTP timestamps, of the CAN receive FIFOs and of the fault log
(R406, R446, R467, R654): each pop takes the head of its FIFO, and the display of the new head is no part of any FIFO.
-/

namespace Sys2Proof.Machine

theorem Blk.wkSync_wkFifo (b : Blk) : b.wkSync.wkFifo = b.wkFifo := by simp [Blk.wkSync]

theorem Blk.fld_wkSync_count (b : Blk) : b.wkSync.fld F.WK_STAT_COUNT = b.wkFifo.length % 64 :=
  Blk.fld_put_same _ F.WK_STAT_COUNT _ (by decide)

theorem Blk.wkPop_wkFifo (b : Blk) : b.wkPop.wkFifo = b.wkFifo.tail := Blk.wkSync_wkFifo _

theorem Blk.fld_wkPop_count (b : Blk) : b.wkPop.fld F.WK_STAT_COUNT = b.wkFifo.tail.length % 64 :=
  Blk.fld_wkSync_count _

@[simp] theorem Blk.ptsOf_setPts (b : Blk) (p : Nat) (l : List Pts) : (b.setPts p l).ptsOf p = l := by
  cases l <;> simp [Blk.setPts, Blk.ptsOf]

@[simp] theorem Blk.setWords_k (b : Blk) (a : Nat) (l : List W32) : (b.setWords a l).k = b.k := by
  induction l generalizing b a with
  | nil => rfl
  | cons w l ih => exact ih _ _

/-- By rewriting, one register after the other: unfolding them all would compare the words shown as numerals. -/
@[simp] theorem Blk.fifoSync_k (b : Blk) (n : Nat) : (b.fifoSync n).k = b.k := by
  unfold Blk.fifoSync
  dsimp only
  split <;> rw [Blk.setWords_k, Blk.setReg_k, Blk.setReg_k, Blk.setReg_k, Blk.put_k]

@[simp] theorem Blk.canOf_setCan (b : Blk) (n : Nat) (x : CanCtl) : (b.setCan n x).canOf n = x := by
  simp [Blk.canOf, Blk.setCan]

theorem Blk.canOf_of_k {b c : Blk} (h : c.k = b.k) (n : Nat) : c.canOf n = b.canOf n := by
  rw [Blk.canOf, h, Blk.canOf]

theorem Blk.fifo_fifoPop (b : Blk) (n : Nat) : ((b.fifoPop n).canOf n).fifo = (b.canOf n).fifo.tail := by
  rw [Blk.fifoPop, Blk.canOf_of_k (Blk.fifoSync_k _ n), Blk.canOf_setCan]

@[simp] theorem Blk.fcuSync_k (b : Blk) : b.fcuSync.k = b.k := by
  unfold Blk.fcuSync
  dsimp only
  split <;> simp

theorem Blk.log_fcuPop_one (b : Blk) : (b.fcuPop 1).k.fcu.log = b.k.fcu.log.tail := by
  have hpop : F.FCU_LOG_POP_POP.get 1 = 1 := by decide
  rw [Blk.fcuPop, if_pos hpop, Blk.fcuSync_k, Blk.setFcu]

/-- Settles O23: each pop is an accepted write, and its operation leaves the tail of the FIFO. -/
theorem popsRemoveTheOldest : Obligations.PopsRemoveTheOldest := by
  intro i n p s
  dsimp only [exec]
  refine ⟨?wakeRecorder, ?timestamps, ?canFifo, ?faultLog⟩
  case wakeRecorder =>
    exact fun hw => ⟨_, onBlk_onWrite rfl hw _ _, Blk.wkPop_wkFifo _, Blk.fld_wkPop_count _, rfl, rfl⟩
  case timestamps => exact fun hp hw => ⟨_, onBlk_unit_onWrite hp hw _ _, Blk.ptsOf_setPts _ p _, rfl, rfl⟩
  case canFifo => exact fun hn hw => ⟨_, onBlk_unit_onWrite hn hw _ _, Blk.fifo_fifoPop _ n, rfl, rfl⟩
  case faultLog => exact fun hw => ⟨_, onBlk_onWrite rfl hw _ _, Blk.log_fcuPop_one _, rfl, rfl⟩

end Sys2Proof.Machine
end

section
/-!
PROOFS. The commands of the CAN controllers and of their transceivers (R397, R402 to R406, R408 to R410, R412, R419).
-/

namespace Sys2Proof.Machine

/-- Settles O47: enabling, recovery and the message buffers are accepted writes of CAN_CTL and MB_CS, the pop one of
CAN_FIFO_POP; the ends of integration and recovery are events of a controller, which its clock gate may hold off
(R544), the timeout one of a CAN or a LIN transceiver. -/
theorem canControlCommands : Obligations.CanControlCommands := by
  dsimp only [Obligations.CanControlCommands, exec]
  refine ⟨?canEnable, ?canDisable, ?canIntegrationDone, ?canRecover, ?canRecoveryDone, ?txReq, ?abort, ?mbCodeWrite,
    ?mbLockWrite, ?canFifoPop, ?txdDominantTimeout⟩
  case canEnable | canDisable | canRecover => exact fun i n v s hn hw => onBlk_unit_onWrite hn hw _ _
  case canIntegrationDone => exact fun n s hn => onBlk_unit hn s _
  case canRecoveryDone => exact fun n k s hn => onBlk_unit hn s _
  case txReq | abort | mbCodeWrite | mbLockWrite => exact fun i n q v s hmb hw => onBlk_onWrite hmb hw _ _
  case canFifoPop => exact fun i n s hn hw => onBlk_unit_onWrite hn hw _ _
  case txdDominantTimeout => exact fun lin n s hn => onBlk_withBlk (by cases lin <;> simpa using hn) s _

/-- An event of a unit that reaches memory performs its operation on both while the unit's clock runs (R544). -/
theorem onMem_unit_gateOn {n k g : Nat} (hn : n < k) {s : State} (hg : s.blk.gateOff g = false)
    (f : Blk → List Host.Cell → Blk × List Host.Cell) :
    onMem (n < k) s (fun b m => if b.gateOff g then (b, m) else f b m) = .next (s.withMem (f s.blk s.mem)) := by
  rw [onMem_unit hn, hg, if_neg Bool.false_ne_true]

/-- Settles O48: all are events of a CAN controller or its transceiver; a frame sent or received reaches memory, where
the receive logs stand. -/
theorem canFrameEvents : Obligations.CanFrameEvents := by
  dsimp only [Obligations.CanFrameEvents, exec]
  refine ⟨?canFrameStart, ?canTxComplete, ?canArbitrationLost, ?canFrameReceive, ?canBusError, ?transceiverWake,
    ?transceiverOverTemperature⟩
  case canFrameStart | canArbitrationLost => exact fun n s hn => onBlk_unit hn s _
  case canTxComplete => exact fun n ns s hn hg => onMem_unit_gateOn hn hg _
  case canFrameReceive => exact fun n f s hn hg => onMem_unit_gateOn hn hg _
  case canBusError => exact fun n kind add s hn => onBlk_unit hn s _
  case transceiverWake => exact fun n h s hn => onBlk_unit hn s _
  case transceiverOverTemperature => exact fun n s hn => ⟨onBlk_unit hn s _, onBlk_unit hn s _⟩

end Sys2Proof.Machine
end

section
/-!
PROOFS. The commands of the LIN controllers and of their transceivers (R414 to R419).
-/

namespace Sys2Proof.Machine

/-- Settles O49: the update of a response, SLEEP_CMD and WAKE_REQ are accepted writes, the others events of a
controller or its bus. -/
theorem linCommands : Obligations.LinCommands := by
  dsimp only [Obligations.LinCommands, exec]
  refine ⟨?linSlotStart, ?linHeaderReceive, ?linResponseComplete, ?linResponseTimeout, ?linResponseUpdate, ?sleepCmd,
    ?linIdleTimeout, ?linWakePulse, ?wakeReq, ?linBusDominant⟩
  case linSlotStart | linResponseTimeout | linIdleTimeout | linWakePulse => exact fun n s hn => onBlk_unit hn s _
  case linHeaderReceive => exact fun n id meas heard s hn => onBlk_unit hn s _
  case linResponseComplete => exact fun n data sum badBit badStop s hn => onBlk_unit hn s _
  case linResponseUpdate => exact fun i n id v s hn hid hw => onBlk_onWrite (by simp [hn, hid]) hw _ _
  case sleepCmd | wakeReq => exact fun i n v s hn hw => onBlk_unit_onWrite hn hw _ _
  case linBusDominant => exact fun n s hn => ⟨onBlk_unit hn s _, onBlk_unit hn s _⟩

end Sys2Proof.Machine
end

section
/-!
PROOFS. Steps and runs: a step takes the command at the front of the queue, a command that the hardware has completes,
and an empty queue is never at a loss (assumption 1), so no run stops.
-/

namespace Sys2Proof.Machine

/-! ## One step -/

theorem step_of_pending_nil {s : State} (h : s.pending = []) : step s = .next (s.withMem (s.blk.idle s.mem)) := by
  simp [step, h, State.withMem]

theorem step_of_pending_cons {s : State} {c : Instr} {rest : List Instr} (h : s.pending = c :: rest) :
    step s = exec c ⟨s.blk, s.mem, rest⟩ := by
  simp [step, h]

/-- Settles O1: the command is the one that stands in front of the queue, and the queue's rest stays. -/
theorem stepRunsFrontCommand : Obligations.StepRunsFrontCommand := fun _ _ => step_of_pending_cons rfl

/-- Settles O2: the three cases of `Blk.idle`. -/
theorem idleStep : Obligations.IdleStep := by
  intro s hq
  rw [step_of_pending_nil hq]
  refine ⟨fun hraise => ?raising, fun hraise hwake => ?wake, fun hraise hwake => ?tick⟩
  case raising => rw [Blk.idle, if_pos hraise]; rfl
  case wake => rw [Blk.idle, if_neg (not_not.2 hraise), if_pos hwake]; rfl
  case tick => rw [Blk.idle, if_neg (not_not.2 hraise), if_neg (not_not.2 hwake)]

/-- Settles O3: a well-formed command is an operation lifted to the state, which leaves the queue. -/
theorem wellFormedCommandsComplete : Obligations.WellFormedCommandsComplete := by
  intro c s hc
  obtain ⟨f, hf⟩ := exec_eq_onMem c s
  rw [hc, onMem_withMem] at hf
  exact ⟨_, hf, rfl⟩

/-! ## Runs -/

/-- A step from a queue of commands that the hardware has goes on, and takes the first of them. -/
theorem step_of_queueOk {s : State} (hs : s.QueueOk) : ∃ t, step s = .next t ∧ t.pending = s.pending.tail := by
  cases hq : s.pending with
  | nil => exact ⟨_, step_of_pending_nil hq, hq⟩
  | cons c rest =>
    have hc : wellFormed c = true := hs c (hq ▸ List.mem_cons_self)
    obtain ⟨t, ht, hrest⟩ := wellFormedCommandsComplete c ⟨s.blk, s.mem, rest⟩ hc
    exact ⟨t, (step_of_pending_cons hq).trans ht, hrest⟩

theorem run_succ_of_step {s t : State} (h : step s = .next t) (n : Nat) :
    Host.Core.run Sys2Proof.core (n + 1) s = Host.Core.run Sys2Proof.core n t := by
  have hcore : Sys2Proof.core.step s = .next t := h
  simp only [Host.Core.run, hcore]

/-- Settles O5: by induction on the number of steps; the queue that a step leaves is a part of the one it met. -/
theorem runsTakeTheQueueInOrder : Obligations.RunsTakeTheQueueInOrder := by
  intro n
  induction n with
  | zero => exact fun s _ => ⟨s, rfl, rfl⟩
  | succ n ih =>
    intro s hs
    obtain ⟨t, hstep, htail⟩ := step_of_queueOk hs
    have ht : t.QueueOk := fun c hc => hs c (List.mem_of_mem_tail (htail ▸ hc))
    obtain ⟨u, hrun, hdrop⟩ := ih t ht
    exact ⟨u, (run_succ_of_step hstep n).trans hrun, by rw [hdrop, htail, List.drop_tail]⟩

end Sys2Proof.Machine
end

section
/-!
PROOFS. The commands of the time bases, the captures, the pulse outputs and the Tally (R426, R428, R429, R434, R436,
R438 to R440, R446), and those of the ring engines (R449, R451 to R454).
-/

namespace Sys2Proof.Machine

/-- Settles O50: SET, the offsets, the step and the controls of pulses and Tally are accepted writes, TB_NS is an
accepted read, the others are events of a time base or a pulse output. -/
theorem timeCommands : Obligations.TimeCommands := by
  dsimp only [Obligations.TimeCommands, exec]
  refine ⟨?timeBaseWrap, ?tbOffsWrite, ?tbStepWrite, ?set, ?clampTimeout, ?tbNsRead, ?timeCapture, ?ptsPop,
    ?pulseEnable, ?pulseRise, ?pulseFall, ?arm, ?armStop, ?tallyStrobe⟩
  case timeBaseWrap | clampTimeout | pulseRise | pulseFall => exact fun n s hn => onBlk_unit hn s _
  case tbOffsWrite | tbStepWrite | pulseEnable => exact fun i n v s hn hw => onBlk_unit_onWrite hn hw _ _
  case set | ptsPop => exact fun i n s hn hw => onBlk_unit_onWrite hn hw _ _
  case tbNsRead => exact fun i x s hx hr => onBlk_onRead (decide_eq_true hx) hr _
  case timeCapture => exact fun src rise s => onBlk_withBlk rfl s _
  case arm | armStop => exact fun i v s hw => onBlk_onWrite rfl hw _ _
  case tallyStrobe => exact fun s => onBlk_withBlk rfl s _

/-- Settles O51: NM_CFG, the consent and the ledger's clear are accepted writes, the others events of an engine. -/
theorem ringCommands : Obligations.RingCommands := by
  dsimp only [Obligations.RingCommands, exec]
  refine ⟨?ringEnable, ?ringFrameReceive, ?ringTypTimer, ?ringMaxTimeout, ?ringWbsExpiry, ?ringEngineBusOff,
    ?ringEngineRecovery, ?consentWrite, ?ledgerClear⟩
  case ringEnable => exact fun i n v s hn hw => onBlk_unit_onWrite hn hw v _
  case ringFrameReceive => exact fun n f s hn => onBlk_unit hn s _
  case ringTypTimer | ringMaxTimeout | ringWbsExpiry | ringEngineBusOff | ringEngineRecovery =>
    exact fun n s hn => onBlk_unit hn s _
  case consentWrite => exact fun i v s hw => onBlk_onWrite rfl hw v _
  case ledgerClear => exact fun i s hw => onBlk_onWrite rfl hw _ _

end Sys2Proof.Machine
end

section
/-!
PROOFS. The commands of device translation (R554, R557, R559, R560, R562, R565).
-/

namespace Sys2Proof.Machine

/-- A read whose length its burst admits reaches the ATU with the GEN that it carries (R551, R554). -/
theorem exec_deviceDmaRead {src u gen va n : Nat} {s : State} (hu : devExists src u = true)
    (hrun : s.blk.kcRun = true) (hn : 0 < n) (hmax : n ≤ burstLen va 64) :
    exec (.deviceDmaRequest src u gen va false [] n) s = .next (s.withMem (s.blk.dmaArrive s.mem
      ⟨src, u, s.blk.devCtx src u, gen % 256, va % 2 ^ 64, false, [], n, false⟩)) := by
  dsimp only [exec, execDeviceDmaRequest]
  rw [hu, onMem_withMem]
  simp [hrun, hn, hmax]

theorem exec_atuInvalidateDone {all range : Bool} {c v n : Nat} {s : State}
    (hinv : s.blk.k.atu.inv = some (all, range, c, v, n)) :
    exec .atuInvalidateDone s = .next (s.withBlk
      (((s.blk.put F.ATU_INV_BUSY 0).setAtu (fun a => { a with inv := none })).tlbDrop
        (fun e => all || (e.ctx == c && (!range || e.inRange v n))))) := by
  dsimp only [exec, execAtuInvalidateDone]
  refine onBlk_of_eq ?_
  rw [hinv]

/-- The count since a BUMP starts at the tick after it, so that 0 stands for no count (R560). -/
theorem exec_drainTimeout {c t : Nat} {s : State} (hc : c < 256)
    (hbump : s.blk.k.atu.bumpAt.get (fun _ => 0) c = t + 1) (hlate : t + tickMs ≤ s.blk.clk)
    (hfly : s.blk.on (F.ATU_CTX_STAT_INFLIGHT c) = true) :
    exec (.drainTimeout c) s = .next (s.withBlk
      (((s.blk.setAtu (fun a => { a with bumpAt := a.bumpAt.set (fun _ => 0) c 0 })).setBit F.ATU_EVT_EVT 2).raise
        208 c (some c))) := by
  dsimp only [exec, execDrainTimeout]
  rw [onBlk_unit hc, hbump, if_pos ⟨Nat.succ_ne_zero t, by omega, hfly⟩]

/-- Settles O55: the invalidation, the operations on a context and SYNC are accepted writes, the others events; a burst,
the end of a walk and an operation that takes effect reach memory. -/
theorem deviceTranslationCommands : Obligations.DeviceTranslationCommands := by
  dsimp only [Obligations.DeviceTranslationCommands, exec]
  refine ⟨?deviceDmaRequest, ?pageWalkComplete, ?dmaCompletion, ?atuInvalidate, ?atuInvalidateDone, ?stop, ?start,
    ?bump, ?remove, ?ctxOpIgnored, ?ctxOpDone, ?drainTimeout, ?sync, ?syncDone⟩
  case deviceDmaRequest => exact fun src u gen va n s hu hrun hn hmax => exec_deviceDmaRead hu hrun hn hmax
  case pageWalkComplete => exact fun s => onMem_withMem s _
  case dmaCompletion => exact fun s => onBlk_withBlk rfl s _
  case atuInvalidate => exact fun i all range c s hw => onBlk_onWrite rfl hw _ _
  case atuInvalidateDone => exact fun all range c v n s hinv => exec_atuInvalidateDone hinv
  case stop | start | bump | remove | ctxOpIgnored => exact fun i c s hc hw => onBlk_unit_onWrite hc hw _ _
  case ctxOpDone => exact fun c s hc => onMem_unit hc s _
  case drainTimeout => exact fun c t s hc hbump hlate hfly => exec_drainTimeout hc hbump hlate hfly
  case sync => exact fun i c v s hc hw => onBlk_unit_onWrite hc hw _ _
  case syncDone => exact fun c s hc => onBlk_unit hc s _

end Sys2Proof.Machine
end

section
/-!
PROOFS. The commands of the field bridge (R17, R576, R577, R581 to R583, R587).
-/

namespace Sys2Proof.Machine

/-- A frame that fails its CRC is counted while KC runs, the last failure of it at the link's failures (R17, R586). -/
theorem exec_linkFrameResend {l : Nat} {s : State} (hl : l < 13) (hrun : s.blk.kcRun = true) (last : Bool) :
    exec (.linkFrameResend l last) s = .next (s.withBlk
      (if last then (s.blk.incSat (F.BRG_LINK_FAIL l)).setBit F.BRG_EVT_EVT 2
        else s.blk.incSat (F.BRG_LINK_RESENT l))) := by
  dsimp only [exec, execLinkFrameResend]
  rw [onBlk_unit hl, if_pos hrun]

/-- Settles O56: all are events of the bridge, of one of its links or semaphores, or atomics of a hart. -/
theorem bridgeCommands : Obligations.BridgeCommands := by
  dsimp only [Obligations.BridgeCommands, exec]
  refine ⟨?fieldWriteApply, ?applyNotice, ?readCompletion, ?completionTimeout, ?linkFrameResend, ?fieldLr, ?fieldSc,
    ?fieldAmo, ?reservationTimeout, ?fieldInterruptMessage⟩
  case fieldWriteApply | readCompletion => exact fun k fail s => onBlk_withBlk rfl s _
  case applyNotice | completionTimeout | fieldInterruptMessage => exact fun k s => onBlk_withBlk rfl s _
  case linkFrameResend =>
    exact fun l s hl hrun => ⟨exec_linkFrameResend hl hrun false, exec_linkFrameResend hl hrun true⟩
  case fieldLr => exact fun h a s hh => onBlk_withBlk hh s _
  case fieldSc => exact fun h a v s hh => onBlk_withBlk hh s _
  case fieldAmo => exact fun h op a v s hh hmin hmax => onBlk_withBlk (by simp [hh, hmin, hmax]) s _
  case reservationTimeout => exact fun k s hk => onBlk_unit hk s _

end Sys2Proof.Machine
end

section
/-!
PROOFS. The commands of the check-value units and of the crypto queues (R598 to R600, R603, R627, R629).
-/

namespace Sys2Proof.Machine

/-- The queue of engine `k` whose bulk job is revoked pauses and asks again (R629). -/
theorem exec_cryptoBulkPause {k j : Nat} {s : State} (hk : k < 4)
    (hj : (List.range 4).find? (fun j => s.blk.on (F.CQ_STAT_BUSY (4 * k + j)) &&
      s.blk.k.wb.revoked.any (fun a => a.kind == 4 && a.unit == 4 * k + j)) = some j) :
    exec (.cryptoBulkPause k) s = .next (s.withBlk (s.blk.bulkAsk (4 * k + j))) := by
  dsimp only [exec, execCryptoBulkPause]
  rw [onBlk_unit hk, hj]

/-- Settles O57: writes of a ring's tail and control are accepted writes; a unit or an engine that exists runs the next
descriptor of the operation that the command names, in memory. -/
theorem jobCommands : Obligations.JobCommands := by
  dsimp only [Obligations.JobCommands, exec]
  refine ⟨?cvuRingTailWrite, ?gen, ?append, ?check, ?strip, ?cvuBadArgument, ?ringDisable, ?gcmEnc, ?gcmDec, ?cmacGen,
    ?cmacVer, ?sha384, ?sign, ?verify, ?cryBadOpcode, ?cryptoBulkPause⟩
  case cvuRingTailWrite | ringDisable => exact fun i r v s hr hw => onBlk_unit_onWrite hr hw _ _
  case gen | append | check | strip | cvuBadArgument | gcmEnc | gcmDec | cmacGen | cmacVer | sha384 | sign | verify
      | cryBadOpcode => exact fun k s hk => onMem_unit hk s _
  case cryptoBulkPause => exact fun k j s hk hj => exec_cryptoBulkPause hk hj

end Sys2Proof.Machine
end

section
/-!
PROOFS. The commands of the key vault, of the tamper alarms and of quarantine (R613, R615, R616, R619, R620, R622,
R624 to R626, R630).
-/

namespace Sys2Proof.Machine

/-- An accepted write of KV_CMD begins the command of its OP (R615). -/
theorem onBlk_kvCmd {i : Init} {s : State} (hw : s.blk.writable i R.KV_CMD = true) (op slot : Nat) (ds : Bool)
    (src arg : Nat) :
    onBlk true s (fun b => b.kvCmd i op slot ds src arg) =
      .next (s.withBlk (s.blk.acked.kvStart op slot ds src arg)) := onBlk_onWrite rfl hw _ _

/-- While KC is down the blow of DS_OFF leaves no key to clear (R622). -/
theorem exec_dsOffBlow_down {s : State} (hdue : s.blk.dsOffDue = true) (hdown : s.blk.kc = .down) :
    exec .dsOffBlow s =
      .next (s.withBlk (({ s.blk with dsOffDue := false } : Blk).put F.TAMPER_STAT_HARD 1)) :=
  onBlk_of_eq (by simp [hdue, hdown])

/-- With an empty tamper log the status of quarantine is its first segment alone (R625). -/
theorem exec_quarantineStatus_empty {s : State} (hquar : s.blk.kc = .quar)
    (hcount : s.blk.fld F.TAMPER_STAT_COUNT = 0) :
    exec .quarantineStatus s = .next (s.withBlk { s.blk with k := { s.blk.k with
      quarOut := quarSegment 1 0 1 (leBytes 4 (s.blk.reg R.TAMPER_STAT).toNat) :: quarCut 1 1 1 0 [] } }) :=
  onBlk_of_eq (by simp [hquar, hcount])

/-- Settles O58: the commands of KV_CMD are accepted writes of it, each with its own OP and operands; the end of one and
an alarm reach memory, the others are events. -/
theorem keyCommands : Obligations.KeyCommands := by
  dsimp only [Obligations.KeyCommands, exec]
  refine ⟨?clear, ?load, ?derive, ?store, ?unstore, ?hkLoad, ?pubkey, ?extend, ?attest, ?dbgChal, ?dbgResp,
    ?kvCmdInvalid, ?kvCommandComplete, ?tamperAlarm, ?dsOffBlow, ?quarantineStatus, ?quarantineAttest,
    ?quarantineRecovery⟩
  case clear | load | store | unstore | hkLoad | pubkey | extend | dbgResp =>
    exact fun i arg s hw => onBlk_kvCmd hw _ _ _ _ _
  case derive => exact fun i slot ds src s hw => onBlk_kvCmd hw _ _ _ _ _
  case attest | dbgChal | kvCmdInvalid => exact fun i s hw => onBlk_kvCmd hw _ _ _ _ _
  case kvCommandComplete => exact fun s => onMem_withMem s _
  case tamperAlarm => exact fun c live stuck s hc => onMem_unit hc s _
  case dsOffBlow => exact fun s hdue hdown => exec_dsOffBlow_down hdue hdown
  case quarantineStatus => exact fun s hquar hcount => exec_quarantineStatus_empty hquar hcount
  case quarantineAttest => exact fun nonce s => onBlk_withBlk rfl s _
  case quarantineRecovery => exact fun t s => onBlk_withBlk rfl s _

end Sys2Proof.Machine
end

section
/-!
PROOFS. The commands of the fault collection unit (R641, R643, R646 to R648, R654), and those of the hub's responder and
of plan checks (R67, R77, R651, R655).
-/

namespace Sys2Proof.Machine

/-- A raising while KC is present reaches the FCU (R641). -/
theorem exec_faultRaise {r : Raise} {s : State} (hup : s.blk.kc ≠ .down) (hsrc : r.src < 384) :
    exec (.faultRaise (some r)) s = .next (s.withBlk (s.blk.deliverRaise r false)) := by
  have hnamed : (some r).all (fun x => decide (x.src < 384)) = true := decide_eq_true hsrc
  dsimp only [exec, execFaultRaise]
  rw [onBlk_withBlk hnamed, if_neg (fun h => hup h.1)]

/-- A restart that is still pending after RST_TMO raises its source again, escalated (R643). -/
theorem exec_restartTimeout {c : Nat} {r : Raise} {b : Blk} {s : State} (hc : c < 256) (hrun : s.blk.kcRun = true)
    (hlate : s.blk.restartLate c = (some r, b)) :
    exec (.restartTimeout c) s = .next (s.withBlk (b.deliverRaise r true)) := by
  dsimp only [exec, execRestartTimeout]
  rw [onBlk_unit hc, if_pos hrun, hlate]

/-- Settles O59: the writes of FCU_SRC, FCU_TEST and FCU_LOG_POP are accepted writes, the others events of a source or
of the FCU. -/
theorem faultCommands : Obligations.FaultCommands := by
  dsimp only [Obligations.FaultCommands, exec]
  refine ⟨?faultRaise, ?restartTimeout, ?quietPeriodExpiry, ?ackWindowClose, ?clr, ?ack, ?rclr, ?fcuTest, ?fcuLogPop,
    ?fcuSelfCheckFail, ?severityLineDisagree, ?pinReadback⟩
  case faultRaise => exact fun r s hup => ⟨onBlk_withBlk rfl s _, exec_faultRaise hup⟩
  case restartTimeout => exact fun c r b s hc hrun hlate => exec_restartTimeout hc hrun hlate
  case quietPeriodExpiry | ackWindowClose => exact fun k s hk => onBlk_unit hk s _
  case clr | ack | rclr => exact fun i k v s hk hw => onBlk_unit_onWrite hk hw _ _
  case fcuTest => exact fun i v s hw => onBlk_onWrite rfl hw v _
  case fcuLogPop => exact fun i s hw => onBlk_onWrite rfl hw _ _
  case fcuSelfCheckFail | severityLineDisagree => exact fun s => onBlk_withBlk rfl s _
  case pinReadback => exact fun faultN alive s => onBlk_withBlk rfl s _

/-- Another OP stands in the frame as it was sent (R651). -/
theorem exec_limpBadOpcode {op : Nat} (hop : op = 0 ∨ 6 ≤ op) (ch arg fresh : Nat) (mac : List Byte) (s : State) :
    exec (.limpBadOpcode op ch arg fresh mac) s = .next (s.withBlk (s.blk.limp op ch arg fresh mac)) := by
  dsimp only [exec, execLimpBadOpcode]
  rw [if_pos hop, onBlk_withBlk rfl]

/-- A blocked responder accepts frames again 1 s after its blocking (R651). -/
theorem exec_responderBlockExpiry {s : State} (hblocked : s.blk.fld F.RESP_STAT_BLOCKED = 1)
    (hlate : s.blk.keeper.blockedAt + tickSec ≤ s.blk.clk) :
    exec .responderBlockExpiry s = .next (s.withBlk (s.blk.put F.RESP_STAT_BLOCKED 0)) := by
  have hon : s.blk.on F.RESP_STAT_BLOCKED = true := by simp [Blk.on, hblocked]
  dsimp only [exec, execResponderBlockExpiry]
  rw [onBlk_withBlk rfl, hon, decide_eq_true hlate, Bool.and_self, if_pos rfl]

/-- Settles O60: the limp commands are one operation, each with its own OP; the writes of RESP_FRESH_HI and BPL_CMD are
accepted writes, the others events. -/
theorem responderAndPlanCommands : Obligations.ResponderAndPlanCommands := by
  dsimp only [Obligations.ResponderAndPlanCommands, exec]
  refine ⟨?status, ?limpOff, ?limpOn, ?limpClear, ?allOff, ?limpBadOpcode, ?responderBlockExpiry, ?respFreshWrite,
    ?planCheck, ?planCheckComplete⟩
  case status | limpOff | limpOn | limpClear | allOff => exact fun ch arg fresh mac s => onBlk_withBlk rfl s _
  case limpBadOpcode => exact fun op ch arg fresh mac s hop => exec_limpBadOpcode hop ch arg fresh mac s
  case responderBlockExpiry => exact fun s hblocked hlate => exec_responderBlockExpiry hblocked hlate
  case respFreshWrite | planCheck => exact fun i v s hw => onBlk_onWrite rfl hw v _
  case planCheckComplete => exact fun s => onMem_withMem s _

end Sys2Proof.Machine
end

section
/-!
PROOFS. Accesses of initiators to memory regions (R475, R477, R481, R482, R534): an access leaves the bytes of others,
and one that is accepted is performed at once.
-/

namespace Sys2Proof.Machine

/-! ## Bytes left alone -/

theorem bytesSame_memWrite (m : List Host.Cell) (a n v : Nat) : BytesSame m (memWrite m a (leBytes n v)) a n :=
  fun x hx => memWrite_other _ m a x (by rwa [leBytes_length])

theorem Blk.bytesSame_access (b : Blk) (m : List Host.Cell) (x : MemAcc) :
    BytesSame m (b.access m x).2 x.addr x.size :=
  Blk.leaves_access (P := (BytesSame m · x.addr x.size)) (fun _ _ => rfl) fun _ _ => bytesSame_memWrite _ _ _ _

/-- Settles O9: an access writes its own bytes if any, and a load is no command that writes memory. -/
theorem accessesChangeOnlyTheirBytes : Obligations.AccessesChangeOnlyTheirBytes := by
  intro i addr n v op fetch err s t
  refine ⟨fun h => ?store, fun h => ?atomic, fun h => onlyMemoryCommandsWriteMemory _ s t rfl h⟩
  case store | atomic =>
    dsimp only [exec] at h
    obtain ⟨-, -, hmem, -⟩ := onMem_next h
    rw [hmem]
    exact Blk.bytesSame_access _ _ _

/-! ## The way of an accepted access -/

/-- No step on the way of an accepted access stops it. -/
theorem Blk.access_accepted {b : Blk} {x : MemAcc} (h : b.Accepts x.init x.kind x.addr x.size) (m : List Host.Cell) :
    b.access m x = ((b.perform m x).1.accEnd x, (b.perform m x).2) := by
  obtain ⟨-, halign, hdev, hdirect, hv, hpmp, hbehind, hfetch, sec, ctx, hattr, hjudge⟩ := h
  have hfree : b.accBehind x = false := hbehind
  have hbar : (x.kind == .fetch && fetchBarred x.init x.addr) = false := by
    by_cases hk : x.kind = .fetch
    · rw [hfetch hk, Bool.and_false]
    · simp [hk]
  have hmem : b.memAccess m x = b.perform m x := by
    simp [Blk.memAccess, hattr, misaligned, halign, hpmp, hbar, hfree, hjudge, Blk.endAcc]
  simp [Blk.access, hv, hdev, hdirect, hmem]

/-- An access that ends with data raises no exception. -/
theorem Blk.accEnd_data (b : Blk) (v : Nat) (x : MemAcc) :
    ({ b with resp := .data v } : Blk).accEnd x = { b with resp := .data v } := rfl

/-- A read that meets no error and no poisoned word answers its bytes. -/
theorem Blk.perform_read {b : Blk} {x : MemAcc} (hk : x.kind = .read ∨ x.kind = .fetch) (herr : x.err = none)
    (hp : b.poisoned x.addr x.size = false) (m : List Host.Cell) :
    b.perform m x = ({ b with resp := .data (memLe m x.addr x.size) }, m) := by
  rcases hk with hk | hk <;> simp [Blk.perform, Blk.meetErr, Blk.errOf, herr, hk, hp, accWrites]

/-- A write outside MRAM, which no throttle holds (R232), stores its bytes. -/
theorem Blk.perform_write {b : Blk} {x : MemAcc} (hk : x.kind = .write) (herr : x.err = none)
    (hr : regionOf x.addr ≠ some .mram) (m : List Host.Cell) :
    b.perform m x =
      ({ (b.memStore m x.addr x.size (x.val % 2 ^ (8 * x.size)) (initHart x.init)).1 with resp := .done },
        memWrite m x.addr (leBytes x.size x.val)) := by
  have hbytes := leBytes_mod x.size x.val
  simp [Blk.perform, Blk.meetErr, Blk.errOf, herr, hk, hr, accReads, accWrites, Blk.memStore, hbytes]

/-! ## Atomics (R482) -/

section
variable {b : Blk} {x : MemAcc} (hk : x.kind = .atomic) (herr : x.err = none)
  (hp : b.poisoned x.addr x.size = false) (hr : regionOf x.addr ≠ some .mram)
include hk herr hp hr

theorem Blk.perform_lr (hop : x.op = 0) (m : List Host.Cell) :
    b.perform m x =
      ({ b.setResv x.init (some (x.addr / 64)) with resp := .data (memLe m x.addr x.size) }, m) := by
  simp [Blk.perform, Blk.meetErr, Blk.errOf, herr, hk, hr, hp, hop]

/-- SC where the reservation of its block stands. -/
theorem Blk.perform_sc_reserved (hop : x.op = 1) (hresv : b.resvOf x.init = some (x.addr / 64))
    (m : List Host.Cell) :
    b.perform m x =
      ({ ((b.setResv x.init none).memStore m x.addr x.size (x.val % 2 ^ (8 * x.size)) (initHart x.init)).1 with
          resp := .data 0 },
        memWrite m x.addr (leBytes x.size (x.val % 2 ^ (8 * x.size)))) := by
  simp [Blk.perform, Blk.meetErr, Blk.errOf, herr, hk, hr, hp, hop, hresv, Blk.memStore]

theorem Blk.perform_sc_unreserved (hop : x.op = 1) (hresv : b.resvOf x.init ≠ some (x.addr / 64))
    (m : List Host.Cell) :
    b.perform m x = ({ b.setResv x.init none with resp := .data 1 }, m) := by
  simp [Blk.perform, Blk.meetErr, Blk.errOf, herr, hk, hr, hp, hop, hresv]

theorem Blk.perform_amo (hop : 2 ≤ x.op) (m : List Host.Cell) :
    b.perform m x =
      ({ (b.memStore m x.addr x.size (amo x.op x.size (memLe m x.addr x.size) (x.val % 2 ^ (8 * x.size)))
          (initHart x.init)).1 with resp := .data (memLe m x.addr x.size) },
        memWrite m x.addr
          (leBytes x.size (amo x.op x.size (memLe m x.addr x.size) (x.val % 2 ^ (8 * x.size))))) := by
  have hlr : x.op ≠ 0 := by omega
  have hsc : x.op ≠ 1 := by omega
  simp [Blk.perform, Blk.meetErr, Blk.errOf, herr, hk, hr, hp, hlr, hsc, Blk.memStore]

end

/-! ## What a store leaves -/

theorem Blk.breakResv_hartOnly (b : Blk) (a : Nat) (own : Option Nat) : Blk.HartOnly b (b.breakResv a own) := by
  refine Blk.HartOnly.foldl _ (fun _ => True) (fun c h _ => ?_) (fun _ _ _ _ => trivial) harts b trivial
  split
  · exact Blk.HartOnly.setHart ..
  · exact Blk.HartOnly.refl c

/-- A store breaks reservations of others and makes none. -/
theorem Blk.resv_breakResv {b : Blk} {h : Nat} (hn : (b.hartOf h).resv = none) (a : Nat) (own : Option Nat) :
    ((b.breakResv a own).hartOf h).resv = none := by
  refine List.foldlRecOn (motive := fun c : Blk => (c.hartOf h).resv = none) harts _ hn fun c hc j _ => ?_
  split
  · by_cases hj : h = j
    · subst hj
      rw [Blk.hartOf_setHart]
    · rw [Blk.hartOf_setHart_ne _ hj, hc]
  · exact hc

theorem Blk.clearBlock_frame (b : Blk) (a : Nat) :
    (b.clearBlock a).regs = b.regs ∧ (b.clearBlock a).hart = b.hart := by
  unfold Blk.clearBlock
  split <;> exact ⟨rfl, rfl⟩

theorem Blk.lineSnoop_frame (b : Blk) (a : Nat) (own : Option Nat) :
    (b.lineSnoop a own).regs = b.regs ∧ (b.lineSnoop a own).hart = b.hart := by
  unfold Blk.lineSnoop
  split <;> exact ⟨rfl, rfl⟩

theorem Blk.unpoison_frame (b : Blk) (a n : Nat) :
    (b.unpoison a n).regs = b.regs ∧ (b.unpoison a n).hart = b.hart := by
  unfold Blk.unpoison
  extract_lets
  split <;> exact ⟨rfl, rfl⟩

/-- Of registers and harts a store reaches the reservations that it breaks. -/
theorem Blk.memStore_frame (b : Blk) (m : List Host.Cell) (a n v : Nat) (own : Option Nat) :
    (b.memStore m a n v own).1.regs = b.regs ∧
      (b.memStore m a n v own).1.hart = ((b.clearBlock a).breakResv a own).hart := by
  obtain ⟨hregs, hhart⟩ := (((b.clearBlock a).breakResv a own).lineSnoop a own).unpoison_frame a n
  obtain ⟨hregs', hhart'⟩ := ((b.clearBlock a).breakResv a own).lineSnoop_frame a own
  obtain ⟨hregs'', -⟩ := b.clearBlock_frame a
  have hbreak := ((b.clearBlock a).breakResv_hartOnly a own).regs
  exact ⟨((hregs.trans hregs').trans hbreak).trans hregs'', hhart.trans hhart'⟩

theorem Blk.hartOf_congr {b c : Blk} (h : c.hart = b.hart) (n : Nat) : c.hartOf n = b.hartOf n := by
  rw [Blk.hartOf, h, Blk.hartOf]

theorem Blk.setResv_regs (b : Blk) (i : Init) (r : Option Nat) : (b.setResv i r).regs = b.regs := by
  cases i <;> rfl

theorem Blk.resvOf_setResv_none (b : Blk) (i : Init) : (b.setResv i none).resvOf i = none := by
  cases i with
  | hart h => simp [Blk.setResv, Blk.resvOf]
  | boot | debug => rfl

theorem Blk.resvOf_memStore {b : Blk} {i : Init} (hn : b.resvOf i = none) (m : List Host.Cell) (a n v : Nat)
    (own : Option Nat) : (b.memStore m a n v own).1.resvOf i = none := by
  cases i with
  | hart h =>
    obtain ⟨-, hhart⟩ := b.memStore_frame m a n v own
    obtain ⟨-, hclear⟩ := b.clearBlock_frame a
    have hresv : ((b.clearBlock a).hartOf h).resv = none := (congrArg Hart.resv (Blk.hartOf_congr hclear h)).trans hn
    exact (congrArg Hart.resv (Blk.hartOf_congr hhart h)).trans (Blk.resv_breakResv hresv a own)
  | boot | debug => rfl

/-! ## The commands -/

theorem widthOk_of_accepts {b : Blk} {i : Init} {k : Acc} {a n : Nat} (h : b.Accepts i k a n) : widthOk n = true := by
  obtain ⟨hn, -⟩ := h
  rcases hn with rfl | rfl | rfl | rfl <;> rfl

theorem exec_memoryStore {n : Nat} (hn : widthOk n = true) (i : Init) (a v : Nat) (err : Option (Nat × Bool))
    (s : State) :
    exec (.memoryStore i a n v err) s = .next (s.withMem (s.blk.access s.mem
      { init := i, kind := .write, addr := a, size := n, val := v, err := err })) := by
  dsimp only [exec, execMemoryStore]
  rw [hn, onMem_withMem]

theorem exec_memoryAtomic {n op : Nat} (hn : n = 4 ∨ n = 8) (hop : op < 11) (i : Init) (a v : Nat)
    (err : Option (Nat × Bool)) (s : State) :
    exec (.memoryAtomic i op a n v err) s = .next (s.withMem (s.blk.access s.mem
      { init := i, kind := .atomic, addr := a, size := n, val := v, op := op, err := err })) := by
  have hok : (decide (op < 11) && (n == 4 || n == 8)) = true := by simpa [hop] using hn
  dsimp only [exec, execMemoryAtomic]
  rw [hok, onMem_withMem]

/-- A load or fetch that is accepted and meets no error answers its bytes. -/
theorem exec_memoryLoad_accepted {i : Init} {a n : Nat} {s : State} (fetch : Bool)
    (h : s.blk.Accepts i (if fetch then .fetch else .read) a n) (hp : s.blk.poisoned a n = false) :
    exec (.memoryLoad i fetch a n none) s = .next (s.withBlk { s.blk with resp := .data (memLe s.mem a n) }) := by
  have hk : (if fetch then Acc.fetch else .read) = .read ∨ (if fetch then Acc.fetch else .read) = .fetch := by
    cases fetch <;> simp
  rw [exec_memoryLoad (widthOk_of_accepts h), Blk.access_accepted h, Blk.perform_read hk rfl hp, Blk.accEnd_data]
  rfl

/-- The block and memory that an accepted access leaves, where it ends with data or with its write. -/
theorem Blk.access_of_perform {b c : Blk} {m m' : List Host.Cell} {x : MemAcc} {r : Resp}
    (h : b.Accepts x.init x.kind x.addr x.size) (hr : r = .done ∨ ∃ v, r = .data v)
    (hperf : b.perform m x = ({ c with resp := r }, m')) : b.access m x = ({ c with resp := r }, m') := by
  rw [Blk.access_accepted h, hperf]
  rcases hr with rfl | ⟨v, rfl⟩ <;> rfl

/-- Settles O10: an accepted access is performed at once; a store leaves every register, and of the harts only breaks
reservations. -/
theorem acceptedAccess : Obligations.AcceptedAccess := by
  intro i addr n v s
  refine ⟨fun h hr => ?store, fun h hp => exec_memoryLoad_accepted false h hp,
    fun h hp => exec_memoryLoad_accepted true h hp, fun op h hn hop hp hr => ?atomic⟩
  case store =>
    have hacc := Blk.access_of_perform (x := { init := i, kind := .write, addr := addr, size := n, val := v }) h
      (.inl rfl) (Blk.perform_write rfl rfl hr s.mem)
    obtain ⟨hregs, -⟩ := s.blk.memStore_frame s.mem addr n (v % 2 ^ (8 * n)) (initHart i)
    refine ⟨_, exec_memoryStore (widthOk_of_accepts h) i addr v none s, ?_⟩
    rw [hacc]
    exact ⟨rfl, memLe_memWrite .., rfl, hregs, rfl⟩
  case atomic =>
    set x : MemAcc := { init := i, kind := .atomic, addr := addr, size := n, val := v, op := op }
    refine ⟨_, exec_memoryAtomic hn hop i addr v none s, ?_⟩
    have hkinds : op = 0 ∨ op = 1 ∨ 2 ≤ op := by omega
    rcases hkinds with rfl | rfl | hamo
    · have hacc := Blk.access_of_perform (x := x) h (.inr ⟨_, rfl⟩) (Blk.perform_lr rfl rfl hp hr rfl s.mem)
      rw [hacc]
      refine ⟨s.blk.setResv_regs .., rfl, fun _ => ⟨rfl, rfl, ?_⟩, ?_⟩
      · rintro k rfl
        exact congrArg Hart.resv (s.blk.hartOf_setHart k _)
      · simp
    · by_cases hresv : s.blk.resvOf i = some (addr / 64)
      · have hacc := Blk.access_of_perform (x := x) h (.inr ⟨_, rfl⟩)
          (Blk.perform_sc_reserved rfl rfl hp hr rfl hresv s.mem)
        obtain ⟨hregs, -⟩ := (s.blk.setResv i none).memStore_frame s.mem addr n (v % 2 ^ (8 * n)) (initHart i)
        have hnone := Blk.resvOf_memStore (s.blk.resvOf_setResv_none i) s.mem addr n (v % 2 ^ (8 * n)) (initHart i)
        rw [hacc]
        exact ⟨hregs.trans (s.blk.setResv_regs ..), rfl, by simp, fun _ _ => ⟨rfl, rfl⟩,
          fun _ hno => absurd hresv hno, fun _ => hnone, by simp⟩
      · have hacc := Blk.access_of_perform (x := x) h (.inr ⟨_, rfl⟩)
          (Blk.perform_sc_unreserved rfl rfl hp hr rfl hresv s.mem)
        rw [hacc]
        exact ⟨s.blk.setResv_regs .., rfl, by simp, fun _ hyes => absurd hyes hresv, fun _ _ => ⟨rfl, rfl⟩,
          fun _ => s.blk.resvOf_setResv_none i, by simp⟩
    · have hacc := Blk.access_of_perform (x := x) h (.inr ⟨_, rfl⟩) (Blk.perform_amo rfl rfl hp hr hamo s.mem)
      obtain ⟨hregs, -⟩ := s.blk.memStore_frame s.mem addr n
        (amo op n (memLe s.mem addr n) (v % 2 ^ (8 * n))) (initHart i)
      rw [hacc]
      have h0 : op ≠ 0 := by omega
      have h1 : op ≠ 1 := by omega
      exact ⟨hregs, rfl, fun h => absurd h h0, fun h => absurd h h1, fun h => absurd h h1, fun h => absurd h h1,
        fun _ => ⟨rfl, rfl⟩⟩

end Sys2Proof.Machine
end

section
/-!
PROOFS. The APLIC's sources (R490): a mode of sourcecfg, read back.
-/

namespace Sys2Proof.Machine

@[simp] theorem Blk.aplOf_setApl (b : Blk) (d e : Nat) (x : Apl) :
    (b.setApl d x).aplOf e = if e = d then x else b.aplOf e := by
  simp [Blk.aplOf, Blk.setApl]

/-- The machine-level domain holds the mode written, whatever becomes of its target and its bits. -/
theorem Blk.srcCfg_aplCfg (b : Blk) (src c : Nat) : (b.aplCfg 0 src c).srcCfg 0 src = c := by
  unfold Blk.aplCfg
  extract_lets y y1 gone b1
  have hcfg (z : Apl) : (gone z).cfg = z.cfg := rfl
  have hset : b1.srcCfg 0 src = c := by
    unfold b1 Blk.srcCfg
    split <;> simp [hcfg, y1]
  split
  case isTrue direct => simpa [Blk.srcCfg] using hset
  case isFalse delegated => exact hset

/-- A write without the delegation bit to a source of the machine-level domain. -/
theorem Blk.sourcecfg_machine {src v : Nat} (hsrc : isWired src = true) (hv : v.testBit 10 = false) (b : Blk) :
    b.sourcecfg 0 src v = b.aplCfg 0 src (if v % 8 = 1 ∨ v % 8 = 6 then v % 8 else 0) := by
  simp [Blk.sourcecfg, hsrc, hv]

/-- domaincfg reads DM 1, bit 2, whatever its IE. -/
theorem Blk.testBit_domaincfg (b : Blk) (d : Nat) : (b.aplRead d 0).testBit 2 = true := by
  simp only [Blk.aplRead, if_pos]
  split <;> decide

/-- Settles O31: the write sets the mode that it names or Inactive, and domaincfg's other bits are constants. -/
theorem aplicSourceModes : Obligations.AplicSourceModes := by
  intro b src v hsrc hv
  rw [Blk.sourcecfg_machine hsrc hv]
  exact ⟨b.srcCfg_aplCfg src _, b.testBit_domaincfg 0, b.testBit_domaincfg 1⟩

end Sys2Proof.Machine
end

section
/-!
PROOFS. RESP_FRESH (R652, R655), and the control of the page ownership table (R531, R536).
-/

namespace Sys2Proof.Machine

/-! ## RESP_FRESH -/

theorem Blk.respFresh_setFresh (b : Blk) {n : Nat} (hn : n < 2 ^ 64) : (b.setFresh n).respFresh = n := by
  have hlo : (b.setFresh n).fld F.RESP_FRESH_LO_FRESH = n % 2 ^ 32 :=
    (Blk.fld_put_reg _ F.RESP_FRESH_HI_FRESH F.RESP_FRESH_LO_FRESH _ (by decide)).trans
      (b.fld_put_same F.RESP_FRESH_LO_FRESH n (by decide))
  have hhi : (b.setFresh n).fld F.RESP_FRESH_HI_FRESH = n / 2 ^ 32 :=
    Blk.fld_put_word _ F.RESP_FRESH_HI_FRESH ⟨rfl, rfl⟩ (Nat.div_lt_of_lt_mul hn)
  rw [Blk.respFresh, hlo, hhi]
  omega

theorem Blk.regsSame_setFresh (b : Blk) (n : Nat) : RegsSame b (b.setFresh n) [R.RESP_FRESH_LO, R.RESP_FRESH_HI] :=
  ((b.regsSame_put F.RESP_FRESH_LO_FRESH n).mono (by simp [F.RESP_FRESH_LO_FRESH])).trans
    ((Blk.regsSame_put _ F.RESP_FRESH_HI_FRESH _).mono (by simp [F.RESP_FRESH_HI_FRESH]))

/-- Settles O24: a write that would make it smaller, or that meets an active responder, is not taken. -/
theorem freshOnlyIncreases : Obligations.FreshOnlyIncreases := by
  intro i v s hw
  set n := s.blk.keeper.freshLo % 2 ^ 32 + v.toNat * 2 ^ 32 with hn
  have hlt : n < 2 ^ 64 := by
    have := v.isLt
    omega
  refine ⟨_, onBlk_onWrite rfl hw v _, ?_⟩
  by_cases hskip : n < s.blk.respFresh ∨ s.blk.respActive = true
  · have hsame : s.blk.acked.freshHiWrite v = s.blk.acked := if_pos hskip
    rw [hsame]
    refine ⟨le_rfl, fun hle hidle => absurd hskip ?_, fun _ _ => rfl, rfl, rfl⟩
    simp [hidle, hle]
  · have htake : s.blk.acked.freshHiWrite v = s.blk.acked.setFresh n := if_neg hskip
    have hfresh : (s.blk.acked.setFresh n).respFresh = n := s.blk.acked.respFresh_setFresh hlt
    rw [htake]
    exact ⟨(not_lt.1 fun h => hskip (.inl h)).trans_eq hfresh.symm, fun _ _ => hfresh,
      s.blk.acked.regsSame_setFresh n, rfl, rfl⟩

/-! ## The page ownership table -/

theorem Fld.get_lt (f : Fld) (w : W32) : f.get w < 2 ^ f.width := (BitVec.extractLsb' f.lo f.width w).isLt

theorem Fld.get_eq_one_iff (a k : Nat) (w : W32) : Fld.get ⟨a, k, k⟩ w = 1 ↔ w.getLsbD k = true := by
  have hlt : Fld.get ⟨a, k, k⟩ w < 2 := by simpa [Fld.width] using Fld.get_lt ⟨a, k, k⟩ w
  have hbit := Fld.testBit_get ⟨a, k, k⟩ w 0 le_rfl
  simp only [Nat.add_zero, le_refl, decide_true, Bool.true_and] at hbit
  rw [← hbit, Nat.testBit_zero, decide_eq_true_iff]
  omega

/-- EN, of type W1S, is set by a write of 1 and by nothing cleared (R8, R531). -/
theorem Blk.fld_potEn_writeReg (b : Blk) (v : W32) :
    (b.writeReg R.SEC_POT_CTL v).fld F.SEC_POT_CTL_EN = 1 ↔
      b.fld F.SEC_POT_CTL_EN = 1 ∨ F.SEC_POT_CTL_EN.get v = 1 := by
  have hloc : locate R.SEC_POT_CTL =
      some (⟨"SEC_POT_CTL", R.SEC_POT_CTL, [], [⟨1, 1, .w1c, 0⟩, ⟨0, 0, .w1s, 0⟩]⟩, []) := rfl
  obtain ⟨hbits, -⟩ := typedWrite b R.SEC_POT_CTL v _ [] hloc
  have hen := hbits ⟨0, 0, .w1s, 0⟩ (by simp) 0 le_rfl le_rfl
  have hone (w : W32) : F.SEC_POT_CTL_EN.get w = 1 ↔ w.getLsbD 0 = true := Fld.get_eq_one_iff _ 0 w
  have hreg (c : Blk) : c.fld F.SEC_POT_CTL_EN = F.SEC_POT_CTL_EN.get (c.reg R.SEC_POT_CTL) := rfl
  rw [hreg, hreg, hone, hone, hone, hen, Bool.or_eq_true]

theorem Blk.potInv_busy {b : Blk} (hbusy : b.fld F.SEC_POT_INV_BUSY = 1) (first : Nat) :
    b.potInv first = b.put F.SEC_POT_CTL_INV_IGN 1 := by
  simp [Blk.potInv, Blk.on, hbusy]

theorem Blk.potInv_free {b : Blk} (hfree : b.fld F.SEC_POT_INV_BUSY = 0) (first : Nat) :
    b.potInv first = { b.put F.SEC_POT_INV_BUSY 1 with
      k := { b.k with inv := some (first % 2 ^ 23, max 1 (b.fld F.SEC_POT_INV_CNT_COUNT)) } } := by
  simp [Blk.potInv, Blk.on, hfree]

theorem exec_potInvalidateDone {f n : Nat} {s : State} (hinv : s.blk.k.inv = some (f, n)) :
    exec .potInvalidateDone s = .next (s.withBlk { (s.blk.put F.SEC_POT_INV_BUSY 0).potDrop f (f + n) with
      k := { ((s.blk.put F.SEC_POT_INV_BUSY 0).potDrop f (f + n)).k with inv := none } }) := by
  dsimp only [exec, execPotInvalidateDone]
  refine onBlk_of_eq ?_
  rw [hinv]

/-- No cache keeps an entry whose index lies from `lo` to before `hi`. -/
theorem Blk.potDrop_pot (b : Blk) (lo hi : Nat) :
    ∀ e ∈ (b.potDrop lo hi).k.pot, ∀ x ∈ e.2, x.1 < lo ∨ hi ≤ x.1 := by
  intro e he x hx
  have hmap := List.mem_of_mem_filter he
  obtain ⟨e', -, rfl⟩ := List.mem_map.1 hmap
  have hkept := (List.mem_filter.1 hx).2
  simp only [Bool.not_and, Bool.or_eq_true, Bool.not_eq_true', decide_eq_false_iff_not] at hkept
  omega

/-- Settles O25: the write's own type keeps EN, BUSY decides what an invalidation does, and its end filters each
cache. -/
theorem pageOwnershipControl : Obligations.PageOwnershipControl := by
  intro i v first f n s
  refine ⟨fun hw => ?enable, fun hw hbusy => ?ignored, fun hw hfree => ?begins, fun hinv => ?ends⟩
  case enable =>
    exact ⟨_, onBlk_onWrite rfl hw v _, s.blk.acked.fld_potEn_writeReg v, s.blk.acked.regsSame_writeReg _ v,
      rfl, rfl⟩
  case ignored =>
    have hpot := Blk.potInv_busy (b := s.blk.acked) hbusy first
    rw [← hpot]
    exact onBlk_onWrite rfl hw _ _
  case begins =>
    have hpot := Blk.potInv_free (b := s.blk.acked) hfree first
    refine ⟨_, onBlk_onWrite rfl hw _ _, ?_⟩
    rw [hpot]
    exact ⟨s.blk.acked.fld_put_same F.SEC_POT_INV_BUSY 1 (by decide), rfl,
      s.blk.acked.regsSame_put F.SEC_POT_INV_BUSY 1, rfl, rfl⟩
  case ends =>
    exact ⟨_, exec_potInvalidateDone hinv, s.blk.fld_put_same F.SEC_POT_INV_BUSY 0 (by decide), rfl,
      Blk.potDrop_pot _ f (f + n), s.blk.regsSame_put F.SEC_POT_INV_BUSY 0, rfl, rfl⟩

end Sys2Proof.Machine
end

section
/-!
PROOFS. The CSR hvctx (R526).
-/

namespace Sys2Proof.Machine

theorem Blk.kcRun_of_runs {b : Blk} {h : Nat} (hr : b.runs h = true) : b.kc = .run := by
  simp only [Blk.runs, Blk.kcRun, Bool.and_eq_true, beq_iff_eq] at hr
  exact hr.1.1

/-- hvctx is there for an application hart above U-mode with V 0. -/
theorem Hart.csrBar_hvctx {x : Hart} {h : Nat} (happ : isApp h = true) (hv : x.v = false) (hprv : x.prv ≠ 0) :
    x.csrBar h 0x6c0 true = none := by
  have hex : csrExists h 0x6c0 = true := by simp [csrExists, happ]
  simp [Hart.csrBar, hex, hv, hprv]

theorem isHart_of_isApp {h : Nat} (happ : isApp h = true) : isHart h = true := by simp [isHart, happ]

/-- The write of a hart that may access hvctx is judged by its value (R526). -/
theorem exec_hvctxWrite {h : Nat} {s : State} (happ : isApp h = true) (hr : s.blk.runs h = true)
    (hv : (s.blk.hartOf h).v = false) (hprv : (s.blk.hartOf h).prv ≠ 0) (v : Nat) :
    exec (.hvctxWrite h v) s = .next (s.withBlk { s.blk.hvctxSet h v with resp := .done }) := by
  have hbar := Hart.csrBar_hvctx happ hv hprv
  dsimp only [exec, execHvctxWrite]
  rw [onBlk_withBlk (isHart_of_isApp happ), hr, hbar]
  rfl

theorem Blk.hvctxSet_taken {b : Blk} {h v : Nat} (hw : (b.hartOf h).w = false) (hctx : (b.hartOf h).ctx = 1)
    (hpart : b.ctxNormalPart (v % 256) = true) :
    b.hvctxSet h v = b.setHart h { b.hartOf h with hvctx := v % 256 } := by
  simp [Blk.hvctxSet, hw, hctx, hpart]

theorem Blk.hvctxSet_refused {b : Blk} {h v : Nat}
    (hno : ¬((b.hartOf h).w = false ∧ (b.hartOf h).ctx = 1 ∧ b.ctxNormalPart (v % 256) = true)) :
    b.hvctxSet h v = b.raise 197 0 (some (b.hartOf h).ctx) := by
  refine if_neg ?_
  simpa [and_assoc] using hno

/-- Settles O26: what the rule does not take raises FS197, while KC runs, and leaves every hart. -/
theorem hvctxWrite : Obligations.HvctxWrite := by
  intro h v s happ hr hv hprv
  refine ⟨_, exec_hvctxWrite happ hr hv hprv v, ?taken, ?refused, ?regs, rfl, rfl⟩
  case taken =>
    rintro ⟨hw, hctx, hpart⟩
    rw [Blk.hvctxSet_taken hw hctx hpart]
    exact ⟨congrArg Hart.hvctx (s.blk.hartOf_setHart h _), rfl⟩
  case refused =>
    intro hno
    have hup : s.blk.kc ≠ .down := by simp [Blk.kcRun_of_runs hr]
    rw [Blk.hvctxSet_refused hno]
    exact ⟨s.blk.raise_hart .., _, s.blk.raise_fcuIn 197 0 _ none hup, rfl⟩
  case regs =>
    change (s.blk.hvctxSet h v).regs = s.blk.regs
    unfold Blk.hvctxSet
    extract_lets
    split
    · rfl
    · exact s.blk.raise_regs ..

end Sys2Proof.Machine
end

section
/-!
PROOFS. Stores to device space that the owner rule refuses (R529, R547), and those that the field bridge takes as
non-posted writes (R571, R574, R575).
-/

namespace Sys2Proof.Machine

/-- The interrupt files lie together, and no other address is a register of theirs (R488). -/
theorem isFileReg_outside {a : Nat} (ha : a < 0x44100000 ∨ 0x44240000 ≤ a) : isFileReg a = false := by
  have hlow : ¬ (0x44100 ≤ a / 4096 ∧ a / 4096 < 0x44200) := by omega
  have hhigh : ¬ (0x44200 ≤ a / 4096 ∧ a / 4096 < 0x44240) := by omega
  simp [isFileReg, isFile, hlow, hhigh]

/-! ## What a core in Recut mode looks at -/

section
variable {b c : Blk} {h : Nat} {l : List Nat} (hregs : RegsSame b c l) (hstat : R.SYSCTL_HART_STAT h ∉ l)
  (hrcx : R.RCX_STAT (h - 16) ∉ l) (hhart : c.hart = b.hart) (hk : c.k = b.k) (hkc : c.kc = b.kc)
include hregs

include hstat hhart hkc in
theorem RegsSame.runs : c.runs h = b.runs h := by
  have hstate : c.hartState h = b.hartState h := hregs.fld (f := F.SYSCTL_HART_STAT_STATE h) hstat
  rw [Blk.runs, Blk.kcRun, hkc, hstate, Blk.hartOf_congr hhart]
  rfl

include hrcx in
theorem RegsSame.recut : c.recut h = b.recut h := by
  have hmode := hregs.fld (f := F.RCX_STAT_MODE (h - 16)) hrcx
  rw [Blk.recut, Blk.on, hmode]
  rfl

include hstat hrcx hhart hk hkc in
/-- Whether an instruction is taken is told by two registers, the harts and the accesses that wait. -/
theorem RegsSame.atInstr (ha : b.atInstr h) : c.atInstr h := by
  obtain ⟨hone, hphase, hwait, hredo⟩ := ha
  have hp : c.phase h = b.phase h := hregs.fld (f := F.RCX_STAT_PHASE (h - 16)) hrcx
  refine ⟨?_, hp.trans hphase, ?_, (congrArg Hart.redo (Blk.hartOf_congr hhart h)).trans hredo⟩
  · rw [Blk.passOne, hregs.runs hstat hhart hkc, hregs.recut hrcx, hp, Blk.hartOf_congr hhart]
    exact hone
  · rw [Blk.waits, Blk.npOut, hk]
    exact hwait

end

/-- An exception reaches the hart of its access alone. -/
theorem Blk.except_hartOnly {b : Blk} {i : Init} (hr : ∀ h, b.recutInit i = some h → b.atInstr h) (c v : Nat)
    (r : Resp) : Blk.HartOnly b (b.except i c v r) ∧ (b.except i c v r).resp = r := by
  cases i with
  | boot | debug => exact ⟨Blk.HartOnly.withResp b r, rfl⟩
  | hart h =>
    by_cases hruns : b.runs h = true
    · by_cases hrecut : b.recut h = true
      · have hat := hr h (by simp [Blk.recutInit, hruns, hrecut])
        simpa [Blk.except, hruns, hrecut] using b.recutTrap_hartOnly hat c v r
      · rw [b.except_single hruns (by simpa using hrecut)]
        exact ⟨⟨rfl, rfl, rfl, rfl, rfl⟩, rfl⟩
    · simp only [Blk.except, Bool.not_eq_true] at hruns ⊢
      simp only [hruns, Bool.not_false, if_true]
      exact ⟨Blk.HartOnly.withResp b r, trivial⟩

/-! ## The entry of a refusal -/

theorem Blk.regsSame_refLog (b : Blk) (sec : Bool) (ctx kind reason a : Nat) :
    RegsSame b (b.refLog sec ctx kind reason a) [R.SEC_REF_LO, R.SEC_REF_HI, R.SEC_REF_CNT] := by
  intro x hx
  simp only [List.mem_cons, List.not_mem_nil, or_false, not_or] at hx
  obtain ⟨hlo, hhi, hcnt⟩ := hx
  simp only [Blk.refLog, Blk.incWrap, Blk.putB]
  rw [Blk.reg_put_other _ _ _ _ hcnt, Blk.reg_put_other _ _ _ _ hhi, Blk.reg_put_other _ _ _ _ hhi,
    Blk.reg_put_other _ _ _ _ hhi, Blk.reg_put_other _ _ _ _ hhi, Blk.reg_put_other _ _ _ _ hhi,
    Blk.reg_put_other _ _ _ _ hlo]

theorem Blk.refLog_reason (b : Blk) (sec : Bool) (ctx kind reason a : Nat) :
    (b.refLog sec ctx kind reason a).fld F.SEC_REF_HI_REASON = reason % 16 := by
  simp only [Blk.refLog, Blk.incWrap]
  rw [Blk.fld_put_reg _ _ _ _ (by decide), Blk.fld_put_other _ _ _ _ (by decide) (by decide) (by decide),
    Blk.fld_put_same _ _ _ (by decide)]
  rfl

theorem Blk.refLog_ctx (b : Blk) (sec : Bool) (ctx kind reason a : Nat) :
    (b.refLog sec ctx kind reason a).fld F.SEC_REF_HI_CTX = ctx % 256 := by
  simp only [Blk.refLog, Blk.incWrap, Blk.putB]
  rw [Blk.fld_put_reg _ _ _ _ (by decide), Blk.fld_put_other _ _ _ _ (by decide) (by decide) (by decide),
    Blk.fld_put_other _ _ _ _ (by decide) (by decide) (by decide),
    Blk.fld_put_other _ _ _ _ (by decide) (by decide) (by decide),
    Blk.fld_put_other _ _ _ _ (by decide) (by decide) (by decide), Blk.fld_put_same _ _ _ (by decide)]
  rfl

theorem Blk.refLog_addr (b : Blk) (sec : Bool) (ctx kind reason : Nat) {a : Nat} (ha : a < 2 ^ 32) :
    (b.refLog sec ctx kind reason a).fld F.SEC_REF_LO_ADDR = a := by
  simp only [Blk.refLog, Blk.incWrap, Blk.putB]
  rw [Blk.fld_put_reg _ _ _ _ (by decide), Blk.fld_put_reg _ _ _ _ (by decide), Blk.fld_put_reg _ _ _ _ (by decide),
    Blk.fld_put_reg _ _ _ _ (by decide), Blk.fld_put_reg _ _ _ _ (by decide), Blk.fld_put_reg _ _ _ _ (by decide),
    Blk.fld_put_word _ _ ⟨rfl, rfl⟩ ha]

theorem Blk.refLog_count (b : Blk) (sec : Bool) (ctx kind reason a : Nat) :
    (b.refLog sec ctx kind reason a).fld F.SEC_REF_CNT_COUNT =
      (b.fld F.SEC_REF_CNT_COUNT + 1) % 2 ^ F.SEC_REF_CNT_COUNT.width := by
  simp only [Blk.refLog, Blk.incWrap, Blk.putB]
  rw [Blk.fld_put_same _ _ _ (by decide), Blk.fld_put_reg _ _ _ _ (by decide), Blk.fld_put_reg _ _ _ _ (by decide),
    Blk.fld_put_reg _ _ _ _ (by decide), Blk.fld_put_reg _ _ _ _ (by decide), Blk.fld_put_reg _ _ _ _ (by decide),
    Blk.fld_put_reg _ _ _ _ (by decide)]

theorem Blk.kc_ne_down_of_attr {b : Blk} {i : Init} {p : Bool × Nat} (h : b.attr i = some p) : b.kc ≠ .down := by
  intro hdown
  have hrun : b.kcRun = false := by simp [Blk.kcRun, hdown]
  cases i <;> simp [Blk.attr, Blk.runs, hrun, hdown] at h

/-- The store of a word that its verdict refuses. -/
theorem Blk.busStore_refused {b : Blk} {i : Init} {a : Nat} {reason src : Option Nat} (v : Nat) (ha4 : a % 4 = 0)
    (hf : isFileReg a = false) (hr : ∀ h, b.recutInit i = some h → b.atInstr h) {p : Bool × Nat}
    (hattr : b.attr i = some p) (hj : b.judge i a true = .refuse reason src) :
    b.busStore i a 4 v = (b.refused i a true reason src).except i 7 a .busError := by
  have hd : b.devVerdict i a true = .refuse reason src := by simp [Blk.devVerdict, hf, hj]
  rw [Blk.busStore, Blk.recutDev_now hr]
  simp [Blk.wordsStore, hattr, ha4, Blk.storeWord, hd, Blk.devRefused]

/-- What a refusal under the owner rule leaves: the entry, the raising, and the answer (R529). -/
theorem Blk.refused_owner {b : Blk} {i : Init} {sec : Bool} {ctx : Nat} (hattr : b.attr i = some (sec, ctx)) (a : Nat) :
    b.refused i a true (some 9) (some 194) =
      { (b.refLog sec ctx 1 9 a).raise 194 (a / 256) (some ctx) with resp := .busError } := by
  simp only [Blk.refused, hattr]
  rfl

/-- The registers of the entry tell of no hart. -/
theorem R.SYSCTL_HART_STAT_notMem_SEC_REF (h : Nat) :
    R.SYSCTL_HART_STAT h ∉ [R.SEC_REF_LO, R.SEC_REF_HI, R.SEC_REF_CNT] := by
  simp [R.SYSCTL_HART_STAT, R.SEC_REF_LO, R.SEC_REF_HI, R.SEC_REF_CNT]
  omega

theorem R.RCX_STAT_notMem_SEC_REF (n : Nat) : R.RCX_STAT n ∉ [R.SEC_REF_LO, R.SEC_REF_HI, R.SEC_REF_CNT] := by
  simp [R.RCX_STAT, R.SEC_REF_LO, R.SEC_REF_HI, R.SEC_REF_CNT]
  omega

/-- So a refused store ends in an exception that reaches its hart alone. -/
theorem Blk.except_refused_hartOnly {b : Blk} {i : Init} {sec : Bool} {ctx : Nat}
    (hattr : b.attr i = some (sec, ctx)) (hr : ∀ h, b.recutInit i = some h → b.atInstr h) (a : Nat) {d : Blk}
    (hd : d = b.refused i a true (some 9) (some 194)) :
    RegsSame b d [R.SEC_REF_LO, R.SEC_REF_HI, R.SEC_REF_CNT] ∧ Blk.HartOnly d (d.except i 7 a .busError) ∧
      (d.except i 7 a .busError).resp = .busError := by
  rw [Blk.refused_owner hattr] at hd
  have hsame : RegsSame b d [R.SEC_REF_LO, R.SEC_REF_HI, R.SEC_REF_CNT] :=
    (b.regsSame_refLog sec ctx 1 9 a).trans
      ((regsSame_of_regs (hd ▸ Blk.raise_regs ..)).mono (List.nil_subset _))
  have hhart : d.hart = b.hart := hd ▸ Blk.raise_hart ..
  have hk : d.k = b.k := hd ▸ Blk.raise_k ..
  have hkc : d.kc = b.kc := hd ▸ Blk.raise_kc ..
  refine ⟨hsame, Blk.except_hartOnly (fun h hh => ?_) 7 a .busError⟩
  have hinit : d.recutInit i = b.recutInit i := by
    cases i with
    | boot | debug => rfl
    | hart j =>
      rw [Blk.recutInit, hsame.runs (R.SYSCTL_HART_STAT_notMem_SEC_REF j) hhart hkc,
        hsame.recut (R.RCX_STAT_notMem_SEC_REF _), Blk.recutInit]
  exact hsame.atInstr (R.SYSCTL_HART_STAT_notMem_SEC_REF h) (R.RCX_STAT_notMem_SEC_REF _) hhart hk hkc
    (hr h (hinit ▸ hh))

/-- Settles O15: the store ends in the refusal's entry, its raising and an exception, which reaches a hart alone. -/
theorem ownerRefusal : Obligations.OwnerRefusal := by
  intro i addr v sec ctx s hmin hmax ha4 hattr hj hr
  have hstore := Blk.busStore_refused v ha4 (isFileReg_outside (.inl (by omega))) hr hattr hj
  generalize hd : s.blk.refused i addr true (some 9) (some 194) = d at hstore
  obtain ⟨hsame, hself, hresp⟩ := Blk.except_refused_hartOnly hattr hr addr hd.symm
  rw [Blk.refused_owner hattr] at hd
  set c := s.blk.refLog sec ctx 1 9 addr
  have hfld (f : Fld) : (d.except i 7 addr .busError).fld f = c.fld f :=
    ((regsSame_of_regs hself.regs).fld List.not_mem_nil).trans
      ((regsSame_of_regs (hd ▸ c.raise_regs ..)).fld List.not_mem_nil)
  have hup : s.blk.kc ≠ .down := Blk.kc_ne_down_of_attr hattr
  have hfcu : d.fcuIn = s.blk.fcuIn ++ [⟨194, some ctx, none, addr / 256⟩] :=
    hd ▸ c.raise_fcuIn 194 (addr / 256) (some ctx) none hup
  refine ⟨s.withBlk (d.except i 7 addr .busError), ?_, hresp, (hfld _).trans (Blk.refLog_reason ..),
    (hfld _).trans (Blk.refLog_ctx ..), (hfld _).trans (Blk.refLog_addr _ _ _ _ _ (by omega)),
    (hfld _).trans (Blk.refLog_count ..), hself.fcuIn.trans hfcu,
    hsame.trans ((regsSame_of_regs hself.regs).mono (List.nil_subset _)), rfl, rfl⟩
  rw [exec_registerWrite i addr v s (by omega), ← hstore]

/-! ## Non-posted writes -/

theorem Blk.nonPosted_of_plan {b : Blk} (h : b.fld F.BPL_STATUS_APPLIED = 0 ∨ b.fld F.BRG_CTL_NP_ALL = 1) (a : Nat) :
    b.nonPosted a = true := by
  rcases h with h | h <;> simp [Blk.nonPosted, Blk.on, h]

theorem Blk.semBreak_k (b : Blk) (a : Nat) : (b.semBreak a).k = b.k := by
  unfold Blk.semBreak
  extract_lets
  split <;> rfl

/-- A transaction enters the bridge behind the others. -/
theorem Blk.txAdd_tx (b : Blk) (x : Tx) : (b.txAdd x).k.brg.tx = b.k.brg.tx ++ [x] := rfl

/-- The transaction that a non-posted write of initiator `i` makes (R575). -/
def Blk.nonPostedTx (b : Blk) (i : Init) (a v c : Nat) : Tx :=
  { init := i, mark := i == .boot, write := true, posted := false, addr := a, val := v, ctx := c, gen := b.genOf c,
    tick := b.clk, late := (b.recutInit i).isSome }

theorem Blk.fieldWrite_nonPosted {b : Blk} {i : Init} {a c : Nat} {sec : Bool} (hattr : b.attr i = some (sec, c))
    (hnp : b.nonPosted a = true) (htags : b.tags < 32) (v : Nat) :
    b.fieldWrite i a v = { (b.semBreak a).txAdd (b.nonPostedTx i a v c) with resp := .pending } := by
  simp [Blk.fieldWrite, hattr, hnp, Nat.not_le.2 htags, Blk.nonPostedTx]

/-- An accepted store of a word of field space is sent to the bridge. -/
theorem Blk.busStore_field {b : Blk} {i : Init} {a : Nat} (v : Nat) (ha4 : a % 4 = 0) (hmin : 0x50000000 ≤ a)
    {p : Bool × Nat} (hattr : b.attr i = some p) (hdirect : b.recutInit i = none)
    (hj : b.judge i a true = .accept) : b.busStore i a 4 v = b.fieldWrite i a (v % 2 ^ 32) := by
  have hf : isFileReg a = false := isFileReg_outside (.inr (by omega))
  have hd : b.devVerdict i a true = .accept := by simp [Blk.devVerdict, hf, hj]
  rw [Blk.busStore, Blk.recutDev_now (by simp [hdirect])]
  simp [Blk.wordsStore, hattr, ha4, Blk.storeWord, hd, hdirect, Blk.sendWord, hf, hmin]

/-- Settles O16: such a write is non-posted, and while a tag is free it enters the bridge. -/
theorem fieldWriteNonPosted : Obligations.FieldWriteNonPosted := by
  intro i addr v c sec s hmin hmax ha4 hattr hdirect hj hplan htags
  have hstore := Blk.busStore_field v ha4 hmin hattr hdirect hj
  rw [Blk.fieldWrite_nonPosted hattr (Blk.nonPosted_of_plan hplan addr) htags] at hstore
  refine ⟨s.withBlk { (s.blk.semBreak addr).txAdd (s.blk.nonPostedTx i addr (v % 2 ^ 32) c) with resp := .pending },
    s.blk.nonPostedTx i addr (v % 2 ^ 32) c, ?_, ?_, rfl, rfl, rfl, rfl, rfl, rfl, rfl, rfl⟩
  · rw [exec_registerWrite i addr v s (by omega), ← hstore]
  · dsimp only [State.withBlk]
    rw [Blk.txAdd_tx, Blk.semBreak_k]

end Sys2Proof.Machine
end

section
/-!
PROOFS. The commands of the harts (R470 to R472, R474, R484, R485, R489, R491, R496), and those of page ownership,
scrubbing, the passages between the worlds and the clock gates (R478, R480, R526, R531, R535 to R539, R542 to R546).
-/

namespace Sys2Proof.Machine

/-! ## Harts -/

/-- The timer of kind `kind` is looked at with the compare value that software last wrote (R470). -/
theorem exec_timerInterrupt {h kind cmp : Nat} {s : State} (hrun : s.blk.kcRun = true)
    (hok : (isHart h && decide (kind < 3) && (kind == 0 || isApp h)) = true) :
    exec (.timerInterrupt h kind cmp) s = .next (s.withBlk ((s.blk.setHart h
      (if kind = 1 then { s.blk.hartOf h with stimecmp := cmp % 2 ^ 64 }
        else if kind = 2 then { s.blk.hartOf h with vstimecmp := cmp % 2 ^ 64 }
        else s.blk.hartOf h)).timerSync h)) := by
  dsimp only [exec, execTimerInterrupt]
  rw [onBlk_withBlk hok, if_pos hrun]

theorem exec_fence {h : Nat} {s : State} (hh : isHart h = true) (hr : s.blk.runs h = true) :
    exec (.fence h) s = .next (s.withBlk
      (if s.blk.recut h then s.blk.serialise h .fence 0 0 else s.blk.fence h)) := by
  dsimp only [exec, execFence]
  rw [onBlk_withBlk hh, hr]
  rfl

theorem exec_fenceI {h : Nat} {s : State} (hh : isHart h = true) (hr : s.blk.runs h = true) :
    exec (.fenceI h) s = .next (s.withBlk
      (if s.blk.recut h then s.blk.serialise h .fenceI 0 0 else s.blk.fenceI h)) := by
  dsimp only [exec, execFenceI]
  rw [onBlk_withBlk hh, hr]
  rfl

theorem exec_fenceField {h rd : Nat} {s : State} (hh : isHart h = true) (hrd : rd < 32) (hr : s.blk.runs h = true) :
    exec (.fenceField h rd) s = .next (s.withBlk
      (if s.blk.recut h then s.blk.serialise h (.fenceField rd) 0 0 (some rd) else s.blk.ffBegin h rd)) := by
  dsimp only [exec, execFenceField]
  rw [onBlk_withBlk (by simp [hh, hrd]), hr]
  rfl

/-- With no access to wait for a fence is done (R484). -/
theorem Blk.fence_free {b : Blk} {h : Nat} (hw : b.waits h = false) : b.fence h = b.acked := by
  simp [Blk.fence, Blk.acked, hw]

theorem Blk.fenceI_free {b : Blk} {h : Nat} (hw : b.waits h = false) :
    b.fenceI h = if isApp h then b.acked.lineDrop (fun c _ => c == h) else b.acked := by
  cases happ : isApp h <;> simp [Blk.fenceI, Blk.fence_free hw, hw, happ]

/-- An accepted write of one of the two registers of the file at page `p` (R489) makes an identity pending in the
file. -/
theorem Blk.busStore_file {b : Blk} {i : Init} {p a o : Nat} {sec : Bool} {ctx : Nat} (v : Nat) (hp : isFile p = true)
    (hpage : a / 4096 = p) (hoff : a % 4096 = o) (ho : o = 0 ∨ o = 4) (hattr : b.attr i = some (sec, ctx))
    (hv : b.hvStop i = false) (hdirect : b.recutInit i = none) (hown : icuAccepts a sec ctx = true)
    (hpmp : b.pmpOk i .write a 4 = true) :
    b.busStore i a 4 v = (b.fileDeliver p (if o = 4 then swap32 v else v % 2 ^ 32)).acked := by
  have hf : isFileReg a = true := by
    rw [isFileReg, hpage, hoff, hp]
    rcases ho with rfl | rfl <;> rfl
  have halign : a % 4 = 0 := by omega
  have hd : b.devVerdict i a true = .accept := by simp [Blk.devVerdict, hf, hattr, hv, hpmp, hown]
  rw [Blk.busStore, Blk.recutDev_now (by simp [hdirect])]
  simp [Blk.wordsStore, hattr, halign, Blk.storeWord, hd, hdirect, Blk.sendWord, hf, hpage, hoff, Blk.acked]

theorem exec_seteipnumWrite {i : Init} {p : Nat} {s : State} (hp : isFile p = true) (be : Bool) (v : Nat) :
    exec (.seteipnumWrite i p be v) s =
      .next (s.withBlk (s.blk.busStore i (p * 4096 + if be then 4 else 0) 4 v)) := by
  dsimp only [exec, execSeteipnumWrite]
  exact onBlk_withBlk hp s _

/-- Settles O52: the writes of SYSCTL_HART_CTL are accepted writes, fences meet a core in Recut or in Single mode, the
registers of a file are reached by a store, and the others are events of a hart or of a queue pair. -/
theorem hartCommands : Obligations.HartCommands := by
  refine ⟨?timerInterrupt, ?release, ?reset, ?hartCmdNone, ?fence, ?fenceI, ?fenceField, ?fenceFieldComplete,
    ?seteipnumWrite, ?msiDelivery⟩
  case timerInterrupt =>
    exact fun h cmp s hrun => ⟨fun hh => exec_timerInterrupt hrun (by simp [hh]),
      fun happ => exec_timerInterrupt hrun (by simp [isHart_of_isApp happ, happ]),
      fun happ => exec_timerInterrupt hrun (by simp [isHart_of_isApp happ, happ])⟩
  case release | reset => exact fun i h key s hh hw => onBlk_onWrite hh hw _ _
  case hartCmdNone => exact fun i h s hh hw => onBlk_onWrite hh hw _ _
  case fence =>
    exact fun h s hh hr => ⟨exec_fence hh hr, fun hsingle hw => by
      rw [exec_fence hh hr, hsingle, if_neg Bool.false_ne_true, Blk.fence_free hw]⟩
  case fenceI =>
    exact fun h s hh hr => ⟨exec_fenceI hh hr, fun hsingle hw => by
      rw [exec_fenceI hh hr, hsingle, if_neg Bool.false_ne_true, Blk.fenceI_free hw]⟩
  case fenceField => exact fun h rd s hh hrd hr => exec_fenceField hh hrd hr
  case fenceFieldComplete =>
    intro h s hh
    dsimp only [exec, execFenceFieldComplete]
    exact onBlk_withBlk hh s _
  case seteipnumWrite =>
    intro i p v sec ctx s hp hattr hv hdirect
    refine ⟨fun hown hpmp => ?_, fun hown hpmp => ?_⟩
    · have hbus := Blk.busStore_file v hp (by omega) (by omega) (.inl rfl) hattr hv hdirect hown hpmp
      simpa [hbus] using exec_seteipnumWrite (i := i) (s := s) hp false v
    · have hbus := Blk.busStore_file v hp (by omega) (by omega) (.inr rfl) hattr hv hdirect hown hpmp
      simpa [hbus] using exec_seteipnumWrite (i := i) (s := s) hp true v
  case msiDelivery => exact fun q s hq => onBlk_unit hq s _

/-! ## The passages between the worlds -/

theorem Blk.cmdOp_hartOnly {b : Blk} {h : Nat} (hp : b.phase h ≠ 1) : Blk.HartOnly b (b.cmdOp h) := by
  have htake (f : RegOp → Bool) : (b.redoTake h f).phase h ≠ 1 := by rwa [(b.redoTake_hartOnly h f).phase]
  unfold Blk.cmdOp
  split
  · exact (b.redoTake_hartOnly h _).trans (Blk.doOp_hartOnly _ (htake _) _ _)
  · extract_lets d
    have hd : Blk.HartOnly b d.2 := (b.redoTake_hartOnly h _).trans ⟨rfl, rfl, rfl, rfl, rfl⟩
    exact hd.trans (Blk.doOp_hartOnly _ (by rwa [hd.phase]) _ _)

theorem Blk.endAct_ending (b : Blk) (h : Nat) (a : Act) :
    ((b.endAct h a).hartOf h).ending = true ∧ (b.endAct h a).resp = .pending :=
  ⟨congrArg Hart.ending (b.hartOf_setHart h _), rfl⟩

/-- A GATE or GATE.RET of a core in pass one ends the slice: after itself, before itself for an interrupt, or where an
instruction before it has ended the slice already (R510, R537, R540). -/
theorem Blk.endWith_recut {b : Blk} {h : Nat} (hrecut : b.recut h = true) (hat : b.atInstr h) (a : Act)
    (pc : Option Nat) (f : Blk → Blk) :
    ((b.endWith h a pc f).hartOf h).ending = true ∧ (b.endWith h a pc f).resp = .pending ∧
      RegsSame b (b.endWith h a pc f) [] := by
  have hp : b.phase h ≠ 1 := by simp [hat.2.1]
  have hseg := b.segment_hartOnly hp
  rw [Blk.endWith, if_pos hrecut, b.atOne_atInstr hat]
  extract_lets b1
  split
  case isTrue hending => exact ⟨hending, rfl, regsSame_of_regs hseg.regs⟩
  case isFalse hopen =>
    split
    case isTrue interrupt =>
      exact ⟨congrArg Hart.ending (b1.hartOf_setHart h _), rfl, regsSame_of_regs hseg.regs⟩
    case isFalse uninterrupted =>
      have hcmd : Blk.HartOnly b1 (b1.cmdOp h) := Blk.cmdOp_hartOnly (by rwa [hseg.phase])
      obtain ⟨hend, hresp⟩ := (b1.cmdOp h).endAct_ending h a
      exact ⟨hend, hresp, regsSame_of_regs ((hseg.trans hcmd).trans (Blk.endAct_hartOnly _ h a)).regs⟩

/-- In Single mode it takes effect at once, where no interrupt is taken first (R540). -/
theorem Blk.endWith_single {b : Blk} {h : Nat} (hsingle : b.recut h = false) (hirq : b.irq h = none) (a : Act)
    (pc : Option Nat) (f : Blk → Blk) : b.endWith h a pc f = f b := by
  simp [Blk.endWith, hsingle, hirq]

theorem exec_gate {h pc rs1 : Nat} {pa : Option Nat} {err : Bool} {s : State} (hh : isHart h = true)
    (hr : s.blk.runs h = true) :
    exec (.gate h pc rs1 pa err) s = .next (s.withBlk
      (s.blk.endWith h (.gate pc rs1 pa err) (some pc) (fun b => b.gate s.mem h pc rs1 pa err))) := by
  dsimp only [exec, execGate]
  rw [onBlk_withBlk hh, if_pos hr]

theorem exec_gateRet {h : Nat} {wr : Option (Nat × Nat)} {s : State} (hh : isHart h = true)
    (hr : s.blk.runs h = true) :
    exec (.gateRet h wr) s = .next (s.withBlk
      (s.blk.endWith h (.gateRet wr) none (fun b => b.gateRetWith h wr))) := by
  dsimp only [exec, execGateRet]
  rw [onBlk_withBlk hh, if_pos hr]

/-- What software wrote to mgret and mgretpc in the secure world is what GATE.RET returns by (R527). -/
theorem Blk.gateRetWith_secure {b : Blk} {h : Nat} (hw : (b.hartOf h).w = true) (hm : (b.hartOf h).prv = 3)
    (g pc : Nat) :
    b.gateRetWith h (some (g, pc)) = (b.setHart h ((b.hartOf h).setRet g pc)).gateRet h := by
  simp [Blk.gateRetWith, hw, hm]

/-! ## Scrubbing -/

theorem exec_dramClearComplete {s : State} (hrun : s.blk.kcRun = true) :
    exec .dramClearComplete s = .next (s.withBlk { s.blk.put F.SYSCTL_SCRUB_DRAM_CLR 0 with
      k := { (s.blk.put F.SYSCTL_SCRUB_DRAM_CLR 0).k with cleared := [] } }) := onBlk_of_eq (if_pos hrun)

/-- A scrub that is due is made (R478). -/
theorem exec_scrubPass {k : Nat} {s : State} (hk : k = 3 ∨ k = 5) (hrun : s.blk.kcRun = true)
    (hdue : s.blk.scrubDue k = true) (ce ue : List Nat) :
    exec (.scrubPass k ce ue) s = .next (s.withBlk (s.blk.scrub k ce ue)) := by
  dsimp only [exec, execScrubPass]
  rw [onBlk_withBlk (by simpa using hk), if_pos (by simp [hrun, hdue])]

/-- Settles O54: page ownership and the clock gates are accepted writes and events; a passage between the worlds takes
effect at once in Single mode and ends the slice in Recut mode. -/
theorem memoryAndWorldCommands : Obligations.MemoryAndWorldCommands := by
  refine ⟨?potFetch, ?dramClearComplete, ?scrubPass, ?gate, ?gateRet, ?keystone, ?hvctxWrite, ?potEnable,
    ?potInvalidate, ?potInvalidateDone, ?gateRequest, ?gateRelease, ?gateChangeComplete, ?gateQuiesceTimeout⟩
  case potFetch => exact fun s => onMem_withMem s _
  case dramClearComplete => exact fun s hrun => exec_dramClearComplete hrun
  case scrubPass => exact fun k ce ue s hk hrun hdue => exec_scrubPass hk hrun hdue ce ue
  case gate =>
    refine fun h pc rs1 pa err s hh hr => ⟨fun hsingle hirq => ?_, fun hrecut hat => ?_⟩
    · rw [exec_gate hh hr, Blk.endWith_single hsingle hirq]
    · obtain ⟨hend, hresp, hsame⟩ := Blk.endWith_recut hrecut hat (.gate pc rs1 pa err) (some pc) _
      exact ⟨_, exec_gate hh hr, hend, hresp, hsame, rfl, rfl⟩
  case gateRet =>
    refine fun h g pc s hh hr => ⟨fun hsingle hirq => ⟨?_, fun hw hm => ?_⟩, fun hrecut hat => ?_⟩
    · rw [exec_gateRet hh hr, Blk.endWith_single hsingle hirq]
      rfl
    · rw [exec_gateRet hh hr, Blk.endWith_single hsingle hirq, Blk.gateRetWith_secure hw hm]
    · obtain ⟨hend, hresp, hsame⟩ := Blk.endWith_recut hrecut hat (.gateRet none) none _
      exact ⟨_, exec_gateRet hh hr, hend, hresp, hsame, rfl, rfl⟩
  case keystone =>
    intro h s hh hr
    dsimp only [exec, execKeystone]
    rw [onBlk_withBlk hh, hr]
    rfl
  case hvctxWrite =>
    intro h v s happ hr hv hprv hw hctx hpart
    rw [exec_hvctxWrite happ hr hv hprv, Blk.hvctxSet_taken hw hctx hpart]
    rfl
  case potEnable => exact fun i v s hw => onBlk_onWrite rfl hw v _
  case potInvalidate => exact fun i first s hw => onBlk_onWrite rfl hw _ _
  case potInvalidateDone => exact fun f n s hinv => exec_potInvalidateDone hinv
  case gateRequest | gateRelease => exact fun i g v s hg hw => onBlk_onWrite hg hw v _
  case gateChangeComplete | gateQuiesceTimeout => exact fun g s hg => onBlk_withBlk hg s _

end Sys2Proof.Machine
end

section
/-!
PROOFS. The commands of Recut execution (R501 to R520): a command that finds its core in pass one is executed at once,
and whatever a slice has run, pass two of it leaves nothing that a comparator flags (R503, R505).
-/

namespace Sys2Proof.Machine

/-! ## A core in pass one -/

theorem not_isApp_of_isSafety {h : Nat} (hs : isSafety h = true) : isApp h = false := by
  simp only [isSafety, isApp, Bool.and_eq_true, decide_eq_true_eq, decide_eq_false_iff_not] at *
  omega

theorem isHart_of_isSafety {h : Nat} (hs : isSafety h = true) : isHart h = true := by simp [isHart, hs]

theorem Blk.endSlice_hartOnly (b : Blk) (h : Nat) : Blk.HartOnly b (b.endSlice h) := Blk.HartOnly.setHart b h _

theorem Blk.redoGo_hartOnly {b : Blk} {h : Nat} (hp : b.phase h ≠ 1) : Blk.HartOnly b (b.redoGo h) := by
  unfold Blk.redoGo
  extract_lets x rest b1
  have hrun : Blk.HartOnly b b1 := (Blk.HartOnly.setHart b h _).trans
    (Blk.HartOnly.foldl _ (fun c => c.phase h ≠ 1) (fun c o hc => c.doInner_hartOnly hc o)
      (fun c d hd hc => by rwa [hd.phase]) _ _ hp)
  split
  · exact Blk.HartOnly.refl b
  · split
    · exact hrun.trans (Blk.endSlice_hartOnly _ h)
    · exact hrun

/-- What hart `h` runs leaves its request for a debug halt as it is. -/
def Blk.DbgReqSame (h : Nat) (b c : Blk) : Prop := (c.hartOf h).dbgReq = (b.hartOf h).dbgReq

theorem Blk.dbgReqSame_foldl {α : Type} {h : Nat} {f : Blk → α → Blk} (hf : ∀ b x, Blk.DbgReqSame h b (f b x))
    (l : List α) (b : Blk) : Blk.DbgReqSame h b (l.foldl f b) := by
  induction l generalizing b with
  | nil => rfl
  | cons x l ih => exact (ih (f b x)).trans (hf b x)

theorem Blk.DbgReqSame.setHart {h : Nat} {b c : Blk} (hbc : Blk.DbgReqSame h b c) {x : Hart}
    (hx : x.dbgReq = (c.hartOf h).dbgReq) : Blk.DbgReqSame h b (c.setHart h x) :=
  ((congrArg Hart.dbgReq (c.hartOf_setHart h x)).trans hx).trans hbc

theorem Blk.dbgReqSame_doOp (h : Nat) (b : Blk) (o : RegOp) (r : Nat) : Blk.DbgReqSame h b (b.doOp h o r) := by
  have hbegin : Blk.DbgReqSame h b (b.beginOne h) := by
    unfold Blk.beginOne
    split
    · refine Blk.DbgReqSame.setHart (c := b.put _ _) rfl ?_
      rfl
    · rfl
  have hecho (c : Blk) (e : Echo) : Blk.DbgReqSame h c (c.echo h e) := by
    refine Blk.DbgReqSame.setHart (c := c) rfl ?_
    rfl
  unfold Blk.doOp
  extract_lets b1 x p b2
  have hrun : Blk.DbgReqSame h b b2 := by
    refine (Blk.dbgReqSame_foldl hecho _ _).trans (hbegin.setHart ?_)
    rfl
  split
  · refine hrun.setHart ?_
    rfl
  · exact hrun

theorem Blk.dbgReqSame_doInner (h : Nat) (b : Blk) (o : RegOp) : Blk.DbgReqSame h b (b.doInner h o) := by
  unfold Blk.doInner
  split
  · rfl
  · split
    · split
      · exact Blk.dbgReqSame_doOp h b _ _
      · rfl
    · exact Blk.dbgReqSame_doOp h b _ _

theorem Blk.dbgReqSame_endBefore (h : Nat) (b : Blk) : Blk.DbgReqSame h b (b.endBefore h) := by
  have hseg : Blk.DbgReqSame h b (b.segment h) := by
    unfold Blk.segment
    split
    · rfl
    · exact Blk.dbgReqSame_foldl (fun c o => Blk.dbgReqSame_doInner h c o) _ _
  refine hseg.setHart ?_
  rfl

/-! ## Commands -/

/-- A debug halt in Single mode halts the hart. -/
theorem Blk.haltReq_single {b : Blk} {h : Nat} (hr : b.runs h = true) (hdbg : b.fld F.KV_STAT_DBG_LEVEL ≠ 0)
    (hsingle : b.recut h = false) : (b.haltReq h).fld (F.SYSCTL_HART_STAT_STATE h) = 3 := by
  simp only [Blk.haltReq, hr, hdbg, hsingle, Bool.true_or, Bool.not_true, Bool.false_or, beq_iff_eq, if_false,
    Bool.false_eq_true]
  exact Blk.fld_put_same _ _ 3 (by simp [Fld.Ok, F.SYSCTL_HART_STAT_STATE])

/-- In Recut mode it waits for the end of the slice (R514). -/
theorem Blk.haltReq_recut {b : Blk} {h : Nat} (hr : b.runs h = true) (hdbg : b.fld F.KV_STAT_DBG_LEVEL ≠ 0)
    (hrecut : b.recut h = true) : ((b.haltReq h).hartOf h).dbgReq = true := by
  have hset (c : Blk) (x : Hart) : ((c.setHart h { x with dbgReq := true }).hartOf h).dbgReq = true :=
    congrArg Hart.dbgReq (c.hartOf_setHart h _)
  simp only [Blk.haltReq, hr, hdbg, hrecut, Bool.true_or, Bool.not_true, Bool.false_or, beq_iff_eq, if_true,
    if_false]
  split
  · exact (Blk.dbgReqSame_endBefore h _).trans (hset _ _)
  · exact hset _ _

theorem F.rcxStat_ok (n : Nat) : (F.RCX_STAT_GROUP n).Ok ∧ (F.RCX_STAT_PHASE n).Ok ∧ (F.RCX_STAT_MODE n).Ok := by
  simp [Fld.Ok, F.RCX_STAT_GROUP, F.RCX_STAT_PHASE, F.RCX_STAT_MODE]

/-- A group is open after RECUT.BEGIN in pass one (R512). -/
theorem Blk.group_groupBegin {b : Blk} {h : Nat} (hat : b.atInstr h) :
    (b.groupBegin h).fld (F.RCX_STAT_GROUP (h - 16)) = 1 := by
  obtain ⟨hgroup, hphase, -⟩ := F.rcxStat_ok (h - 16)
  have hp : b.phase h ≠ 1 := by simp [hat.2.1]
  have hcmd : Blk.HartOnly b (b.cmdOp h) := Blk.cmdOp_hartOnly hp
  have hsame {c d : Blk} (hd : Blk.HartOnly c d) (f : Fld) : d.fld f = c.fld f :=
    (regsSame_of_regs hd.regs).fld List.not_mem_nil
  unfold Blk.groupBegin
  extract_lets b1 x b2
  have hb2 : b2.phase h ≠ 1 ∧ b2.fld (F.RCX_STAT_GROUP (h - 16)) = 1 := by
    dsimp only [b2]
    split
    case isTrue hopen =>
      have hlt : b.fld (F.RCX_STAT_GROUP (h - 16)) < 2 := Fld.get_lt (F.RCX_STAT_GROUP (h - 16)) _
      have hne : b.fld (F.RCX_STAT_GROUP (h - 16)) ≠ 0 := by simpa [Blk.on] using hopen
      exact ⟨by rwa [hcmd.phase], (hsame hcmd _).trans (by omega)⟩
    case isFalse hclosed =>
      have hput : (b1.put (F.RCX_STAT_GROUP (h - 16)) 1).phase h = b.phase h :=
        (Blk.fld_put_other _ _ _ 1 hgroup hphase (by simp [F.RCX_STAT_GROUP, F.RCX_STAT_PHASE])).trans (hcmd.phase h)
      exact ⟨by rwa [(Blk.HartOnly.setHart _ h _).phase, hput],
        (hsame (Blk.HartOnly.setHart _ h _) _).trans (Blk.fld_put_same _ _ 1 hgroup)⟩
  obtain ⟨hne, hopen⟩ := hb2
  exact (hsame (Blk.redoGo_hartOnly hne) _).trans hopen

theorem exec_recutBegin {h : Nat} {s : State} (hs : isSafety h = true) (hr : s.blk.runs h = true) :
    exec (.recutBegin h) s = .next (s.withBlk
      (if s.blk.recut h then s.blk.atOne h (fun b => b.groupBegin h) else s.blk.acked)) := by
  dsimp only [exec, execRecutBegin]
  rw [onBlk_withBlk (isHart_of_isSafety hs), hr, not_isApp_of_isSafety hs]
  cases s.blk.recut h <;> rfl

/-- RECUT.END and RECUT.MODE in Single mode give their status at once (R513, R517). -/
def Blk.giveStatus (b : Blk) (h : Nat) (refused : Bool) : Blk :=
  { b.giveRd h (b.recutStatus h refused false false) with resp := .data (b.recutStatus h refused false false) }

theorem Blk.giveStatus_regs (b : Blk) (h : Nat) (refused : Bool) : (b.giveStatus h refused).regs = b.regs := rfl

theorem exec_recutEnd {h : Nat} {s : State} (hs : isSafety h = true) (hr : s.blk.runs h = true) :
    exec (.recutEnd h) s = .next (s.withBlk
      (if s.blk.recut h then s.blk.atOne h (fun b => b.groupEnd h) else s.blk.giveStatus h false)) := by
  dsimp only [exec, execRecutEnd]
  rw [onBlk_withBlk (isHart_of_isSafety hs), hr, not_isApp_of_isSafety hs]
  cases s.blk.recut h <;> rfl

/-- The slice ends with RECUT.END, or has ended before it (R501). -/
theorem Blk.groupEnd_ending (b : Blk) (h : Nat) :
    ((b.groupEnd h).hartOf h).ending = true ∧ (b.groupEnd h).resp = .pending := by
  unfold Blk.groupEnd
  extract_lets b1
  split
  case isTrue hending => exact ⟨hending, rfl⟩
  case isFalse hopen => exact (b1.cmdOp h).endAct_ending h .recutEnd

theorem exec_recutMode {h v : Nat} {s : State} (hs : isSafety h = true) (hr : s.blk.runs h = true)
    (hm : (s.blk.hartOf h).prv = 3) :
    exec (.recutMode h v) s = .next (s.withBlk
      (if s.blk.recut h then s.blk.serialise h (.mode (v % 2 == 1)) 0 v
        else if !s.blk.on (F.RCX_STAT_SWITCHABLE (h - 16)) then s.blk.giveStatus h true
        else if v % 2 = 1 then
          (((s.blk.ranAlone h).put (F.RCX_STAT_MODE (h - 16)) 1).giveStatus h false).newSlice h
        else s.blk.giveStatus h false)) := by
  dsimp only [exec, execRecutMode]
  rw [onBlk_withBlk (isHart_of_isSafety hs), hr, not_isApp_of_isSafety hs, hm]
  rfl

/-- A new slice is in its start phase, and its checkpoint is what it starts from (R500, R501). -/
theorem Blk.newSlice_fresh (b : Blk) (h : Nat) :
    (b.newSlice h).fld (F.RCX_STAT_PHASE (h - 16)) = 1 ∧
      ((b.newSlice h).hartOf h).cp = ((b.newSlice h).hartOf h).p1 ∧ ((b.newSlice h).hartOf h).prog = [] := by
  obtain ⟨-, hphase, -⟩ := F.rcxStat_ok (h - 16)
  have hx : (b.newSlice h).hartOf h = _ := Blk.hartOf_setHart _ h _
  refine ⟨b.fld_put_same (F.RCX_STAT_PHASE (h - 16)) 1 hphase, ?_, ?_⟩ <;> rw [hx] <;> rfl

theorem Blk.ranAlone_regs (b : Blk) (h : Nat) : (b.ranAlone h).regs = b.regs := rfl

/-- RECUT.MODE starts Recut mode with a slice (R513). -/
theorem Blk.recutStart (b : Blk) (h : Nat) :
    (((b.put (F.RCX_STAT_MODE (h - 16)) 1).giveStatus h false).newSlice h).fld (F.RCX_STAT_MODE (h - 16)) = 1 ∧
      RegsSame b (((b.put (F.RCX_STAT_MODE (h - 16)) 1).giveStatus h false).newSlice h) [R.RCX_STAT (h - 16)] := by
  obtain ⟨-, hphase, hmode⟩ := F.rcxStat_ok (h - 16)
  have hgive := regsSame_of_regs (Blk.giveStatus_regs (b.put (F.RCX_STAT_MODE (h - 16)) 1) h false)
  have hstart (c : Blk) : RegsSame c (c.newSlice h) [R.RCX_STAT (h - 16)] :=
    c.regsSame_put (F.RCX_STAT_PHASE (h - 16)) 1
  refine ⟨?_, ((b.regsSame_put _ 1).trans (hgive.mono (List.nil_subset _))).trans (hstart _)⟩
  calc
    _ = ((b.put (F.RCX_STAT_MODE (h - 16)) 1).giveStatus h false).fld (F.RCX_STAT_MODE (h - 16)) :=
      Blk.fld_put_other _ (F.RCX_STAT_PHASE (h - 16)) _ 1 hphase hmode (by simp [F.RCX_STAT_PHASE, F.RCX_STAT_MODE])
    _ = (b.put (F.RCX_STAT_MODE (h - 16)) 1).fld (F.RCX_STAT_MODE (h - 16)) := hgive.fld List.not_mem_nil
    _ = 1 := b.fld_put_same _ 1 hmode

/-- A slice that the comparators pass goes on to its commit (R505, R506). -/
theorem Blk.passTwo_clean {b : Blk} {h : Nat} (hnow : b.passTwoNow h = true) (hbad : (b.hartOf h).badAt = none)
    (hraw : (b.hartOf h).rawEnd = false) (hsig : (b.hartOf h).sigEnd = false) :
    (b.passTwo h).fld (F.RCX_STAT_PHASE (h - 16)) = 5 := by
  obtain ⟨-, hphase, -⟩ := F.rcxStat_ok (h - 16)
  simp only [Blk.passTwo, hnow, hbad, hraw, hsig, Bool.or_self, Bool.false_eq_true, if_true, if_false]
  exact b.fld_put_same (F.RCX_STAT_PHASE (h - 16)) 5 hphase

/-! ## What pass two compares -/

/-- Pass two of a slice that has run `l` mirrors its pass one (R503). -/
theorem Hart.ranSlice_mirrors (x : Hart) (rets : Sparse Nat) (l : List RegOp) :
    (x.ranSlice rets l).p1.Mirrors (x.ranSlice rets l).passTwo.r ∧
      (x.ranSlice rets l).outs2 = (x.ranSlice rets l).echo := by
  obtain ⟨hfiles, houts⟩ := Pass.run_mirrors (fun k => BitVec.ofNat 32 (rets.get (fun _ => 0) k)) l
    (p := ⟨x.p1, []⟩) (q := ⟨x.p1.transform, []⟩) ⟨x.p1.mirrors_transform, rfl⟩
  exact ⟨hfiles, congrArg List.reverse houts⟩

/-- The signatures that pass one stores are those of its entries. -/
theorem get_sigs (es : List Echo) (n : Nat) {k : Nat} (hk : k < n) :
    ((List.range n).foldl (fun m k => m.set (fun _ => 0) k ((es[k]?).getD ⟨0, 0, 0, 0⟩).sig) [] : Sparse Nat).get
      (fun _ => 0) k = ((es[k]?).getD ⟨0, 0, 0, 0⟩).sig := by
  induction n with
  | zero => omega
  | succ n ih =>
    rw [List.range_succ, List.foldl_append, List.foldl_cons, List.foldl_nil, Sparse.get_set]
    split
    · subst_vars
      rfl
    · exact ih (by omega)

/-- No comparator flags an output of such a slice, or what its passes leave (R505). -/
theorem Hart.ranSlice_clean (x : Hart) (rets : Sparse Nat) (l : List RegOp) :
    (x.ranSlice rets l).badAt = none ∧ (x.ranSlice rets l).rawEnd = false ∧ (x.ranSlice rets l).sigEnd = false := by
  obtain ⟨hfiles, houts⟩ := x.ranSlice_mirrors rets l
  have hwords := hfiles.words
  have hcsrs : (x.ranSlice rets l).cpC = (x.ranSlice rets l).c := rfl
  refine ⟨List.find?_eq_none.2 fun k hk => ?_, ?_, ?_⟩
  · rw [houts, max_self, List.mem_range] at hk
    have hsig : (x.ranSlice rets l).sigs.get (fun _ => 0) k = ((x.ranSlice rets l).echo[k]).sig := by
      exact (get_sigs (x.ranSlice rets l).echo _ hk).trans (by rw [List.getElem?_eq_getElem hk, Option.getD_some])
    simp [Hart.rawAt, Hart.sigAt, Hart.lost, houts, List.getElem?_eq_getElem hk, hsig]
  · simp [Hart.rawEnd, hwords, hcsrs]
  · simp [Hart.sigEnd, hwords, hcsrs]

/-- Settles O53: a command that finds its core in pass one is executed at once, one in Single mode gives its status, and
the others are events of a phase; the two passes of a slice mirror each other. -/
theorem recutCommands : Obligations.RecutCommands := by
  refine ⟨?debugHaltRequest, ?recutBegin, ?recutEnd, ?recutMode, ?passOneEnd, ?passOneCycleLimit, ?echoLogFull,
    ?passTwoComplete, Hart.ranSlice_clean, ?sliceMismatch, ?commitComplete⟩
  case debugHaltRequest =>
    refine fun h s hh hr hdbg => ⟨?_, Blk.haltReq_single hr hdbg, Blk.haltReq_recut hr hdbg⟩
    exact onBlk_withBlk hh s (fun b => b.haltReq h)
  case recutBegin =>
    refine fun h s hs hr => ⟨fun hsingle => ?_, fun hrecut hat => ⟨?_, Blk.group_groupBegin hat⟩⟩
    · rw [exec_recutBegin hs hr, hsingle, if_neg Bool.false_ne_true]
    · rw [exec_recutBegin hs hr, if_pos hrecut, s.blk.atOne_atInstr hat]
  case recutEnd =>
    refine fun h s hs hr => ⟨fun hsingle => ?_, fun hrecut hat => ⟨?_, s.blk.groupEnd_ending h⟩⟩
    · rw [exec_recutEnd hs hr, hsingle, if_neg Bool.false_ne_true]
      rfl
    · rw [exec_recutEnd hs hr, if_pos hrecut, s.blk.atOne_atInstr hat]
  case recutMode =>
    refine fun h v s hs hr hm => ⟨fun hrecut => ?_, fun hsingle hfixed => ?_,
      fun hsingle hswitch => ⟨fun heven => ?_, fun hodd => ?_⟩⟩
    · rw [exec_recutMode hs hr hm, if_pos hrecut]
    · rw [exec_recutMode hs hr hm]
      simp only [hsingle, Blk.on, hfixed]
      rfl
    · rw [exec_recutMode hs hr hm]
      simp [hsingle, Blk.on, hswitch, heven, Blk.giveStatus]
    · obtain ⟨hmode, hsame⟩ := (s.blk.ranAlone h).recutStart h
      obtain ⟨hphase, hcp, hprog⟩ :=
        Blk.newSlice_fresh (((s.blk.ranAlone h).put (F.RCX_STAT_MODE (h - 16)) 1).giveStatus h false) h
      have hran : RegsSame s.blk (s.blk.ranAlone h) [R.RCX_STAT (h - 16)] :=
        (regsSame_of_regs (Blk.ranAlone_regs _ h)).mono (List.nil_subset _)
      have hexec : exec (.recutMode h v) s = .next (s.withBlk
          ((((s.blk.ranAlone h).put (F.RCX_STAT_MODE (h - 16)) 1).giveStatus h false).newSlice h)) := by
        rw [exec_recutMode hs hr hm]
        simp [hsingle, Blk.on, hswitch, hodd]
      exact ⟨_, hexec, hmode, hphase, hcp, hprog, hran.trans hsame, rfl, rfl⟩
  case passOneEnd => exact fun h ok s hs => onBlk_withBlk hs s (fun b => b.handOver h ok)
  case passOneCycleLimit | echoLogFull => exact fun h s hs => onBlk_withBlk hs s _
  case passTwoComplete => exact fun h s hs => ⟨onBlk_withBlk hs s _, Blk.passTwo_clean⟩
  case sliceMismatch =>
    exact fun h raw sig timing log entry kind addr s hs =>
      onBlk_withBlk hs s (fun b => b.mismatch h raw sig timing log entry kind addr)
  case commitComplete =>
    intro h s hs
    dsimp only [exec, execCommitComplete]
    rw [hs, onMem_withMem]

end Sys2Proof.Machine
end

section
/-!
PROOFS. A raising below SV2 (R640, R641): what it counts, marks and logs, and that no reaction follows.
-/

namespace Sys2Proof.Machine

theorem F.fcuSrc_ok (k : Nat) : (F.FCU_SRC_ACTIVE k).Ok ∧ (F.FCU_SRC_PEND k).Ok ∧ (F.FCU_SRC_ESC k).Ok ∧
    (F.FCU_SRC_SEV k).Ok := by
  simp [Fld.Ok, F.FCU_SRC_ACTIVE, F.FCU_SRC_PEND, F.FCU_SRC_ESC, F.FCU_SRC_SEV]

/-- Of FCU_SRC a mark of ACTIVE or of PEND reaches the field alone; the bit maps are registers of their own. -/
theorem Blk.fld_setActive (b : Blk) {k : Nat} {g : Fld} (hg : g.a = R.FCU_SRC k) :
    (b.setActive k true).fld g = (b.putB (F.FCU_SRC_ACTIVE k) true).fld g :=
  Blk.fld_put_reg _ _ _ _ (by rw [hg]; simp only [F.FCU_ACTIVE_ACTIVE, R.FCU_ACTIVE, R.FCU_SRC]; omega)

theorem Blk.fld_setPend (b : Blk) {k : Nat} {g : Fld} (hg : g.a = R.FCU_SRC k) :
    (b.setPend k true).fld g = (b.putB (F.FCU_SRC_PEND k) true).fld g :=
  Blk.fld_put_reg _ _ _ _ (by rw [hg]; simp only [F.FCU_PEND_PEND, R.FCU_PEND, R.FCU_SRC]; omega)

theorem Blk.regsSame_setActive (b : Blk) (k : Nat) :
    RegsSame b (b.setActive k true) [R.FCU_SRC k, R.FCU_ACTIVE (k / 32)] :=
  ((b.regsSame_put (F.FCU_SRC_ACTIVE k) 1).mono (by simp [F.FCU_SRC_ACTIVE])).trans
    ((Blk.regsSame_put _ (F.FCU_ACTIVE_ACTIVE (k / 32)) _).mono (by simp [F.FCU_ACTIVE_ACTIVE]))

theorem Blk.regsSame_setPend (b : Blk) (k : Nat) :
    RegsSame b (b.setPend k true) [R.FCU_SRC k, R.FCU_PEND (k / 32)] :=
  ((b.regsSame_put (F.FCU_SRC_PEND k) 1).mono (by simp [F.FCU_SRC_PEND])).trans
    ((Blk.regsSame_put _ (F.FCU_PEND_PEND (k / 32)) _).mono (by simp [F.FCU_PEND_PEND]))

/-- What software reads of the log and of the worst severity follows in four registers. -/
theorem Blk.regsSame_fcuSync (b : Blk) :
    RegsSame b b.fcuSync [R.FCU_STAT, R.FCU_LOG, R.FCU_LOG_TS, R.FCU_LOG_DET] := by
  intro a ha
  simp only [List.mem_cons, List.not_mem_nil, or_false, not_or] at ha
  obtain ⟨hstat, hlog, hts, hdet⟩ := ha
  unfold Blk.fcuSync
  dsimp only [Blk.putB]
  split <;> simp [Blk.reg_put_other, F.FCU_STAT_SV_MAX, F.FCU_STAT_FAULT, F.FCU_STAT_LOG_COUNT, F.FCU_LOG_TS_TS,
    F.FCU_LOG_DET_DET, hstat, hlog, hts, hdet]

@[simp] theorem Blk.fcuSync_kc (b : Blk) : b.fcuSync.kc = b.kc := by
  unfold Blk.fcuSync
  dsimp only
  split <;> simp

/-! ## The count -/

/-- The marks of a raising are made before the FCU notes when it came. -/
theorem Blk.fcuCount_sameRegs (b : Blk) (r : Raise) :
    RegsSame (((b.incSat (F.FCU_CNT_RAISED r.src)).setActive r.src true).setPend r.src true) (b.fcuCount r) [] :=
  regsSame_of_regs rfl

theorem Blk.fcuCount_src (b : Blk) (r : Raise) {g : Fld} (hg : g.a = R.FCU_SRC r.src) :
    (b.fcuCount r).fld g = (((b.incSat (F.FCU_CNT_RAISED r.src)).setActive r.src true).putB
      (F.FCU_SRC_PEND r.src) true).fld g :=
  ((b.fcuCount_sameRegs r).fld List.not_mem_nil).trans (Blk.fld_setPend _ hg)

theorem Blk.fcuCount_pend (b : Blk) (r : Raise) : (b.fcuCount r).fld (F.FCU_SRC_PEND r.src) = 1 := by
  obtain ⟨-, hpend, -⟩ := F.fcuSrc_ok r.src
  rw [b.fcuCount_src r rfl]
  exact Blk.fld_put_same _ _ 1 hpend

/-- Another field of FCU_SRC is as the mark of ACTIVE leaves it. -/
theorem Blk.fcuCount_fld (b : Blk) (r : Raise) {g : Fld} (hok : g.Ok) (hg : g.a = R.FCU_SRC r.src)
    (hapart : 29 < g.lo ∨ g.hi < 29) :
    (b.fcuCount r).fld g = ((b.incSat (F.FCU_CNT_RAISED r.src)).putB (F.FCU_SRC_ACTIVE r.src) true).fld g := by
  obtain ⟨-, hpend, -⟩ := F.fcuSrc_ok r.src
  rw [b.fcuCount_src r hg, Blk.putB, Blk.fld_put_other _ _ _ _ hpend hok hapart]
  exact Blk.fld_setActive _ hg

theorem Blk.fcuCount_active (b : Blk) (r : Raise) : (b.fcuCount r).fld (F.FCU_SRC_ACTIVE r.src) = 1 := by
  obtain ⟨hactive, -⟩ := F.fcuSrc_ok r.src
  rw [b.fcuCount_fld r hactive rfl (.inl (by simp [F.FCU_SRC_ACTIVE]))]
  exact Blk.fld_put_same _ _ 1 hactive

theorem Blk.fcuCount_sevOf (b : Blk) (r : Raise) : (b.fcuCount r).sevOf r.src = b.sevOf r.src := by
  obtain ⟨hactive, -, -, hsev⟩ := F.fcuSrc_ok r.src
  have hfld : (b.fcuCount r).fld (F.FCU_SRC_SEV r.src) = b.fld (F.FCU_SRC_SEV r.src) := by
    rw [b.fcuCount_fld r hsev rfl (.inr (by simp [F.FCU_SRC_SEV])), Blk.putB,
      Blk.fld_put_other _ _ _ _ hactive hsev (.inr (by simp [F.FCU_SRC_SEV, F.FCU_SRC_ACTIVE]))]
    exact Blk.fld_put_reg _ _ _ _ (by simp only [F.FCU_SRC_SEV, F.FCU_CNT_RAISED, R.FCU_CNT, R.FCU_SRC]; omega)
  rw [Blk.sevOf, Blk.sevOf, hfld]

theorem Blk.fcuCount_raised (b : Blk) (r : Raise) : (b.fcuCount r).fld (F.FCU_CNT_RAISED r.src) =
    min (b.fld (F.FCU_CNT_RAISED r.src) + 1) (2 ^ (F.FCU_CNT_RAISED r.src).width - 1) := by
  have hcnt (l : List Nat) (hl : l = [R.FCU_SRC r.src, R.FCU_ACTIVE (r.src / 32)] ∨
      l = [R.FCU_SRC r.src, R.FCU_PEND (r.src / 32)]) : (F.FCU_CNT_RAISED r.src).a ∉ l := by
    rcases hl with rfl | rfl <;>
      simp only [F.FCU_CNT_RAISED, R.FCU_CNT, R.FCU_SRC, R.FCU_ACTIVE, R.FCU_PEND, List.mem_cons, List.not_mem_nil,
        or_false] <;> omega
  have hpend := (Blk.regsSame_setPend ((b.incSat (F.FCU_CNT_RAISED r.src)).setActive r.src true) r.src).fld
    (hcnt _ (.inr rfl))
  have hactive := (Blk.regsSame_setActive (b.incSat (F.FCU_CNT_RAISED r.src)) r.src).fld (hcnt _ (.inl rfl))
  have hmax : min (b.fld (F.FCU_CNT_RAISED r.src) + 1) (2 ^ (F.FCU_CNT_RAISED r.src).width - 1) <
      2 ^ (F.FCU_CNT_RAISED r.src).width := by
    have hpos := Nat.two_pow_pos (F.FCU_CNT_RAISED r.src).width
    omega
  have hinc : (b.incSat (F.FCU_CNT_RAISED r.src)).fld (F.FCU_CNT_RAISED r.src) = _ :=
    b.fld_put_same _ _ (by simp [Fld.Ok, F.FCU_CNT_RAISED])
  calc
    (b.fcuCount r).fld (F.FCU_CNT_RAISED r.src) = _ := (b.fcuCount_sameRegs r).fld List.not_mem_nil
    _ = _ := hpend
    _ = _ := hactive
    _ = _ := hinc
    _ = _ := Nat.mod_eq_of_lt hmax

/-! ## The entry of the log -/

/-- Where the log has room an entry is added, and no register changes. -/
theorem Blk.fcuLog_room {b : Blk} (hroom : b.k.fcu.log.length < 64) (r : Raise) (eff : Nat) (esc held : Bool) :
    ∃ e, (b.fcuLog r eff esc held).k.fcu.log = b.k.fcu.log ++ [e] ∧ (b.fcuLog r eff esc held).regs = b.regs ∧
      (b.fcuLog r eff esc held).kc = b.kc := by
  simp only [Blk.fcuLog, hroom, if_true]
  exact ⟨_, rfl, rfl, rfl⟩

/-- What the FCU notes of a raising below SV2 that is not escalated: ESC 0, its severity and an entry of the log. -/
def Blk.lowNote (b : Blk) (r : Raise) : Blk :=
  ((b.putB (F.FCU_SRC_ESC r.src) false).setFcu (fun f => { f with
    eff := f.eff.set (fun _ => 0) r.src (b.sevOf r.src) })).fcuLog r (b.sevOf r.src) false false

theorem Blk.lowNote_room {b : Blk} (hroom : b.k.fcu.log.length < 64) (r : Raise) :
    ∃ e, (b.lowNote r).k.fcu.log = b.k.fcu.log ++ [e] ∧ (b.lowNote r).regs =
      (b.putB (F.FCU_SRC_ESC r.src) false).regs ∧ (b.lowNote r).kc = b.kc := by
  unfold Blk.lowNote
  refine Blk.fcuLog_room ?_ r _ false false
  exact hroom

/-- No reaction follows below SV2. -/
theorem Blk.reactTo_low {b : Blk} {act : Nat} (h : act < 2) (r : Raise) : b.reactTo r act = b := by
  have hrestart : ¬ 2 ≤ act := by omega
  have hhandOver : act ≠ 3 := by omega
  simp [Blk.reactTo, hrestart, hhandOver]

theorem Blk.actsAs_low {b : Blk} {eff : Nat} (h : eff < 2) (r : Raise) : b.actsAs r eff = eff :=
  if_neg fun hpart => by omega

/-- That is all that follows once the raising counts. -/
theorem Blk.fcuAct_low {b : Blk} {r : Raise} (hsev : b.sevOf r.src < 2) :
    b.fcuAct r false false = (false, (b.lowNote r).fcuSync) := by
  have heff : min 4 (b.sevOf r.src + false.toNat) = b.sevOf r.src := by
    simp
    omega
  have hsv4 : (b.sevOf r.src == 4) = false := beq_eq_false_iff_ne.2 (by omega)
  simp only [Blk.fcuAct, heff, Blk.actsAs_low hsev, Blk.reactTo_low hsev, hsv4, Blk.lowNote]

theorem Blk.deliverRaise_low {b : Blk} {r : Raise} (hup : b.kc ≠ .down) (hplan : b.k.fcu.plan = true)
    (hnamed : faultNamed r.src = true) (hopen : b.classOpen (faultClass r.src) = false) (hsev : b.sevOf r.src < 2) :
    b.deliverRaise r false = ((b.fcuCount r).lowNote r).fcuSync := by
  have hact := Blk.fcuAct_low (b := b.fcuCount r) (r := r) (by rwa [Blk.fcuCount_sevOf])
  simp only [Blk.deliverRaise, hup, hplan, Blk.fcuRaise, hnamed, hopen, react, hact, if_true, if_false,
    Bool.false_and, Bool.or_self, Bool.false_eq_true, reduceCtorEq]

/-- Settles O30: once counted, such a raising enters the log with ESC 0, and no reaction follows. -/
theorem lowSeverityRaising : Obligations.LowSeverityRaising := by
  intro r s hsrc hnamed hrun hplan hsev hopen hroom
  have hkc : s.blk.kc = .run := by simpa [Blk.kcRun] using hrun
  have hup : s.blk.kc ≠ .down := by simp [hkc]
  have hdeliver := Blk.deliverRaise_low hup hplan hnamed hopen hsev
  obtain ⟨e, hlog, hregs, hkeep⟩ := Blk.lowNote_room (b := s.blk.fcuCount r) hroom r
  generalize (s.blk.fcuCount r).lowNote r = c at hdeliver hlog hregs hkeep
  have hsame : RegsSame ((s.blk.fcuCount r).putB (F.FCU_SRC_ESC r.src) false) c.fcuSync
      [R.FCU_STAT, R.FCU_LOG, R.FCU_LOG_TS, R.FCU_LOG_DET] :=
    ((regsSame_of_regs hregs).mono (List.nil_subset _)).trans c.regsSame_fcuSync
  obtain ⟨hactiveOk, hpendOk, hescOk, -⟩ := F.fcuSrc_ok r.src
  have hsrcReg {g : Fld} (hg : g.a = R.FCU_SRC r.src) :
      g.a ∉ [R.FCU_STAT, R.FCU_LOG, R.FCU_LOG_TS, R.FCU_LOG_DET] := by
    simp only [hg, R.FCU_SRC, R.FCU_STAT, R.FCU_LOG, R.FCU_LOG_TS, R.FCU_LOG_DET, List.mem_cons, List.not_mem_nil,
      or_false]
    omega
  have hcntReg : (F.FCU_CNT_RAISED r.src).a ∉ [R.FCU_STAT, R.FCU_LOG, R.FCU_LOG_TS, R.FCU_LOG_DET] := by
    simp only [F.FCU_CNT_RAISED, R.FCU_CNT, R.FCU_STAT, R.FCU_LOG, R.FCU_LOG_TS, R.FCU_LOG_DET, List.mem_cons,
      List.not_mem_nil, or_false]
    omega
  refine ⟨s.withBlk c.fcuSync, e, (exec_faultRaise hup hsrc).trans (by rw [hdeliver]), ?active, ?pend, ?esc, ?raised,
    (congrArg (fun k : KcPart => k.fcu.log) c.fcuSync_k).trans hlog, c.fcuSync_kc.trans (hkeep.trans hkc), rfl, rfl⟩
  case active =>
    exact (hsame.fld (hsrcReg rfl)).trans ((Blk.fld_put_other _ _ _ _ hescOk hactiveOk
      (.inl (by simp [F.FCU_SRC_ESC, F.FCU_SRC_ACTIVE]))).trans (s.blk.fcuCount_active r))
  case pend =>
    exact (hsame.fld (hsrcReg rfl)).trans ((Blk.fld_put_other _ _ _ _ hescOk hpendOk
      (.inl (by simp [F.FCU_SRC_ESC, F.FCU_SRC_PEND]))).trans (s.blk.fcuCount_pend r))
  case esc => exact (hsame.fld (hsrcReg rfl)).trans (Blk.fld_put_same _ _ 0 hescOk)
  case raised =>
    exact (hsame.fld hcntReg).trans ((Blk.fld_put_reg _ _ _ _ (by
      simp only [F.FCU_CNT_RAISED, F.FCU_SRC_ESC, R.FCU_CNT, R.FCU_SRC]; omega)).trans (s.blk.fcuCount_raised r))

end Sys2Proof.Machine
end

section
/-!
PROOFS. What accepted commands leave unchanged (R8, R109, R117, R123, R152, R157, R159, R200, R240, R347, R376, R388,
R416, R542, R557 to R565, R603, R615): each is the write of one register, whose operation reaches few others.
-/

namespace Sys2Proof.Machine

/-! ## Operations that reach the registers of a list -/

theorem RegsSame.put {b c : Blk} {l : List Nat} (h : RegsSame b c l) {f : Fld} (hf : f.a ∈ l) (v : Nat) :
    RegsSame b (c.put f v) l :=
  h.trans ((c.regsSame_put f v).mono (List.cons_subset.2 ⟨hf, List.nil_subset l⟩))

theorem RegsSame.writeReg {b c : Blk} {l : List Nat} (h : RegsSame b c l) {a : Nat} (ha : a ∈ l) (v : W32) :
    RegsSame b (c.writeReg a v) l :=
  h.trans ((c.regsSame_writeReg a v).mono (List.cons_subset.2 ⟨ha, List.nil_subset l⟩))

theorem RegsSame.setReg {b c : Blk} {l : List Nat} (h : RegsSame b c l) {a : Nat} (ha : a ∈ l) (v : W32) :
    RegsSame b (c.setReg a v) l :=
  fun x hx => by rw [Blk.reg_setReg, if_neg (ne_of_mem_of_not_mem ha hx).symm, h x hx]

theorem RegsSame.of_regs {b c d : Blk} {l : List Nat} (h : RegsSame b c l) (hd : d.regs = c.regs) : RegsSame b d l :=
  h.trans ((regsSame_of_regs hd).mono (List.nil_subset l))

theorem RegsSame.refl (b : Blk) (l : List Nat) : RegsSame b b l := fun _ _ => rfl

theorem RegsSame.ite {p : Prop} [Decidable p] {b c d : Blk} {l : List Nat} (hc : RegsSame b c l)
    (hd : RegsSame b d l) : RegsSame b (if p then c else d) l := by
  split
  · exact hc
  · exact hd

theorem RegsSame.foldl {α : Type} {l : List Nat} {f : Blk → α → Blk} {xs : List α}
    (hf : ∀ b, ∀ x ∈ xs, RegsSame b (f b x) l) (b : Blk) : RegsSame b (xs.foldl f b) l := by
  induction xs generalizing b with
  | nil => exact RegsSame.refl b l
  | cons x xs ih =>
    exact (hf b x List.mem_cons_self).trans (ih (fun c y hy => hf c y (List.mem_cons_of_mem x hy)) (f b x))

/-! ## The operations -/

section
variable (b : Blk)

theorem Blk.regsSame_kvStart (op slot : Nat) (ds : Bool) (src arg : Nat) :
    RegsSame b (b.kvStart op slot ds src arg) [R.KV_CMD] :=
  .ite (.refl b _) (b.regsSame_put F.KV_CMD_BUSY 1)

theorem Blk.regsSame_atuInv (all range : Bool) (c : Nat) : RegsSame b (b.atuInv all range c) [R.ATU_INV] :=
  .ite (.refl b _) (b.regsSame_put F.ATU_INV_BUSY 1)

theorem Blk.regsSame_ctxWrite (c op : Nat) : RegsSame b (b.ctxWrite c op) [R.ATU_CTX_STAT c] :=
  b.regsSame_put (F.ATU_CTX_STAT_BUSY c) 1

theorem Blk.regsSame_retryClear (ch : Nat) : RegsSame b (b.retryClear ch) [R.CH_PROT_STAT ch] :=
  .ite (.refl b _) (b.regsSame_put (F.CH_PROT_STAT_RETRY_CNT ch) 0)

/-- A latch that stands is refused its clearing in CH_PROT_EVT, or ends in CH_STAT, with it the retries (R152). -/
theorem Blk.regsSame_latchClear (ch : Nat) :
    RegsSame b (b.latchClear ch) [R.CH_STAT ch, R.CH_PROT_STAT ch, R.CH_PROT_EVT ch] := by
  have hlatch : RegsSame b (b.put (F.CH_STAT_LATCH ch) 0) [R.CH_STAT ch, R.CH_PROT_STAT ch, R.CH_PROT_EVT ch] :=
    (RegsSame.refl b _).put (f := F.CH_STAT_LATCH ch) (.head _) 0
  have hrefused := (RegsSame.refl b _).put (f := F.CH_PROT_EVT_CLR_REF ch)
    (l := [R.CH_STAT ch, R.CH_PROT_STAT ch, R.CH_PROT_EVT ch]) (.tail _ (.tail _ (.head _))) 1
  have hretries := hlatch.put (f := F.CH_PROT_STAT_RETRY_CNT ch) (.tail _ (.head _)) 0
  exact .ite (.refl b _) (.ite hrefused (.ite hretries hlatch))

theorem Blk.regsSame_pgWrite (n g : Nat) (v : W32) :
    RegsSame b (b.pgWrite n g (R.PG_PERIOD n g) v) [R.PG_PERIOD n g, R.PG_CTL n g] :=
  .ite (.refl b _) (.ite ((RegsSame.refl b _).put (f := F.PG_CTL_WR_IGN n g) (.tail _ (.head _)) 1)
    ((RegsSame.refl b _).writeReg (.head _) v))

/-- WM_ABOVE of the die's channels follows the ambient temperature (R159). -/
theorem Blk.regsSame_ambWrite (n : Nat) (v : W32) : RegsSame b (b.ambWrite n v)
    (R.WM_AMB n :: (List.range 16).map (fun j => R.CH_PROT_STAT (16 * n + j))) := by
  refine .ite (.refl b _) ?_
  extract_lets b1
  have hb1 : RegsSame b b1 (R.WM_AMB n :: (List.range 16).map (fun j => R.CH_PROT_STAT (16 * n + j))) :=
    ((RegsSame.refl b _).writeReg (.head _) v).put (f := F.WM_AMB_STALE n) (.head _) 0
  refine (hb1.of_regs (d := b1.setDie n _) rfl).trans (RegsSame.foldl (fun c k hk => ?_) _)
  obtain ⟨j, hj, rfl⟩ : ∃ j ∈ List.range 16, 16 * n + j = k := List.mem_map.1 (List.mem_filter.1 hk).1
  have hlisted : R.CH_PROT_STAT (16 * n + j) ∈ (List.range 16).map (fun j => R.CH_PROT_STAT (16 * n + j)) :=
    List.mem_map_of_mem hj
  exact (RegsSame.refl c _).put (f := F.CH_PROT_STAT_WM_ABOVE (16 * n + j)) (.tail _ hlisted) _

theorem Blk.regsSame_diEvtWrite (n : Nat) (v : W32) :
    RegsSame b (b.diEvtWrite n v) [R.DI_EVT n, R.DI_STAT n] := by
  have hevt : RegsSame b (b.writeReg (R.DI_EVT n) v) [R.DI_EVT n, R.DI_STAT n] :=
    (RegsSame.refl b _).writeReg (.head _) v
  unfold Blk.diEvtWrite
  extract_lets b1 b2
  have hb2 : RegsSame b b2 [R.DI_EVT n, R.DI_STAT n] :=
    .ite (hevt.put (f := F.DI_STAT_STORM_CNT n) (.tail _ (.head _)) 0) hevt
  exact .ite hb2 (hb2.of_regs (b2.msg_regs _))

theorem Blk.regsSame_qpCtl (q : Nat) (v : W32) : RegsSame b (b.qpCtl q v) [R.QP_CTL q, R.QP_STAT q] :=
  have hctl := (RegsSame.refl b [R.QP_CTL q, R.QP_STAT q]).writeReg (.head _) v
  .ite hctl (hctl.put (f := F.QP_STAT_FETCH_ERR q) (.tail _ (.head _)) 0)

theorem Blk.regsSame_ctWrite (p : Nat) (v : W32) : RegsSame b (b.ctWrite p v) [R.ETH_CT p, R.ETH_STAT p] :=
  have hct := (RegsSame.refl b [R.ETH_CT p, R.ETH_STAT p]).writeReg (.head _) v
  .ite (hct.put (f := F.ETH_STAT_CT_THR p) (.tail _ (.head _)) 256) hct

theorem Blk.regsSame_qbvChange (p : Nat) : RegsSame b (b.qbvChange p) [R.QBV_STAT p] :=
  .ite ((b.regsSame_put (F.QBV_STAT_CHG_ERR p) 1).of_regs (Blk.raise_regs _ _ _ _ _))
    (((RegsSame.refl b _).of_regs rfl).put (f := F.QBV_STAT_PEND p) (.head _) 1)

theorem Blk.regsSame_lrCfg (n k : Nat) (v : W32) :
    RegsSame b (b.lrCfg n k v) [R.LR_CFG n k, R.LR_DATA_LO n k, R.LR_DATA_HI n k] :=
  have hcfg := (RegsSame.refl b [R.LR_CFG n k, R.LR_DATA_LO n k, R.LR_DATA_HI n k]).writeReg (.head _) v
  .ite ((hcfg.setReg (.tail _ (.head _)) _).setReg (.tail _ (.tail _ (.head _))) _) hcfg

theorem Blk.regsSame_ringCtl (r : Nat) (v : W32) : RegsSame b (b.ringCtl r v) [R.RING_CTL r, R.RING_STAT r] :=
  have hctl := (RegsSame.refl b [R.RING_CTL r, R.RING_STAT r]).writeReg (.head _) v
  .ite hctl (hctl.put (f := F.RING_STAT_FETCH_ERR r) (.tail _ (.head _)) 0)

theorem Blk.regsSame_slotRel (k : Nat) : RegsSame b (b.slotRel k) [R.WBG_SLOT_STAT k] :=
  .ite (.refl b _) (.ite ((RegsSame.refl b _).of_regs rfl) (b.regsSame_put (F.WBG_SLOT_STAT_STATE k) 0))

theorem Blk.regsSame_bplCmd (v : W32) : RegsSame b (b.bplCmd v) [R.BPL_CHECK] :=
  .ite (b.regsSame_put F.BPL_CHECK_BUSY 1) (.refl b _)

theorem Blk.regsSame_fcuTest (v : W32) : RegsSame b (b.fcuTest v) [] :=
  .ite (regsSame_of_regs (Blk.raise_regs _ _ _ _ _)) (.refl b _)

theorem Blk.regsSame_gateMark (g : Nat) : RegsSame b (b.gateMark g) [] :=
  .ite (.ite (regsSame_of_regs rfl) (.refl b _)) (regsSame_of_regs rfl)

theorem Blk.regsSame_gateWrite (g : Nat) (v : W32) : RegsSame b (b.gateWrite g v) [R.SYSCTL_GATE g] := by
  have hgate : RegsSame b (b.writeReg (R.SYSCTL_GATE g) v) [R.SYSCTL_GATE g] := b.regsSame_writeReg _ v
  unfold Blk.gateWrite
  extract_lets b1 b2
  have hb2 : RegsSame b b2 [R.SYSCTL_GATE g] := .ite hgate (hgate.put (f := F.SYSCTL_GATE_PWR_OFF g) (.head _) 0)
  have hsync : RegsSame b (b2.gateSync g) [R.SYSCTL_GATE g] :=
    (hb2.put (f := F.SYSCTL_GATE_PEND_CLK g) (.head _) _).put (f := F.SYSCTL_GATE_PEND_PWR g) (.head _) _
  exact hsync.trans ((Blk.regsSame_gateMark _ g).mono (List.nil_subset _))

theorem Blk.dieOf_acked (n : Nat) : b.acked.dieOf n = b.dieOf n := rfl

theorem Blk.aheadOf_acked (n t : Nat) : b.acked.aheadOf n t = b.aheadOf n t := rfl

theorem Blk.lateness_acked (n t : Nat) : b.acked.lateness n t = b.lateness n t := by
  rw [Blk.lateness, Blk.aheadOf_acked, Blk.lateness]

theorem Blk.dueEntry_acked (n : Nat) : b.acked.dueEntry n = b.dueEntry n := by
  simp only [Blk.dueEntry, Blk.dieOf_acked, Blk.lateness_acked]

/-- Without a timed command that is due nothing comes before an adoption (R117). -/
theorem Blk.runDue_none {n : Nat} (h : b.dueEntry n = none) (k : Nat) : b.runDue n k = b := by
  cases k with
  | zero => rfl
  | succ k => simp [Blk.runDue, h]

theorem Blk.regsSame_adopt {ch : Nat} (h : b.dueEntry (ch / 16) = none) (tag mode : Nat) :
    RegsSame b (b.adopt ch tag mode) [R.CH_STAT ch, R.CH_CMD_STAT ch] := by
  have hres {c : Blk} (hc : RegsSame b c [R.CH_STAT ch, R.CH_CMD_STAT ch]) (code : Nat) :
      RegsSame b (c.res ch code) [R.CH_STAT ch, R.CH_CMD_STAT ch] :=
    hc.put (f := F.CH_CMD_STAT_RESULT ch) (.tail _ (.head _)) code
  have hadopted := (RegsSame.refl b [R.CH_STAT ch, R.CH_CMD_STAT ch]).put (f := F.CH_STAT_ADOPTED ch) (.head _) 1
  unfold Blk.adopt
  rw [b.runDue_none h]
  exact .ite (hres (.refl b _) 3) (.ite (hres (.refl b _) 4) (.ite (hres hadopted 0) (hres (.refl b _) 0xd)))

end

/-! ## The commands -/

/-- An accepted write changes what its operation changes. -/
theorem changesOnly_onWrite {ok : Bool} (hok : ok = true) {c : Instr} {s : State} {i : Init} {a : Nat} {v : W32}
    {f : Blk → Blk} {l : List Nat} (hw : s.blk.writable i a = true)
    (hexec : exec c s = onBlk ok s (fun b => b.onWrite i a v f)) (hf : RegsSame s.blk.acked (f s.blk.acked) l) :
    ChangesOnly c s l :=
  ⟨_, hexec.trans (onBlk_onWrite hok hw v f), hf, rfl, rfl⟩

theorem changesOnly_unit {n k : Nat} (hn : n < k) {c : Instr} {s : State} {i : Init} {a : Nat} {v : W32}
    {f : Blk → Blk} {l : List Nat} (hw : s.blk.writable i a = true)
    (hexec : exec c s = onBlk (n < k) s (fun b => b.onWrite i a v f)) (hf : RegsSame s.blk.acked (f s.blk.acked) l) :
    ChangesOnly c s l := changesOnly_onWrite (decide_eq_true hn) hw hexec hf

theorem changesOnly_kvCmd {c : Instr} {s : State} {i : Init} {op slot src arg : Nat} {ds : Bool}
    (hw : s.blk.writable i R.KV_CMD = true) (hexec : exec c s = onBlk true s (fun b => b.kvCmd i op slot ds src arg)) :
    ChangesOnly c s [R.KV_CMD] :=
  changesOnly_onWrite rfl hw hexec (s.blk.acked.regsSame_kvStart op slot ds src arg)

theorem changesOnly_ctxWrite {x : Instr} {s : State} {i : Init} {c op : Nat} (hc : c < 256)
    (hw : s.blk.writable i (R.ATU_CTX_CTL c) = true)
    (hexec : exec x s = onBlk (c < 256) s (fun b => b.onWrite i (R.ATU_CTX_CTL c) ((F.ATU_CTX_CTL_OP c).word op)
      (fun b => b.ctxWrite c op))) : ChangesOnly x s [R.ATU_CTX_STAT c] :=
  changesOnly_unit hc hw hexec (s.blk.acked.regsSame_ctxWrite c op)

/-- Settles O28: each command is an accepted write, whose operation reaches no register but those listed. -/
theorem commandFrames : Obligations.CommandFrames := by
  intro i n g q k c ch v all range ds s
  refine ⟨?kvCmd, ?atuInvalidate, ?ctxCtl, ?sync, ?protClr, ?channelAdopt, ?pgPeriodWrite, ?ambWrite,
    ?wakeAcknowledge, ?qpEnableWrite, ?ctReset, ?qbvChange, ?linResponseUpdate, ?ringDisable, ?slotRelease, ?planCheck,
    ?fcuTest, ?gateRequest⟩
  case kvCmd =>
    intro hw x hx
    simp only [List.mem_cons, List.not_mem_nil, or_false] at hx
    rcases hx with rfl | rfl | rfl | rfl | rfl | rfl | rfl | rfl | rfl | rfl | rfl | rfl <;>
      exact changesOnly_kvCmd hw rfl
  case atuInvalidate => exact fun hw => changesOnly_onWrite rfl hw rfl (Blk.regsSame_atuInv _ all range n)
  case ctxCtl =>
    refine fun hc hw => ⟨fun x hx => ?_, changesOnly_unit hc hw rfl (RegsSame.refl _ _)⟩
    simp only [List.mem_cons, List.not_mem_nil, or_false] at hx
    rcases hx with rfl | rfl | rfl | rfl <;> exact changesOnly_ctxWrite hc hw rfl
  case sync =>
    exact fun hc hw => changesOnly_unit hc hw rfl
      ((Blk.regsSame_writeReg _ _ v).put (f := F.ATU_DIRTY_CTL_BUSY c) (.head _) 1)
  case protClr =>
    exact fun hch hw => ⟨changesOnly_unit hch hw rfl (Blk.regsSame_retryClear _ ch),
      changesOnly_unit hch hw rfl (Blk.regsSame_latchClear _ ch)⟩
  case channelAdopt =>
    exact fun hch hw hdue => changesOnly_unit hch hw rfl
      (s.blk.acked.regsSame_adopt ((s.blk.dueEntry_acked _).trans hdue) _ _)
  case pgPeriodWrite =>
    exact fun hn hg hw => changesOnly_onWrite (by simp [hn, hg]) hw rfl (Blk.regsSame_pgWrite _ n g v)
  case ambWrite => exact fun hn hw => changesOnly_unit hn hw rfl (Blk.regsSame_ambWrite _ n v)
  case wakeAcknowledge => exact fun hn hw => changesOnly_unit hn hw rfl (Blk.regsSame_diEvtWrite _ n _)
  case qpEnableWrite => exact fun hq hw => changesOnly_unit hq hw rfl (Blk.regsSame_qpCtl _ q v)
  case ctReset => exact fun hn hw => changesOnly_unit hn hw rfl (Blk.regsSame_ctWrite _ n v)
  case qbvChange => exact fun hn hw => changesOnly_unit hn hw rfl (Blk.regsSame_qbvChange _ n)
  case linResponseUpdate =>
    exact fun hn hk hw => changesOnly_onWrite (by simp [hn, hk]) hw rfl (Blk.regsSame_lrCfg _ n k _)
  case ringDisable => exact fun hn hw => changesOnly_unit hn hw rfl (Blk.regsSame_ringCtl _ n _)
  case slotRelease => exact fun hn hw => changesOnly_unit hn hw rfl (Blk.regsSame_slotRel _ n)
  case planCheck => exact fun hw => changesOnly_onWrite rfl hw rfl (Blk.regsSame_bplCmd _ v)
  case fcuTest => exact fun hw => changesOnly_onWrite rfl hw rfl (Blk.regsSame_fcuTest _ v)
  case gateRequest => exact fun hg hw => changesOnly_onWrite hg hw rfl (Blk.regsSame_gateWrite _ g v)

end Sys2Proof.Machine
end
